-- ==== Sys2Proof/Word.lean ====
section
/-! DEFINITION. The plainest data of the model: bytes, and tables of a fixed number of like things. -/

namespace Sys2Proof

/-- One byte of a management frame or of a sideband frame. -/
abbrev Byte := BitVec 8

/-- A fixed number `n` of like things, indexed from 0 (ports, lanes, plan entries, probes): a list that
carries the proof of its length. -/
structure Table (α : Type) (n : Nat) where
  cells : List α
  size : cells.length = n
deriving DecidableEq, Repr

/-- The thing at index `i`. -/
def Table.get {α : Type} {n : Nat} (t : Table α n) (i : Fin n) : α :=
  t.cells[i.val]'(by rw [t.size]; exact i.isLt)

/-- The table with the thing at index `i` replaced. -/
def Table.set {α : Type} {n : Nat} (t : Table α n) (i : Fin n) (a : α) : Table α n :=
  ⟨t.cells.set i.val a, by rw [List.length_set]; exact t.size⟩

/-- The table with the thing at index `i` changed by `f`. -/
def Table.modify {α : Type} {n : Nat} (t : Table α n) (i : Fin n) (f : α → α) : Table α n :=
  t.set i (f (t.get i))

/-- The table whose thing at index `i` is `f i`. -/
def Table.ofFn {α : Type} {n : Nat} (f : Fin n → α) : Table α n :=
  ⟨List.ofFn f, List.length_ofFn⟩

/-- The table of `n` copies of one thing. -/
def Table.replicate {α : Type} (n : Nat) (a : α) : Table α n :=
  ⟨List.replicate n a, List.length_replicate⟩

/-- The table with every thing changed by `f`, which also sees the index. -/
def Table.mapFin {α β : Type} {n : Nat} (f : Fin n → α → β) (t : Table α n) : Table β n :=
  Table.ofFn fun i => f i (t.get i)

end Sys2Proof
end

