-- ==== Sys2Proof/Syntax.lean ====
section
/-! DEFINITION. The commands of the LB3204: one constructor of `Instr` per row of spec/opcode_table.json.
A row that is a request of the management controller carries the request's tag and its payload fields as
they stand on the line (R197), unchecked; the owning block checks them when the request is taken. A row
that is an event at a port, a lane or a pin names the port or lane and carries what the line brings. -/

namespace Sys2Proof

/-- The fields of a sideband frame as they stand on the line (Table 11-7), before the substitutions of
R67 and without kind, sync sequence and CRC. -/
structure SidebandFrame where
  ready : Bool
  keptValid : Bool
  senderChassis : BitVec 48
  senderPort : Byte
  stage : Byte
  verdictClass : Byte
  fenceMask : BitVec 4
  keptMask : BitVec 4
  expectedChassis : BitVec 48
  expectedPort : Byte
  generation : BitVec 16
  trim : Byte
  interval : Byte
  probeStamp : BitVec 32
  turnaround : BitVec 16
deriving DecidableEq, Repr

/-- The 37 bytes of a plan entry as PLAN_ENTRY carries them (Table 11-4); `label` holds its 16 bytes. -/
structure RawPlanEntry where
  expectation : Byte
  peerChassis : BitVec 48
  peerPort : Byte
  cableKind : Byte
  presence : Byte
  windowMin : BitVec 16
  windowMax : BitVec 16
  lanePolicy : Byte
  minWidth : Byte
  skewLimit : BitVec 16
  recovery : Byte
  retryLimit : Byte
  labelLength : Byte
  label : List Byte
deriving DecidableEq, Repr

/-- The fields of an override as PLAN_OVERRIDE APPEND carries them, in the order of Table 1-7. -/
structure RawOverride where
  localStart : Byte
  count : Byte
  chassis : BitVec 48
  portStart : Byte
  mode : Byte
deriving DecidableEq, Repr

/-- The commands. Ports are `Fin 32`, physical lanes `Fin 4`, probes `Fin 8`. -/
inductive Instr where
  /-- POWER_ON_RESET (R199): a whole power-on reset, from its start to its end. -/
  | powerOnReset
  /-- MANAGEMENT_FRAME_ARRIVAL (R175): a well-formed frame with this tag, kind and payload. -/
  | managementFrameArrival (tag kind : Byte) (payload : List Byte)
  /-- MANAGEMENT_FRAME_ERROR (R173): a discard of the frame being collected. -/
  | managementFrameError
  /-- FRAMER_GAP_TIMEOUT (R173). -/
  | framerGapTimeout
  /-- LINE_BREAK (R174): the receive line has been low for 1 ms. -/
  | lineBreak
  /-- MANAGEMENT_FRAME_SENT (R178): the outbound transmitter ends its frame. -/
  | managementFrameSent
  /-- PLAN_BEGIN (R11) with its mode byte. -/
  | planBegin (tag mode : Byte)
  /-- PLAN_ENTRY (R13) with action "entry". -/
  | planEntry (tag address : Byte) (entry : RawPlanEntry)
  /-- PLAN_ENTRY (R13) with action "clear". -/
  | planEntryClear (tag address : Byte)
  /-- PLAN_OVERRIDE APPEND (R5). -/
  | planOverrideAppend (tag : Byte) (fields : RawOverride)
  /-- PLAN_OVERRIDE DELETE (R6). -/
  | planOverrideDelete (tag position : Byte)
  /-- PLAN_END (R14). -/
  | planEnd (tag : Byte) (generation : BitVec 16)
  /-- PLAN_READ ENTRIES (R21). -/
  | planReadEntries (tag start count : Byte)
  /-- PLAN_READ EFFECTIVE (R21). -/
  | planReadEffective (tag start count : Byte)
  /-- PLAN_READ OVERRIDES (R21). -/
  | planReadOverrides (tag start count : Byte)
  /-- PORT_CONTROL (R54): port mask, clear mask, set mask. -/
  | portControl (tag : Byte) (ports : BitVec 32) (clear set : Byte)
  /-- PORT_RESTART (R57). -/
  | portRestart (tag : Byte) (ports : BitVec 32)
  /-- PORT_RELEASE (R53). -/
  | portRelease (tag : Byte) (ports : BitVec 32)
  /-- LANE_EQ (R96) with a setting. -/
  | laneEq (tag lane setting : Byte)
  /-- LANE_EQ (R96) with "clear". -/
  | laneEqClear (tag lane : Byte)
  /-- MONITOR_SETUP (R112); the offset is in two's complement. -/
  | monitorSetup (tag lane offset : Byte) (low high : BitVec 16)
  /-- MONITOR_SCAN (R107). -/
  | monitorScan (tag : Byte) (lanes : BitVec 128) (passes : Byte)
  /-- MONITOR_CANCEL (R108). -/
  | monitorCancel (tag job : Byte)
  /-- MONITOR_READ RESULTS (R113). -/
  | monitorReadResults (tag start count : Byte)
  /-- MONITOR_READ JOBS (R113). -/
  | monitorReadJobs (tag : Byte)
  /-- PORT_TRIM (R140). -/
  | portTrim (tag port : Byte) (trim : BitVec 16)
  /-- IDENTIFY (R182). -/
  | identify (tag : Byte)
  /-- CONFIG_SET (R180): pairs of a parameter identifier and a 6-byte value. -/
  | configSet (tag : Byte) (pairs : List (Byte × BitVec 48))
  /-- CONFIG_GET (R181). -/
  | configGet (tag : Byte) (ids : List Byte)
  /-- DEVICE_RESET (R184): the request, whose reset is taken when its reply has been sent. -/
  | deviceReset (tag : Byte)
  /-- NOTICE_CONTROL (R183) with ENABLE and the flush flag 0. -/
  | noticeControlEnable (tag : Byte)
  /-- NOTICE_CONTROL (R183) with DISABLE and the flush flag 0. -/
  | noticeControlDisable (tag : Byte)
  /-- NOTICE_CONTROL (R183) with KEEP and the flush flag 0. -/
  | noticeControlKeep (tag : Byte)
  /-- NOTICE_CONTROL (R183) with the flush flag 1 and this transmission action. -/
  | noticeFlush (tag action : Byte)
  /-- PORT_STATUS (R186). -/
  | portStatus (tag port : Byte)
  /-- NEIGHBOR_READ (R187). -/
  | neighborRead (tag start count : Byte)
  /-- FIND (R190). -/
  | find (tag start direction limit selector comparison : Byte) (key : BitVec 48)
  /-- COUNTERS (R192) with the clear flag 0. -/
  | counters (tag port : Byte)
  /-- COUNTERS (R192) with the clear flag 1. -/
  | countersClear (tag port : Byte)
  /-- PRESENT_N_CHANGE (R26): the pin's new level, `low` when a cable is seated. -/
  | presentNChange (port : Fin 32) (low : Bool)
  /-- PRESENCE_SETTLED_ASSERTED (R27): the debounce timer's expiry with the input low. -/
  | presenceSettledAsserted (port : Fin 32)
  /-- PRESENCE_SETTLED_DEASSERTED (R28): the debounce timer's expiry with the input high. -/
  | presenceSettledDeasserted (port : Fin 32)
  /-- STAGE_TIMER_EXPIRY (R42). -/
  | stageTimerExpiry (port : Fin 32)
  /-- BACKOFF_TIMER_EXPIRY (R47). -/
  | backoffTimerExpiry (port : Fin 32)
  /-- SILENCE_TIMER_EXPIRY (R69). -/
  | silenceTimerExpiry (port : Fin 32)
  /-- BEACON_TIMER_EXPIRY (R62). -/
  | beaconTimerExpiry (port : Fin 32)
  /-- SIDEBAND_FRAME_END (R63): a frame and its idle gap have ended. -/
  | sidebandFrameEnd (port : Fin 32)
  /-- BEACON_RECEIVED (R68): the 32nd byte of a BEACON whose CRC checks. -/
  | beaconReceived (port : Fin 32) (frame : SidebandFrame)
  /-- PROBE_RECEIVED (R65): the 32nd byte of a PROBE whose CRC checks. -/
  | probeReceived (port : Fin 32) (frame : SidebandFrame)
  /-- ECHO_RECEIVED (R144): the 32nd byte of an ECHO whose CRC checks; its first bit passed the receive stamp point `lag` TU after the
  sync sequence was found, at most a bit time of 125 TU (R60, R68). -/
  | echoReceived (port : Fin 32) (frame : SidebandFrame) (lag : Fin 126)
  /-- SIDEBAND_FRAME_REJECTED (R66): the 32nd byte of a frame that fails a check. -/
  | sidebandFrameRejected (port : Fin 32)
  /-- SCHEDULE_TIMER_EXPIRY (R143). -/
  | scheduleTimerExpiry (port : Fin 32)
  /-- PROBE_TIMEOUT_EXPIRY (R144); probe 0 is the manual's probe 1. -/
  | probeTimeoutExpiry (port : Fin 32) (probe : Fin 8)
  /-- LOCK_ACQUIRED (R82). -/
  | lockAcquired (port : Fin 32) (lane : Fin 4)
  /-- LOCK_TIMER_EXPIRY (R82). -/
  | lockTimerExpiry (port : Fin 32) (lane : Fin 4)
  /-- LOSS_OF_LOCK (R92 to R94): the physical lanes of one port that lose lock at this event. -/
  | lossOfLock (port : Fin 32) (lanes : BitVec 4)
  /-- MEASUREMENT_COMPLETE (R101) with the raw value of the eye opening in mV, 0 to 1023 (R99). -/
  | measurementComplete (raw : BitVec 10)
  /-- MARKER_DECODED (R118): a decodable marker, its sense on the lane's pair, its fields, and how many SU ago
  its first bit passed the stamp point. -/
  | markerDecoded (port : Fin 32) (lane : Fin 4) (lineInverted : Bool) (logical : Fin 4) (sequence : Fin 16)
      (age : BitVec 16)
  /-- MARKER_WAIT_EXPIRY (R119). -/
  | markerWaitExpiry (port : Fin 32)
  /-- COLLECTION_CLOSE (R124). -/
  | collectionClose (port : Fin 32)
  /-- MANAGEMENT_BYTE_RECEIVED (R173): one byte and whether its stop bit is high. -/
  | managementByteReceived (byte : Byte) (stopHigh : Bool)
  /-- SYNC_SEQUENCE_FOUND (R60, R66): a sync sequence ends on the port's receive line. -/
  | syncSequenceFound (port : Fin 32)
deriving DecidableEq, Repr

end Sys2Proof
end

