-- ==== Sys2Proof/Decode.lean ====
section
/-! DEFINITION. The command a word spells. Every row of the opcode table gives its command no bits (its "fields" are empty):
commands come as frames, bytes and events (chapters 9 and 11), and their layouts stand in Machine/Formats.lean and
Machine/Operands.lean. -/

namespace Sys2Proof

/-- The command that a word of the table's bits spells: none, because no row gives bits (log entry 30). -/
def decodeTableWord (_nbits _w : Nat) : Option Instr := none

end Sys2Proof
end

