-- ==== Sys2Proof/Config.lean ====
section
/-! DEFINITION. What is fixed for the machine: lengths of time in timestamp units (TU, 0.8 ns, Table 1-2),
the codes and capacities of the part, and the free values that the manual leaves open (no body: nothing
can be proved of their value). -/

namespace Sys2Proof.Config

/-- 1 ms is 1,250,000 TU. -/
def tuPerMs : Nat := 1250000

/-- 0.25 ms, the step of the port term of R46. -/
def tuPerQuarterMs : Nat := 312500

/-- The framer's gap timer, 200 µs (R173). -/
def gapTime : Nat := 250000

/-- One measurement, 40 µs (R99). -/
def measurementTime : Nat := 50000

/-- The schedule timer of a probe burst, 100 µs (R143). -/
def scheduleTime : Nat := 125000

/-- The timeout of a probe, 1 ms after its T1 (R144). -/
def probeTimeout : Nat := 1250000

/-- One marker period (R117). -/
def markerPeriod : Nat := 819

/-- Sixteen marker periods of 819 TU (R119). -/
def markerWait : Nat := 13104

/-- Eight marker periods of 819 TU (R122). -/
def collectionTime : Nat := 6552

/-- From the start of a PROBE to the moment its last CRC bit passes: 272 bit times of 125 TU (R60, R64).
DEDUCED, log entry 10. -/
def probeStampLead : Nat := 34000

/-- From the start of an ECHO to the first bit after its sync sequence: 16 bit times of 125 TU (R60, R65).
DEDUCED, log entry 10. -/
def echoStampLead : Nat := 2000

/-- SU that pass in one TU: 0.8 ns is 8 times 100 ps (Table 1-2). -/
def suPerTu : Nat := 8

/-- The saturation value of every counter (R191). -/
def counterMax : Nat := 4294967295

/-- The skew limit of an entry that has none (R1, R129). -/
def defaultSkewLimit : Nat := 480

/-- What the two silicon paths of both ends add to a loop: 2 × (40 + 56) TU (section 7.5, R148). -/
def siliconDelay : Nat := 192

/-- The payload bytes a reply can hold: a frame's length byte is at most 250 (R21, R113, R172, R186, R187). -/
def replyRoom : Nat := 248

/-- Vendor code, part code and revision of IDENTIFY (R182). -/
def vendorCode : BitVec 16 := 0x0B7E
def partCode : BitVec 16 := 0x3204
def revision : Byte := 1

/-- FREE VALUE: whether the ranging summary of a burst with fewer than four valid samples records the trims
and the cable kind (R148 names only the valid-sample count, N_min and R). Log entry 15. -/
opaque shortBurstRecordsTrims : Bool

/-- FREE VALUE: the byte PORT_STATUS carries for the VERIFY sub-state of a port that is not in VERIFY (R23
calls the sub-state meaningful in VERIFY). Log entry 16. -/
opaque subStateOutsideVerify : Byte

/-- FREE VALUE: the kind of a QUEUE_FULL reply to a frame whose kind is no request kind (R175 points to R177, which gives the
reply kind of requests and of UNKNOWN_KIND replies only). Log entry 32. -/
opaque queueFullKind : Byte → Byte

end Sys2Proof.Config
end

