-- ==== Sys2Proof/Machine/State.lean ====
section
/-! DEFINITION. The state of the LB3204: every piece of state the manual gives its eleven blocks, as plain
data, and the state after power-on reset. -/

namespace Sys2Proof.Machine

/-! ## Timers -/

/-- A timer: stopped, running with the time left in TU, or paused with the time that remained (R38). -/
inductive Timer where
  | stopped
  | running (left : Nat)
  | paused (left : Nat)
deriving DecidableEq, Repr

/-! ## Plan Table (chapter 1) -/

/-- The expectation of a plan entry, or the kind of an effective expectation (Tables 1-6 and 1-8). -/
inductive Expectation where
  | planned | unused | any
deriving DecidableEq, Repr

/-- Lane order policy (Table 1-6). -/
inductive LanePolicy where
  | strict | reversalOk | any
deriving DecidableEq, Repr

/-- Recovery mode (Table 1-6). -/
inductive Recovery where
  | auto | manual
deriving DecidableEq, Repr

/-- Minimum width 1, 2 or 4 (Table 1-6). -/
inductive MinWidth where
  | one | two | four
deriving DecidableEq, Repr

/-- A peer identity (section 1.6). -/
structure PeerId where
  chassis : BitVec 48
  port : Fin 32
deriving DecidableEq, Repr

/-- A length window in cm (Table 1-6). -/
structure Window where
  low : Nat
  high : Nat
deriving DecidableEq, Repr

/-- The base fields of Table 1-8, which an entry carries beside its expectation and peer. -/
structure BaseFields where
  cableKind : Fin 8
  window : Option Window
  policy : LanePolicy
  minWidth : MinWidth
  skewLimit : Option Nat
  recovery : Recovery
  retryLimit : Nat
  label : Option (List Byte)
deriving DecidableEq, Repr

/-- A written plan entry (R1). -/
structure PlanEntry where
  expectation : Expectation
  peer : Option PeerId
  base : BaseFields
deriving DecidableEq, Repr

/-- The mode of an override (Table 1-7). -/
inductive OverrideMode where
  | replace | either
deriving DecidableEq, Repr

/-- An override (Table 1-7). -/
structure Override where
  localStart : Fin 32
  count : Nat
  chassis : BitVec 48
  portStart : Fin 32
  mode : OverrideMode
deriving DecidableEq, Repr

/-- The effective expectation record of one port (Table 1-8). -/
structure Effective where
  kind : Expectation
  accepted : List PeerId
  advertised : Option PeerId
  matched : Option Nat
  base : BaseFields
deriving DecidableEq, Repr

/-- Plan state (Table 1-9). -/
inductive PlanState where
  | empty | loading | closed
deriving DecidableEq, Repr

/-- The Plan Table: working contents, cursor, generation, epoch, changed flags and cache. -/
structure Plan where
  state : PlanState
  entries : Table (Option PlanEntry) 32
  overrides : List Override
  cursor : Nat
  generation : BitVec 16
  epoch : BitVec 32
  changed : Table Bool 32
  cache : Table Effective 32
deriving DecidableEq, Repr

/-- The base fields of an absent entry (R2). -/
def absentBase : BaseFields where
  cableKind := 0
  window := none
  policy := .reversalOk
  minWidth := .four
  skewLimit := none
  recovery := .manual
  retryLimit := 0
  label := none

/-- The absent-entry record (R8). -/
def absentEffective : Effective where
  kind := .unused
  accepted := []
  advertised := none
  matched := none
  base := absentBase

/-- The Plan Table after power-on reset (R22). -/
def Plan.reset : Plan where
  state := .empty
  entries := .replicate 32 none
  overrides := []
  cursor := 0
  generation := 0
  epoch := 0
  changed := .replicate 32 false
  cache := .replicate 32 absentEffective

/-! ## Verdicts (chapter 8) -/

/-- Verdict classes (section 1.9). -/
inductive VerdictClass where
  | none | pass | warn | fail
deriving DecidableEq, Repr

/-- The verdict codes, in priority order (Table 8-3). -/
inductive Code where
  | duplicatePeer | pairSwapped | wrongChassis | wrongPort | unplanned | peerDisagrees | peerFailed
  | laneMapInvalid | laneCrossed | lanesInsufficient | skewExcess | lengthOutOfWindow
  | widthDegraded | skewUnstable | eqMarginal | polarityCorrected | lengthUnmeasured | lengthSuspect
  | planGenerationSkew
deriving DecidableEq, Repr

/-- Lane map classes (Table 6-4). -/
inductive MapClass where
  | identity | reversed | permuted | invalid
deriving DecidableEq, Repr

/-- Lane alignment status (Table 6-3). -/
inductive AlignStatus where
  | notAligned | kept | noMarker | noLock | skewUnstable | excluded | outsideSubset
deriving DecidableEq, Repr

/-- What a first computation holds of one physical lane (Table 8-1). `logical` is the logical lane it carries, by which R158
finds whether it lies in the final set; it is held beside Table 8-1's fields and not reported (log entry 43). -/
structure HeldLane where
  status : AlignStatus
  logical : Option (Fin 4)
  marginal : Bool
  inversion : Bool
deriving DecidableEq, Repr

/-- The held lane findings of a verdict record (Table 8-1). -/
structure HeldFindings where
  skewExcess : Bool
  lanes : Table HeldLane 4
deriving DecidableEq, Repr

/-- The verdict record of a port (Table 8-1); its primary code is the head of `codes` (R162). -/
structure Verdict where
  cls : VerdictClass
  codes : List Code
  partner : Option (Fin 32)
  finalSet : Option (BitVec 4)
  finalWidth : Option Nat
  order : Option MapClass
  length : Option Nat
  unmeasured : Bool
  suspect : Bool
  findings : Option HeldFindings
  epoch : BitVec 32
  attempt : BitVec 32
  pending : Bool
deriving DecidableEq, Repr

/-- The empty verdict record (R151). Its epoch and attempt are DESIGN CHOICE 0, log entry 20. -/
def Verdict.reset : Verdict where
  cls := .none
  codes := []
  partner := Option.none
  finalSet := Option.none
  finalWidth := Option.none
  order := Option.none
  length := Option.none
  unmeasured := false
  suspect := false
  findings := Option.none
  epoch := 0
  attempt := 0
  pending := false

/-! ## Port Bring-Up Engine (chapter 2) -/

/-- VERIFY sub-states (Table 2-4). In PLAN_WAIT, `taken` says that the peer kept mask has been taken and the
burst has completed (R10, R38, Table 2-3), log entry 12. -/
inductive VerifySub where
  | planWait (taken : Bool) | maskWait | ranging | readyWait
deriving DecidableEq, Repr

/-- The stage a port is held at (R51). -/
inductive HeldStage where
  | sideband | align | verify
deriving DecidableEq, Repr

/-- The next step of a held port (R51). -/
inductive NextStep where
  | laneLock | verify | ready
deriving DecidableEq, Repr

/-- Port states (Table 2-1), with the sub-state in VERIFY and the hold position in HELD. -/
inductive PortState where
  | disabled
  | waitCable
  | sideband
  | laneLock
  | align
  | verify (sub : VerifySub)
  | held (stage : HeldStage) (next : NextStep)
  | active
  | backoff
  | fault
deriving DecidableEq, Repr

/-- Last-failure causes (Table 2-5). -/
inductive Cause where
  | cableRemoved | stageTimeout | noLanes | verdictFail | peerLost | laneLost | peerRestarted
deriving DecidableEq, Repr

/-- The last-failure record (R23). -/
structure LastFailure where
  cause : Cause
  stage : Nat
  lane : Option (Fin 4)
  attempt : BitVec 32
deriving DecidableEq, Repr

/-! ## Sideband Unit (chapter 3) -/

/-- Sideband frame kinds (section 3.1.1). -/
inductive FrameKind where
  | beacon | probe | echo
deriving DecidableEq, Repr

/-- Status of a neighbor record (section 3.4). -/
inductive NeighborStatus where
  | empty | current | stale
deriving DecidableEq, Repr

/-- The neighbor record of a port (Table 3-2). -/
structure Neighbor where
  status : NeighborStatus
  identity : Option PeerId
  expected : Option PeerId
  generation : BitVec 16
  trim : Nat
  interval : Nat
  fence : BitVec 4
  stage : Nat
  kept : Option (BitVec 4)
  cls : VerdictClass
  ready : Bool
  length : Option Nat
  unmeasured : Bool
  suspect : Bool
  captureAttempt : BitVec 32
deriving DecidableEq, Repr

/-- The EMPTY record (R70). That its generation, trim, interval, fence mask and stage are held as 0 and its class as NONE, where R70 says that
it holds no peer fields, is the model's choice (DESIGN CHOICE, log entry 45). -/
def Neighbor.reset : Neighbor where
  status := .empty
  identity := none
  expected := none
  generation := 0
  trim := 0
  interval := 0
  fence := 0
  stage := 0
  kept := none
  cls := .none
  ready := false
  length := none
  unmeasured := false
  suspect := false
  captureAttempt := 0

/-- An occupied echo slot: the T1 of the probe answered and the probe's receive stamp (R65). -/
structure EchoSlot where
  t1 : BitVec 32
  received : BitVec 32
deriving DecidableEq, Repr

/-- The frame a transmitter is sending; `probe` names the probe of the running burst that a PROBE belongs
to, none once that burst is abandoned (R146). -/
structure SendingFrame where
  kind : FrameKind
  frame : SidebandFrame
  probe : Option (Fin 8)
deriving DecidableEq, Repr

/-- The transmit side of a Sideband Unit (R62, R63): beacon timer, waiting frames, frame in transmission. -/
structure SidebandTx where
  beaconTimer : Timer
  beaconWaiting : Bool
  probeWaiting : Option (Fin 8)
  echoes : List EchoSlot
  sending : Option SendingFrame
deriving DecidableEq, Repr

def SidebandTx.reset : SidebandTx where
  beaconTimer := .stopped
  beaconWaiting := false
  probeWaiting := none
  echoes := []
  sending := none

/-! ## Lane Front End (chapter 4) -/

/-- Reasons of FAILED (R78). -/
inductive FailReason where
  | noLock | eqEmpty | forcedFail
deriving DecidableEq, Repr

/-- Lane states (Table 4-1), with the marginal flag in GOOD and the reason in FAILED (R78). -/
inductive LaneState where
  | fenced
  | idle
  | locking
  | searching
  | good (marginal : Bool)
  | failed (reason : FailReason)
deriving DecidableEq, Repr

/-- The method of the latest search (R78). -/
inductive SearchMethod where
  | forced | hold | midpoint | none
deriving DecidableEq, Repr

/-- The measurement marker (R78). -/
inductive Marker where
  | none | waiting | inService | abandoned
deriving DecidableEq, Repr

/-- A run of settings from `low` to `high` (R87, R88). -/
structure Run where
  low : Fin 32
  high : Fin 32
deriving DecidableEq, Repr

/-- A lane of the Lane Front End (R78). `step` is the setting of the search's present step, `currentRun` and
`bestRun` the sweep's runs (R87), `polarityCounted` whether an inversion was reported in this attempt
(R95). -/
structure Lane where
  state : LaneState
  current : Fin 32
  previous : Fin 32
  forced : Option (Fin 32)
  inversion : Bool
  method : SearchMethod
  window : Option Run
  passMv : Nat
  minWindow : Nat
  step : Fin 32
  currentRun : Option Run
  bestRun : Option Run
  lockLosses : Nat
  lockTimer : Timer
  marker : Marker
  polarityCounted : Bool
deriving DecidableEq, Repr

/-- A lane after reset (R78). The captured threshold, window and sweep runs are DESIGN CHOICE 0 and none,
log entry 20. -/
def Lane.reset : Lane where
  state := .idle
  current := 16
  previous := 16
  forced := Option.none
  inversion := false
  method := .none
  window := Option.none
  passMv := 0
  minWindow := 0
  step := 0
  currentRun := Option.none
  bestRun := Option.none
  lockLosses := 0
  lockTimer := .stopped
  marker := .none
  polarityCounted := false

/-! ## Deskew Unit (chapter 6) -/

/-- Alignment phase (Table 6-1). -/
inductive AlignPhase where
  | idle | markerWait | collecting | fixed
deriving DecidableEq, Repr

/-- Per-lane state of a Deskew Unit (Table 6-2). -/
structure DeskewLane where
  seen : Bool
  logical : Option (Fin 4)
  stamps : Table (Option (BitVec 16)) 4
  differences : Table (Option Int) 4
  average : Option Int
  skew : Option Nat
  delay : Option Nat
  status : AlignStatus
deriving DecidableEq, Repr

def DeskewLane.reset : DeskewLane where
  seen := false
  logical := none
  stamps := .replicate 4 none
  differences := .replicate 4 none
  average := none
  skew := none
  delay := none
  status := .notAligned

/-- Per-port state of a Deskew Unit (Table 6-1). `stampCounter` is the marker stamp counter (R118), `decoded`
the latest sequence number decoded on each lane, most recent first (R122), `waitTimer` and `closeTimer` the
16-period wait (R119) and the 8-period close (R122). KEPT_VALID is the phase being FIXED (R116). -/
structure Deskew where
  phase : AlignPhase
  collection : Nat
  reference : Option (Fin 4)
  firstSequence : Option (Fin 16)
  appliedLimit : Option Nat
  mapClass : Option MapClass
  skewExcess : Bool
  maxKeptSkew : Option Nat
  keptMask : BitVec 4
  lanes : Table DeskewLane 4
  stampCounter : BitVec 16
  decoded : List (Fin 4 × Fin 16)
  waitTimer : Timer
  closeTimer : Timer
deriving DecidableEq, Repr

def Deskew.reset : Deskew where
  phase := .idle
  collection := 0
  reference := none
  firstSequence := none
  appliedLimit := none
  mapClass := none
  skewExcess := false
  maxKeptSkew := none
  keptMask := 0
  lanes := .replicate 4 DeskewLane.reset
  stampCounter := 0
  decoded := []
  waitTimer := .stopped
  closeTimer := .stopped

/-- The marker transmitter of a port (R117): the TU since its latest marker instant, and the sequence number of its next
marker. One serves the port's four lanes, which launch together. -/
structure MarkerTx where
  since : Nat
  sequence : Fin 16
deriving DecidableEq, Repr

/-- DESIGN CHOICE: the manual gives no first instant and no first sequence number, log entry 29. -/
def MarkerTx.reset : MarkerTx where
  since := 0
  sequence := 0

/-! ## Ranging Unit (chapter 7) -/

/-- Status of a probe (Table 7-2). -/
inductive ProbeStatus where
  | unrequested | waiting | outstanding | answered | timedOut
deriving DecidableEq, Repr

/-- One probe of a burst (Table 7-2). -/
structure Probe where
  status : ProbeStatus
  t1 : Option (BitVec 32)
  turnaround : Option (BitVec 16)
  t4 : Option (BitVec 32)
  net : Option Int
  timeout : Timer
deriving DecidableEq, Repr

def Probe.reset : Probe where
  status := .unrequested
  t1 := none
  turnaround := none
  t4 := none
  net := none
  timeout := .stopped

/-- The burst record of a port (Table 7-2). -/
structure Burst where
  running : Bool
  requested : Nat
  probes : Table Probe 8
  schedule : Timer
deriving DecidableEq, Repr

def Burst.reset : Burst where
  running := false
  requested := 0
  probes := .replicate 8 Probe.reset
  schedule := .stopped

/-- The ranging summary of a port (Table 7-3). -/
structure RangingSummary where
  validSamples : Option Nat
  minNet : Option Int
  loopDelay : Option Nat
  trims : Option (Nat × Nat)
  kind : Option (Fin 8 × Nat)
deriving DecidableEq, Repr

def RangingSummary.reset : RangingSummary where
  validSamples := none
  minNet := none
  loopDelay := none
  trims := none
  kind := none

/-! ## Counter Bank (chapter 10) -/

/-- The nine counters of a port (Table 10-2). -/
structure Counters where
  attempts : Nat
  successes : Nat
  linkLosses : Nat
  stageTimeouts : Nat
  validFrames : Nat
  rejectedFrames : Nat
  peerRestarts : Nat
  polarityCorrections : Nat
  measurements : Nat
deriving DecidableEq, Repr

def Counters.reset : Counters where
  attempts := 0
  successes := 0
  linkLosses := 0
  stageTimeouts := 0
  validFrames := 0
  rejectedFrames := 0
  peerRestarts := 0
  polarityCorrections := 0
  measurements := 0

/-! ## A port -/

/-- What the replicated blocks hold for one port: PBE (R23), SBU, four LFEs, DSU, RGU, VDU and CTB. `flags` has
ADMIN_ENABLE in bit 0, HOLD_ENABLE in bit 1 and FENCE0 to FENCE3 in bits 2 to 5 (Table 10-1). `rawPresent` is the
PRESENT_N pin being low, `present` the debounced presence (R26). `rx` is the sideband receiver (R60, R66): none while it hunts or is
off, and past a sync sequence the timestamp at which that sequence ended, from which an ECHO takes T4 (R68). -/
structure Port where
  state : PortState
  stageTimer : Timer
  backoffTimer : Timer
  retryCount : Nat
  attempt : BitVec 32
  highMark : Nat
  ready : Bool
  flags : BitVec 6
  rawPresent : Bool
  present : Bool
  debounce : Timer
  lastFailure : Option LastFailure
  tx : SidebandTx
  rx : Option (BitVec 32)
  silence : Timer
  neighbor : Neighbor
  lanes : Table Lane 4
  deskew : Deskew
  markers : MarkerTx
  trim : Nat
  burst : Burst
  summary : RangingSummary
  verdict : Verdict
  counters : Counters
deriving DecidableEq, Repr

/-- A port after power-on reset or DEVICE_RESET, with its PRESENT_N pin as it then stands: the debounced presence is
ABSENT, and if the pin is low the debounce timer is armed at once with the default of 50 ms (R23, R26). -/
def Port.reset (rawPresent : Bool) : Port where
  state := .disabled
  stageTimer := .stopped
  backoffTimer := .stopped
  retryCount := 0
  attempt := 0
  highMark := 0
  ready := false
  flags := 0
  rawPresent := rawPresent
  present := false
  debounce := if rawPresent then .running (50 * Config.tuPerMs) else .stopped
  lastFailure := none
  tx := SidebandTx.reset
  rx := none
  silence := .stopped
  neighbor := Neighbor.reset
  lanes := .replicate 4 Lane.reset
  deskew := Deskew.reset
  markers := MarkerTx.reset
  trim := 0
  burst := Burst.reset
  summary := RangingSummary.reset
  verdict := Verdict.reset
  counters := Counters.reset

/-! ## Lane Monitor (chapter 5) -/

/-- What a measurement in service is for (R99): a bring-up request with its attempt number, or a scan, with the
job it counts towards (none once that job was cancelled, R108). -/
inductive MeasureSource where
  | bringUp (attempt : BitVec 32)
  | scan (job : Option (Fin 4))
deriving DecidableEq, Repr

/-- The measurement in service (R99). -/
structure Measurement where
  lane : Fin 128
  source : MeasureSource
  setting : Fin 32
  left : Timer
deriving DecidableEq, Repr

/-- A waiting bring-up request (R103). -/
structure BringUpRequest where
  lane : Fin 128
  attempt : BitVec 32
deriving DecidableEq, Repr

/-- A scan job (Table 5-2). -/
structure ScanJob where
  id : Fin 4
  mask : BitVec 128
  passes : Nat
  pass : Nat
  next : Nat
  made : Nat
deriving DecidableEq, Repr

/-- Source of a result record (Table 5-1). -/
inductive ResultSource where
  | bringUp | scan | none
deriving DecidableEq, Repr

/-- Limit status (R100). -/
inductive LimitStatus where
  | below | within | above
deriving DecidableEq, Repr

/-- A result record (Table 5-1). -/
structure Result where
  corrected : Nat
  setting : Fin 32
  source : ResultSource
  limit : LimitStatus
  sequence : Nat
deriving DecidableEq, Repr

def Result.reset : Result where
  corrected := 0
  setting := 0
  source := .none
  limit := .within
  sequence := 0

/-- A lane's monitor setup (R100). -/
structure MonitorSetup where
  offset : Int
  low : Nat
  high : Nat
deriving DecidableEq, Repr

def MonitorSetup.reset : MonitorSetup where
  offset := 0
  low := 0
  high := 1023

/-- The Lane Monitor. -/
structure Monitor where
  engine : Option Measurement
  queue : List BringUpRequest
  jobs : List ScanJob
  runCount : Nat
  sequence : Nat
  results : Table Result 128
  setups : Table MonitorSetup 128
deriving DecidableEq, Repr

/-- The Lane Monitor after reset (R114). -/
def Monitor.reset : Monitor where
  engine := none
  queue := []
  jobs := []
  runCount := 0
  sequence := 0
  results := .replicate 128 Result.reset
  setups := .replicate 128 MonitorSetup.reset

/-! ## Notice Queue (chapter 10) -/

/-- The name of a port state, as notices and FIND carry it (Table 10-1). -/
inductive StateName where
  | disabled | waitCable | sideband | laneLock | align | verify | held | active | backoff | fault
deriving DecidableEq, Repr

/-- Status of MONITOR_DONE (R111). -/
inductive DoneStatus where
  | complete | cancelled
deriving DecidableEq, Repr

/-- The content of a PORT_STATE notice (Table 10-3). -/
structure PortNotice where
  port : Fin 32
  current : StateName
  first : StateName
  cls : VerdictClass
  primary : Option Code
  cause : Option Cause
  count : Nat
deriving DecidableEq, Repr

/-- A notice with its subject and content (Table 10-3). -/
inductive Notice where
  | portState (n : PortNotice)
  | planState (state : PlanState) (generation : BitVec 16) (epoch : BitVec 32) (count : Nat)
  | monitorDone (job : Fin 4) (status : DoneStatus) (count : Nat)
  | laneLimit (port : Fin 32) (lanes : BitVec 4) (count : Nat)
deriving DecidableEq, Repr

/-! ## Management Link Interface (chapter 9) -/

/-- A management frame without start byte, length and CRC (Table 11-1). -/
structure Frame where
  tag : Byte
  kind : Byte
  payload : List Byte
deriving DecidableEq, Repr

/-- A reply in the reply list (R178): `refusal` marks a QUEUE_FULL reply given at arrival, `reset` the reply to
DEVICE_RESET. -/
structure Reply where
  frame : Frame
  refusal : Bool
  reset : Bool
deriving DecidableEq, Repr

/-- The frame the outbound transmitter is sending; `reset` marks the reply to DEVICE_RESET (R184). -/
structure Outbound where
  frame : Frame
  reset : Bool
deriving DecidableEq, Repr

/-- The inbound framer (R173): in COLLECTING it holds the bytes that followed the start byte. -/
inductive Framer where
  | hunting
  | collecting (bytes : List Byte)
deriving DecidableEq, Repr

/-- Device state (section 9.4). -/
inductive DeviceState where
  | unconfigured | running
deriving DecidableEq, Repr

/-- The eq_method parameter (Table 9-2). -/
inductive EqMethod where
  | midpoint | hold
deriving DecidableEq, Repr

/-- The hold_point parameter (Table 9-2). -/
inductive HoldPoint where
  | none | sideband | align | verify
deriving DecidableEq, Repr

/-- The configuration parameters (Table 9-2); `cableDelays` is the cable-kind table (R141). -/
structure Params where
  chassisId : BitVec 48
  beaconInterval : Nat
  silenceLimit : Nat
  sidebandTimeout : Nat
  laneLockTimeout : Nat
  alignTimeout : Nat
  verifyTimeout : Nat
  presenceDebounce : Nat
  backoffBase : Nat
  backoffCap : Nat
  eqMethod : EqMethod
  eqPassMv : Nat
  eqMinWindow : Nat
  holdPoint : HoldPoint
  cableDelays : Table Nat 8
deriving DecidableEq, Repr

/-- Every parameter at its default (Table 9-2, Table 7-1). -/
def Params.reset : Params where
  chassisId := 0
  beaconInterval := 5
  silenceLimit := 4
  sidebandTimeout := 200
  laneLockTimeout := 20
  alignTimeout := 50
  verifyTimeout := 500
  presenceDebounce := 50
  backoffBase := 10
  backoffCap := 1280
  eqMethod := .hold
  eqPassMv := 120
  eqMinWindow := 4
  holdPoint := .none
  cableDelays := ⟨[4350, 4450, 4900, 5000, 5000, 5000, 5000, 5000], rfl⟩

/-- The Management Link Interface. `resetPending` says that a DEVICE_RESET has been dispatched whose reset has not
been taken (R176); `notify` is the notice transmission flag (R183). -/
structure Mli where
  framer : Framer
  gapTimer : Timer
  queue : List Frame
  replies : List Reply
  sending : Option Outbound
  resetPending : Bool
  notify : Bool
  device : DeviceState
  params : Params
deriving DecidableEq, Repr

/-- The MLI after reset (Table 9-3). -/
def Mli.reset : Mli where
  framer := .hunting
  gapTimer := .stopped
  queue := []
  replies := []
  sending := none
  resetPending := false
  notify := false
  device := .unconfigured
  params := Params.reset

/-! ## The whole part -/

/-- The state of the part, and the queue of the commands that are waiting, first in, first out. -/
structure State where
  mli : Mli
  plan : Plan
  ports : Table Port 32
  monitor : Monitor
  notices : List Notice
  frameErrors : Nat
  timestamp : BitVec 32
  pending : List Instr
deriving DecidableEq, Repr

/-- The state after power-on reset with every PRESENT_N pin high (each has a pull-up, and an open pin reads ABSENT,
R199; log entry 8), and with no command waiting. -/
def State.reset : State where
  mli := Mli.reset
  plan := Plan.reset
  ports := .replicate 32 (Port.reset false)
  monitor := Monitor.reset
  notices := []
  frameErrors := 0
  timestamp := 0
  pending := []

/-! ## Why a step stops -/

/-- Reasons for which the part stops with a fault: the manual names no event that stops it (an input that no rule
takes is ignored, refused in a reply or counted), so there is none. -/
inductive Fault : Type
deriving DecidableEq, Repr

/-- Reasons for which a command has no meaning. -/
inductive Refusal where
  /-- Raised by `exec` alone, for a command whose meaning has not been written; safe (nothing is claimed of the
  command). No arm of `exec` raises it now. -/
  | notModelled (mnemonic : String)
deriving DecidableEq, Repr

end Sys2Proof.Machine
end

