-- ==== Sys2Proof/Machine/Ops.lean ====
section
/-! DEFINITION. Named operations over the state that every block's meaning is built from: access to ports and lanes,
timers and the passing of time, counters, and the Notice Queue. -/

namespace Sys2Proof.Machine

/-! ## Access -/

def State.port (s : State) (p : Fin 32) : Port := s.ports.get p

def State.setPort (s : State) (p : Fin 32) (pt : Port) : State := { s with ports := s.ports.set p pt }

def State.modPort (s : State) (p : Fin 32) (f : Port → Port) : State := s.setPort p (f (s.port p))

def State.mapPorts (s : State) (f : Fin 32 → Port → Port) : State := { s with ports := s.ports.mapFin f }

def State.modMli (s : State) (f : Mli → Mli) : State := { s with mli := f s.mli }

def State.withPlan (s : State) (pl : Plan) : State := { s with plan := pl }

def State.withMonitor (s : State) (m : Monitor) : State := { s with monitor := m }

def State.params (s : State) : Params := s.mli.params

/-- The base fields of a port's cached effective expectation (R8). -/
def State.expected (s : State) (p : Fin 32) : Effective := s.plan.cache.get p

def Port.lane (pt : Port) (l : Fin 4) : Lane := pt.lanes.get l

def Port.modLane (pt : Port) (l : Fin 4) (f : Lane → Lane) : Port := { pt with lanes := pt.lanes.modify l f }

/-- Global lane index: port × 4 + physical lane (section 1.6). -/
def globalLane (p : Fin 32) (l : Fin 4) : Fin 128 := ⟨4 * p.val + l.val, by omega⟩

/-- The port of a global lane (R110). -/
def lanePort (g : Fin 128) : Fin 32 := ⟨g.val / 4, by omega⟩

/-- The physical lane of a global lane (R110). -/
def lanePhysical (g : Fin 128) : Fin 4 := ⟨g.val % 4, by omega⟩

/-- The Lane Front End of a global lane. -/
def State.lane (s : State) (g : Fin 128) : Lane := (s.port (lanePort g)).lane (lanePhysical g)

def State.modLane (s : State) (g : Fin 128) (f : Lane → Lane) : State :=
  s.modPort (lanePort g) fun pt => pt.modLane (lanePhysical g) f

/-- All ports in ascending order. -/
def allPorts : List (Fin 32) := List.finRange 32

/-- All physical lanes of a port in ascending order. -/
def allLanes : List (Fin 4) := List.finRange 4

/-- Whether bit `p` of a port mask is set (section 1.6). -/
def maskHas (mask : BitVec 32) (p : Fin 32) : Bool := mask.getLsbD p.val

/-- The port mask of the ports that satisfy a test. -/
def portMask (test : Fin 32 → Bool) : BitVec 32 :=
  allPorts.foldl (fun m p => if test p then m ||| (1#32 <<< p.val) else m) 0

/-- The mask of the lanes, physical or logical, that satisfy a test. -/
def laneMask (test : Fin 4 → Bool) : BitVec 4 :=
  allLanes.foldl (fun m l => if test l then m ||| (1#4 <<< l.val) else m) 0

/-! ## Timers and time -/

/-- A timer armed with a length in ms. -/
def armMs (ms : Nat) : Timer := .running (ms * Config.tuPerMs)

def Timer.isRunning : Timer → Bool
  | .running _ => true
  | .stopped | .paused _ => false

/-- Pause a running timer with the time that remains (R38). -/
def Timer.pause : Timer → Timer
  | .running left => .paused left
  | t => t

/-- Resume a paused timer with the time that remained (R38). -/
def Timer.resume : Timer → Timer
  | .paused left => .running left
  | t => t

/-- The passing of `n` TU at a timer; it stops at 0 and waits for its expiry to be commanded (log entry 2). -/
def Timer.advance (n : Nat) : Timer → Timer
  | .running left => .running (left - n)
  | t => t

def Probe.advance (n : Nat) (pr : Probe) : Probe := { pr with timeout := pr.timeout.advance n }

def Burst.advance (n : Nat) (b : Burst) : Burst :=
  { b with schedule := b.schedule.advance n, probes := b.probes.mapFin fun _ pr => pr.advance n }

def Lane.advance (n : Nat) (ln : Lane) : Lane := { ln with lockTimer := ln.lockTimer.advance n }

/-- The marker stamp counter advances by one every SU, 8 in a TU (R118). -/
def Deskew.advance (n : Nat) (d : Deskew) : Deskew :=
  { d with
    stampCounter := d.stampCounter + BitVec.ofNat 16 (Config.suPerTu * n)
    waitTimer := d.waitTimer.advance n
    closeTimer := d.closeTimer.advance n }

/-- A marker instant every 819 TU, the sequence number going from 15 back to 0 (R117). -/
def MarkerTx.advance (n : Nat) (m : MarkerTx) : MarkerTx where
  since := (m.since + n) % Config.markerPeriod
  sequence := m.sequence + Fin.ofNat 16 ((m.since + n) / Config.markerPeriod)

def Port.advance (n : Nat) (pt : Port) : Port :=
  { pt with
    stageTimer := pt.stageTimer.advance n
    backoffTimer := pt.backoffTimer.advance n
    debounce := pt.debounce.advance n
    silence := pt.silence.advance n
    tx := { pt.tx with beaconTimer := pt.tx.beaconTimer.advance n }
    lanes := pt.lanes.mapFin fun _ ln => ln.advance n
    deskew := pt.deskew.advance n
    markers := pt.markers.advance n
    burst := pt.burst.advance n }

/-- The passing of `n` TU: the timestamp counter (R139) and the marker stamp counters advance, and every running timer
has that much less left. Nothing expires by itself (log entries 1 and 2). -/
def State.advance (n : Nat) (s : State) : State :=
  { s with
    timestamp := s.timestamp + BitVec.ofNat 32 n
    ports := s.ports.mapFin fun _ pt => pt.advance n
    mli := { s.mli with gapTimer := s.mli.gapTimer.advance n }
    monitor := { s.monitor with
      engine := s.monitor.engine.map fun m => { m with left := m.left.advance n } } }

/-! ## Counters -/

/-- One increment of a saturating 32-bit counter (R191). -/
def bump (n : Nat) : Nat := if n < Config.counterMax then n + 1 else n

def Port.countAttempt (pt : Port) : Port :=
  { pt with counters := { pt.counters with attempts := bump pt.counters.attempts } }

def Port.countSuccess (pt : Port) : Port :=
  { pt with counters := { pt.counters with successes := bump pt.counters.successes } }

/-- A link loss is counted at an exit from ACTIVE (R50); every caller is such an exit's rule. -/
def Port.countLinkLoss (pt : Port) : Port :=
  if pt.state = .active then
    { pt with counters := { pt.counters with linkLosses := bump pt.counters.linkLosses } }
  else pt

def Port.countStageTimeout (pt : Port) : Port :=
  { pt with counters := { pt.counters with stageTimeouts := bump pt.counters.stageTimeouts } }

def Port.countValidFrame (pt : Port) : Port :=
  { pt with counters := { pt.counters with validFrames := bump pt.counters.validFrames } }

def Port.countRejectedFrame (pt : Port) : Port :=
  { pt with counters := { pt.counters with rejectedFrames := bump pt.counters.rejectedFrames } }

def Port.countPeerRestart (pt : Port) : Port :=
  { pt with counters := { pt.counters with peerRestarts := bump pt.counters.peerRestarts } }

def Port.countPolarity (pt : Port) : Port :=
  { pt with counters := { pt.counters with polarityCorrections := bump pt.counters.polarityCorrections } }

def Port.countMeasurement (pt : Port) : Port :=
  { pt with counters := { pt.counters with measurements := bump pt.counters.measurements } }

/-- One more device frame error (R173, R175). -/
def State.countFrameError (s : State) : State := { s with frameErrors := bump s.frameErrors }

/-! ## The Notice Queue -/

/-- A coalesce count increases by one and stays at 255 (R194). -/
def coalesce (n : Nat) : Nat := if n < 255 then n + 1 else n

/-- Two notices of the same kind and subject (R193). -/
def Notice.sameSubject : Notice → Notice → Bool
  | .portState a, .portState b => a.port == b.port
  | .planState .., .planState .. => true
  | .monitorDone a _ _, .monitorDone b _ _ => a == b
  | .laneLimit a _ _, .laneLimit b _ _ => a == b
  | .portState _, .planState .. | .portState _, .monitorDone .. | .portState _, .laneLimit ..
  | .planState .., .portState _ | .planState .., .monitorDone .. | .planState .., .laneLimit ..
  | .monitorDone .., .portState _ | .monitorDone .., .planState .. | .monitorDone .., .laneLimit ..
  | .laneLimit .., .portState _ | .laneLimit .., .planState .. | .laneLimit .., .monitorDone .. => false

/-- A queued notice (second) that takes a handed one (first) of its kind and subject (R194). -/
def Notice.fold (handed queued : Notice) : Notice :=
  match handed, queued with
  | .portState h, .portState q => .portState { h with first := q.first, count := coalesce q.count }
  | .planState st g e _, .planState _ _ _ c => .planState st g e (coalesce c)
  | .monitorDone j st _, .monitorDone _ _ c => .monitorDone j st (coalesce c)
  | .laneLimit p m _, .laneLimit _ m' c => .laneLimit p (m' ||| m) (coalesce c)
  | _, q => q

/-- Handing a notice to the queue: it joins the tail, or is coalesced in place (R194). -/
def handNotice (handed : Notice) : List Notice → List Notice
  | [] => [handed]
  | q :: rest => if handed.sameSubject q then handed.fold q :: rest else q :: handNotice handed rest

/-- Handing several notices in order. -/
def handNotices (handed : List Notice) (queue : List Notice) : List Notice :=
  handed.foldl (fun q n => handNotice n q) queue

end Sys2Proof.Machine
end

