-- ==== Sys2Proof/Machine/Flags.lean ====
section
/-! DEFINITION. Control flags, and what is read off a port's state: stage code, traffic enable, the lane stages, the
verdict-bearing states, what its lanes transmit. Each is computed from the one place that stores it. -/

namespace Sys2Proof.Machine

/-! ## Control flags (R54) -/

def Port.adminEnable (pt : Port) : Bool := pt.flags.getLsbD 0

def Port.holdEnable (pt : Port) : Bool := pt.flags.getLsbD 1

/-- The fence flag of lane `l`. -/
def Port.fence (pt : Port) (l : Fin 4) : Bool := pt.flags.getLsbD (2 + l.val)

/-- The fence mask by physical lane (Table 3-1). -/
def Port.fenceMask (pt : Port) : BitVec 4 := pt.flags.extractLsb' 2 4

/-- The new flags: the clear mask's bits removed and the set mask's bits then added (R54). -/
def newFlags (old clear set : BitVec 6) : BitVec 6 := (old &&& ~~~clear) ||| set

/-! ## Port state -/

/-- The stage code of each port state (Table 2-2); DISABLED and WAIT_CABLE send no frame, and stand at 0. -/
def PortState.stageCode : PortState → Nat
  | .disabled | .waitCable | .backoff | .fault => 0
  | .sideband => 1
  | .laneLock => 2
  | .align => 3
  | .verify _ => 4
  | .held .sideband _ => 1
  | .held .align _ => 3
  | .held .verify _ => 4
  | .active => 5

/-- The name of a port state (Table 10-1). -/
def PortState.name : PortState → StateName
  | .disabled => .disabled
  | .waitCable => .waitCable
  | .sideband => .sideband
  | .laneLock => .laneLock
  | .align => .align
  | .verify _ => .verify
  | .held _ _ => .held
  | .active => .active
  | .backoff => .backoff
  | .fault => .fault

/-- The sending states (R60): frames are sent and the receiver is on. -/
def PortState.sending : PortState → Bool
  | .disabled | .waitCable => false
  | .sideband | .laneLock | .align | .verify _ | .held _ _ | .active | .backoff | .fault => true

/-- The states in which silence is PEER_LOST (R43) and a frame is tested against Table 2-3 (R34). -/
def PortState.engaged : PortState → Bool
  | .laneLock | .align | .verify _ | .held _ _ | .active => true
  | .disabled | .waitCable | .sideband | .backoff | .fault => false

/-- The verdict-bearing states (R152). -/
def PortState.bearing : PortState → Bool
  | .verify .readyWait | .held .verify _ | .active => true
  | .disabled | .waitCable | .sideband | .laneLock | .align | .backoff | .fault => false
  | .verify (.planWait _) | .verify .maskWait | .verify .ranging => false
  | .held .sideband _ | .held .align _ => false

/-- TRAFFIC_EN is asserted exactly in ACTIVE (R25). -/
def Port.trafficEnable (pt : Port) : Bool := decide (pt.state = .active)

/-- KEPT_VALID is set exactly while the alignment phase is FIXED (R116). -/
def Port.keptValid (pt : Port) : Bool := decide (pt.deskew.phase = .fixed)

/-- The kept mask as frames carry it: 0 while KEPT_VALID is clear (R61). -/
def Port.sentKept (pt : Port) : BitVec 4 := if pt.keptValid then pt.deskew.keptMask else 0

/-- The states in which a fence change is a fence restart (R56). A VERIFY reached straight from SIDEBAND started no
lane and so holds no fixed mask (R32), log entry 11. -/
def Port.inLaneStages (pt : Port) : Bool :=
  match pt.state with
  | .laneLock | .align | .active => true
  | .verify _ => pt.keptValid
  | .held .align _ | .held .verify _ => true
  | .held .sideband _ => false
  | .disabled | .waitCable | .sideband | .backoff | .fault => false

def LaneState.isGood : LaneState → Bool
  | .good _ => true
  | .fenced | .idle | .locking | .searching | .failed _ => false

def LaneState.isFailed : LaneState → Bool
  | .failed _ => true
  | .fenced | .idle | .locking | .searching | .good _ => false

/-- Whether physical lane `l` is GOOD. -/
def Port.good (pt : Port) (l : Fin 4) : Bool := (pt.lane l).state.isGood

/-- What a transmit lane is driven with. -/
inductive LaneDrive where
  | silent | training | traffic
deriving DecidableEq, Repr

/-- Whether a logical lane lies in the final set that the port's verdict holds (R159). -/
def Port.inFinalSet (pt : Port) (logical : Fin 4) : Bool :=
  match pt.verdict.finalSet with
  | some m => m.getLsbD logical.val
  | none => false

/-- The transmit lanes by port state and fence (R80): a fenced lane is silent; in the lane stages an unfenced lane sends
the training pattern with markers (R117), in ACTIVE the final set carries traffic. -/
def Port.laneDrive (pt : Port) (l : Fin 4) : LaneDrive :=
  if pt.fence l then .silent
  else if pt.state = .active then
    if pt.inFinalSet l then .traffic else .training
  else if pt.inLaneStages then .training
  else .silent

/-- A marker as a lane transmits it: transmit logical lane and sequence number (R117). -/
structure LaneMarker where
  logical : Fin 4
  sequence : Fin 16
deriving DecidableEq, Repr

/-- The marker that physical lane `l` launches now, if this is a marker instant and the lane sends the training pattern (R117):
lane `l` transmits logical lane `l`, with the sequence number of the port. -/
def Port.laneMarker (pt : Port) (l : Fin 4) : Option LaneMarker :=
  if pt.laneDrive l = .training ∧ pt.markers.since = 0 then some ⟨l, pt.markers.sequence⟩ else none

/-! ## The part -/

/-- The advertised peer that a port's frames carry: none unless the plan is CLOSED (R10, R61). -/
def State.advertisedPeer (s : State) (p : Fin 32) : Option PeerId :=
  if s.plan.state = .closed then (s.expected p).advertised else none

/-- The fields of a port's frames that the peer acts on; a change of any makes a prompt beacon wait (R62). -/
structure Advertised where
  stage : Nat
  ready : Bool
  keptValid : Bool
  kept : BitVec 4
  cls : VerdictClass
  fence : BitVec 4
  expected : Option PeerId
  generation : BitVec 16
deriving DecidableEq, Repr

def State.advertised (s : State) (p : Fin 32) : Advertised where
  stage := (s.port p).state.stageCode
  ready := (s.port p).ready
  keptValid := (s.port p).keptValid
  kept := (s.port p).sentKept
  cls := (s.port p).verdict.cls
  fence := (s.port p).fenceMask
  expected := s.advertisedPeer p
  generation := s.plan.generation

/-- A verdict is due at a port that stands in PLAN_WAIT while the plan is CLOSED (R38, R152): it is computed at the
same event (log entry 12). -/
def State.verdictDue (s : State) (p : Fin 32) : Bool :=
  decide (s.plan.state = .closed) &&
    match (s.port p).state with
    | .verify (.planWait _) => true
    | _ => false

end Sys2Proof.Machine
end

