-- ==== Sys2Proof/Machine/Formats.lean ====
section
/-! DEFINITION. Byte layouts (chapter 11): numbers as bytes, the CRC, the codes of enumerations (R197), the bytes of
management frames (Table 11-1), notices (Table 11-5), sideband frames (Table 11-7) and plan entries (Table 11-4). -/

namespace Sys2Proof.Machine

/-! ## Numbers as bytes, most-significant byte first (section 1.9, R197) -/

/-- The low `len` bytes of `n`, most significant first. -/
def numberBytes : Nat → Nat → List Byte
  | 0, _ => []
  | len + 1, n => numberBytes len (n / 256) ++ [BitVec.ofNat 8 n]

/-- The number that bytes spell, most significant first. -/
def readNumber (bytes : List Byte) : Nat := bytes.foldl (fun n b => n * 256 + b.toNat) 0

def byte1 (n : Nat) : List Byte := numberBytes 1 n
def byte2 (n : Nat) : List Byte := numberBytes 2 n
def byte4 (n : Nat) : List Byte := numberBytes 4 n
def byte6 (n : Nat) : List Byte := numberBytes 6 n

def flagByte (b : Bool) : List Byte := [if b then 1 else 0]

/-- A signed number in two's complement in `len` bytes (R197). -/
def signedBytes (len : Nat) (n : Int) : List Byte := numberBytes len (n % (256 ^ len : Nat)).toNat

/-- An optional field: a presence byte and then the value, sent as 0 when absent (R197). -/
def optionBytes {α : Type} (len : Nat) (f : α → List Byte) : Option α → List Byte
  | some a => 1 :: f a
  | none => 0 :: List.replicate len 0

/-- A list of variable length: a count byte and then the entries (R197). -/
def listBytes {α : Type} (f : α → List Byte) (l : List α) : List Byte := byte1 l.length ++ l.flatMap f

/-! ## CRC-16 (R60, R172): polynomial x^16 + x^12 + x^5 + 1, initial value 0xFFFF, each byte most significant bit first,
no final XOR -/

def crcShift (c : BitVec 16) : BitVec 16 := if c.msb then (c <<< 1) ^^^ 0x1021#16 else c <<< 1

def crcByte (c : BitVec 16) (b : Byte) : BitVec 16 :=
  let c := c ^^^ (b.zeroExtend 16 <<< 8)
  crcShift (crcShift (crcShift (crcShift (crcShift (crcShift (crcShift (crcShift c)))))))

def crc16 (bytes : List Byte) : BitVec 16 := bytes.foldl crcByte 0xFFFF#16

/-! ## Codes of enumerations, from 0 in the order their chapter lists them (R197) -/

def Expectation.code : Expectation → Nat
  | .planned => 0 | .unused => 1 | .any => 2

def LanePolicy.code : LanePolicy → Nat
  | .strict => 0 | .reversalOk => 1 | .any => 2

def Recovery.code : Recovery → Nat
  | .auto => 0 | .manual => 1

/-- The minimum width is coded as its value. -/
def MinWidth.lanes : MinWidth → Nat
  | .one => 1 | .two => 2 | .four => 4

def OverrideMode.code : OverrideMode → Nat
  | .replace => 0 | .either => 1

def PlanState.code : PlanState → Nat
  | .empty => 0 | .loading => 1 | .closed => 2

def VerdictClass.code : VerdictClass → Nat
  | .none => 0 | .pass => 1 | .warn => 2 | .fail => 3

/-- The number of a verdict code, which is its priority (Table 11-6). -/
def Code.number : Code → Nat
  | .duplicatePeer => 1 | .pairSwapped => 2 | .wrongChassis => 3 | .wrongPort => 4 | .unplanned => 5
  | .peerDisagrees => 6 | .peerFailed => 7 | .laneMapInvalid => 8 | .laneCrossed => 9
  | .lanesInsufficient => 10 | .skewExcess => 11 | .lengthOutOfWindow => 12 | .widthDegraded => 13
  | .skewUnstable => 14 | .eqMarginal => 15 | .polarityCorrected => 16 | .lengthUnmeasured => 17
  | .lengthSuspect => 18 | .planGenerationSkew => 19

/-- The number of a primary code, 0 for none (Table 11-6), as notices carry it and FIND compares it. -/
def primaryNumber : Option Code → Nat
  | some c => c.number
  | none => 0

/-- In the order in which Table 6-1 lists the classes; Table 6-4 lists INVALID first (DESIGN CHOICE, log entry 42). -/
def MapClass.code : MapClass → Nat
  | .identity => 0 | .reversed => 1 | .permuted => 2 | .invalid => 3

def AlignStatus.code : AlignStatus → Nat
  | .notAligned => 0 | .kept => 1 | .noMarker => 2 | .noLock => 3 | .skewUnstable => 4 | .excluded => 5
  | .outsideSubset => 6

def AlignPhase.code : AlignPhase → Nat
  | .idle => 0 | .markerWait => 1 | .collecting => 2 | .fixed => 3

/-- The port state code (Table 10-1). -/
def StateName.code : StateName → Nat
  | .disabled => 0 | .waitCable => 1 | .sideband => 2 | .laneLock => 3 | .align => 4 | .verify => 5
  | .held => 6 | .active => 7 | .backoff => 8 | .fault => 9

def VerifySub.code : VerifySub → Nat
  | .planWait _ => 0 | .maskWait => 1 | .ranging => 2 | .readyWait => 3

/-- In the order in which R51 lists the stages a port can be held at; Table 9-2 numbers the values of hold_point NONE 0, SIDEBAND 1,
ALIGN 2 and VERIFY 3 (DESIGN CHOICE, log entry 53). -/
def HeldStage.code : HeldStage → Nat
  | .sideband => 0 | .align => 1 | .verify => 2

def NextStep.code : NextStep → Nat
  | .laneLock => 0 | .verify => 1 | .ready => 2

/-- The last-failure cause, from 0 in the order of Table 2-5 (R197; log entry 51). -/
def Cause.code : Cause → Nat
  | .cableRemoved => 0 | .stageTimeout => 1 | .noLanes => 2 | .verdictFail => 3 | .peerLost => 4
  | .laneLost => 5 | .peerRestarted => 6

/-- The last-failure cause in a notice: none 0, then 1 to 7 (Table 11-5). -/
def causeNumber : Option Cause → Nat
  | some c => c.code + 1
  | none => 0

def NeighborStatus.code : NeighborStatus → Nat
  | .empty => 0 | .current => 1 | .stale => 2

def LaneState.code : LaneState → Nat
  | .fenced => 0 | .idle => 1 | .locking => 2 | .searching => 3 | .good _ => 4 | .failed _ => 5

def FailReason.code : FailReason → Nat
  | .noLock => 0 | .eqEmpty => 1 | .forcedFail => 2

/-- The code of a search method; none before the first search of a stage (R78, R81). -/
def SearchMethod.code : SearchMethod → Option Nat
  | .forced => some 0 | .hold => some 1 | .midpoint => some 2 | .none => Option.none

def ResultSource.code : ResultSource → Nat
  | .bringUp => 0 | .scan => 1 | .none => 2

def LimitStatus.code : LimitStatus → Nat
  | .below => 0 | .within => 1 | .above => 2

def DoneStatus.code : DoneStatus → Nat
  | .complete => 0 | .cancelled => 1

def DeviceState.code : DeviceState → Nat
  | .unconfigured => 0 | .running => 1

/-- eq_method (Table 9-2). -/
def EqMethod.code : EqMethod → Nat
  | .midpoint => 0 | .hold => 1

/-- hold_point (Table 9-2). -/
def HoldPoint.code : HoldPoint → Nat
  | .none => 0 | .sideband => 1 | .align => 2 | .verify => 3

/-- Sideband frame kinds (Table 11-7). -/
def FrameKind.code : FrameKind → Nat
  | .beacon => 1 | .probe => 2 | .echo => 3

/-! ## Management frames -/

/-- The bytes of a management frame on the line (Table 11-1). -/
def Frame.lineBytes (f : Frame) : List Byte :=
  let body := BitVec.ofNat 8 (f.payload.length + 2) :: f.tag :: f.kind :: f.payload
  0xA6#8 :: body ++ byte2 (crc16 body).toNat

/-- The frame of a notice: tag 0, its kind and its content (Tables 11-2 and 11-5). -/
def Notice.frame : Notice → Frame
  | .portState n =>
    { tag := 0, kind := 0xC0
      payload := byte1 n.port.val ++ byte1 n.current.code ++ byte1 n.first.code ++ byte1 n.cls.code
        ++ byte1 (primaryNumber n.primary) ++ byte1 (causeNumber n.cause) ++ byte1 n.count }
  | .planState st g e c =>
    { tag := 0, kind := 0xC1, payload := byte1 st.code ++ byte2 g.toNat ++ byte4 e.toNat ++ byte1 c }
  | .monitorDone j st c =>
    { tag := 0, kind := 0xC2, payload := byte1 j.val ++ byte1 st.code ++ byte1 c }
  | .laneLimit p m c =>
    { tag := 0, kind := 0xC3, payload := byte1 p.val ++ byte1 m.toNat ++ byte1 c }

/-! ## Sideband frames -/

/-- Offsets 0 to 29 of a sideband frame (Table 11-7); flag bits 2 to 7 and byte 29 are sent as 0 (R198). -/
def sidebandBody (kind : FrameKind) (f : SidebandFrame) : List Byte :=
  byte1 kind.code
    ++ byte1 ((if f.ready then 1 else 0) + (if f.keptValid then 2 else 0))
    ++ byte6 f.senderChassis.toNat ++ [f.senderPort, f.stage, f.verdictClass]
    ++ byte1 (f.fenceMask.toNat + 16 * f.keptMask.toNat)
    ++ byte6 f.expectedChassis.toNat ++ [f.expectedPort]
    ++ byte2 f.generation.toNat ++ [f.trim, f.interval]
    ++ byte4 f.probeStamp.toNat ++ byte2 f.turnaround.toNat ++ byte1 0

/-- The 32 frame bytes of a sideband frame: the body and its CRC, high byte first. -/
def sidebandBytes (kind : FrameKind) (f : SidebandFrame) : List Byte :=
  sidebandBody kind f ++ byte2 (crc16 (sidebandBody kind f)).toNat

/-- The sync sequence that opens every sideband frame on the line (R60). -/
def sidebandSync : List Byte := [0x3C, 0xE1]

/-- A sideband frame on the line: the sync sequence and the 32 frame bytes (R60). -/
def sidebandLineBytes (kind : FrameKind) (f : SidebandFrame) : List Byte := sidebandSync ++ sidebandBytes kind f

/-! ## Bits on the lines -/

/-- The eight bits of a byte, least significant bit first (R60, R172). -/
def byteBits (b : Byte) : List Bool := (List.finRange 8).map fun i => b.getLsbD i.val

/-- The 272 bits of a sideband frame, in the order in which they go over the line (R60). -/
def sidebandLineBits (kind : FrameKind) (f : SidebandFrame) : List Bool :=
  (sidebandLineBytes kind f).flatMap byteBits

/-- A byte on the management line: a start bit, the data bits, a stop bit (R172). An idle line is high. -/
def managementBits (b : Byte) : List Bool := false :: byteBits b ++ [true]

/-- A management frame's bits, in the order in which they go over the line (R172). -/
def Frame.lineBits (f : Frame) : List Bool := f.lineBytes.flatMap managementBits

/-! ## Plan fields -/

/-- A peer identity as bytes: chassis and port. -/
def PeerId.bytes (i : PeerId) : List Byte := byte6 i.chassis.toNat ++ byte1 i.port.val

/-- An optional number's value, sent as 0 when absent. -/
def orZero : Option Nat → Nat
  | some n => n
  | none => 0

/-- A written entry as Table 11-4 codes it. -/
def PlanEntry.bytes (e : PlanEntry) : List Byte :=
  let b := e.base
  let label := match b.label with
    | some l => l
    | none => []
  byte1 e.expectation.code
    ++ (match e.peer with
        | some i => i.bytes
        | none => List.replicate 7 0)
    ++ byte1 b.cableKind.val
    ++ byte1 ((if b.window.isSome then 1 else 0) + (if b.skewLimit.isSome then 2 else 0))
    ++ (match b.window with
        | some w => byte2 w.low ++ byte2 w.high
        | none => List.replicate 4 0)
    ++ byte1 b.policy.code ++ byte1 b.minWidth.lanes ++ byte2 (orZero b.skewLimit)
    ++ byte1 b.recovery.code ++ byte1 b.retryLimit ++ byte1 label.length
    ++ label ++ List.replicate (16 - label.length) 0

/-- A label outside Table 11-4: a presence byte, then a count byte and its bytes (R197; log entry 18). -/
def labelBytes : Option (List Byte) → List Byte
  | some l => 1 :: listBytes (fun b => [b]) l
  | none => [0, 0]

/-- An effective expectation record with the port's changed flag (Table 1-8, R21). -/
def Effective.bytes (e : Effective) (changed : Bool) : List Byte :=
  let b := e.base
  byte1 e.kind.code ++ listBytes PeerId.bytes e.accepted
    ++ optionBytes 7 PeerId.bytes e.advertised ++ optionBytes 1 byte1 e.matched
    ++ byte1 b.cableKind.val
    ++ optionBytes 4 (fun w => byte2 w.low ++ byte2 w.high) b.window
    ++ byte1 b.policy.code ++ byte1 b.minWidth.lanes ++ optionBytes 2 byte2 b.skewLimit
    ++ byte1 b.recovery.code ++ byte1 b.retryLimit ++ labelBytes b.label
    ++ flagByte changed

/-- An override (Table 1-7). -/
def Override.bytes (o : Override) : List Byte :=
  byte1 o.localStart.val ++ byte1 o.count ++ byte6 o.chassis.toNat ++ byte1 o.portStart.val
    ++ byte1 o.mode.code

/-- Records after a reply's first bytes: as many whole records as fit within a frame length of 250 bytes. -/
def fitRecords (room : Nat) : List (List Byte) → List (List Byte)
  | [] => []
  | r :: rest => if r.length ≤ room then r :: fitRecords (room - r.length) rest else []

/-- A reply's records: how many it holds, and then the records (R21, R113, R187). `used` counts the payload bytes before
them, the status byte among them. -/
def recordBytes (used : Nat) (records : List (List Byte)) : List Byte :=
  let held := fitRecords (Config.replyRoom - used - 1) records
  byte1 held.length ++ held.flatten

end Sys2Proof.Machine
end

