-- ==== Sys2Proof/Machine/Operands.lean ====
section
/-! DEFINITION. The operands of requests: how fields are read from a frame's payload (R197), and how a raw field becomes
the value a block stores, or is out of range. -/

namespace Sys2Proof.Machine

/-- The `i`-th byte of a payload; 0 past its end. -/
def byteAt (payload : List Byte) (i : Nat) : Byte := payload.getD i 0

/-- The number in `len` bytes from offset `at`, most significant byte first. -/
def numberAt (payload : List Byte) (off len : Nat) : Nat := readNumber ((payload.drop off).take len)

/-- A port number from a byte, if it is 31 or less. -/
def portOf (b : Byte) : Option (Fin 32) := if h : b.toNat < 32 then some ⟨b.toNat, h⟩ else none

/-- A global lane index from a byte, if it is 127 or less. -/
def laneOf (b : Byte) : Option (Fin 128) := if h : b.toNat < 128 then some ⟨b.toNat, h⟩ else none

/-- The nearest value in a range (section 1.9). -/
def clampTo (low high n : Nat) : Nat := if n < low then low else if high < n then high else n

/-- A byte in two's complement. -/
def signedByte (b : Byte) : Int := b.toInt

/-! ## Raw operands as payload bytes, and back -/

def rawEntryBytes (e : RawPlanEntry) : List Byte :=
  [e.expectation] ++ byte6 e.peerChassis.toNat ++ [e.peerPort, e.cableKind, e.presence]
    ++ byte2 e.windowMin.toNat ++ byte2 e.windowMax.toNat ++ [e.lanePolicy, e.minWidth]
    ++ byte2 e.skewLimit.toNat ++ [e.recovery, e.retryLimit, e.labelLength] ++ e.label

/-- The entry at offset 2 of a PLAN_ENTRY payload (Table 11-4). -/
def readPlanEntry (payload : List Byte) : RawPlanEntry where
  expectation := byteAt payload 2
  peerChassis := BitVec.ofNat 48 (numberAt payload 3 6)
  peerPort := byteAt payload 9
  cableKind := byteAt payload 10
  presence := byteAt payload 11
  windowMin := BitVec.ofNat 16 (numberAt payload 12 2)
  windowMax := BitVec.ofNat 16 (numberAt payload 14 2)
  lanePolicy := byteAt payload 16
  minWidth := byteAt payload 17
  skewLimit := BitVec.ofNat 16 (numberAt payload 18 2)
  recovery := byteAt payload 20
  retryLimit := byteAt payload 21
  labelLength := byteAt payload 22
  label := payload.drop 23

def rawOverrideBytes (o : RawOverride) : List Byte :=
  [o.localStart, o.count] ++ byte6 o.chassis.toNat ++ [o.portStart, o.mode]

/-- The override after the operation byte of a PLAN_OVERRIDE APPEND payload (Table 1-7). -/
def readOverride (payload : List Byte) : RawOverride where
  localStart := byteAt payload 1
  count := byteAt payload 2
  chassis := BitVec.ofNat 48 (numberAt payload 3 6)
  portStart := byteAt payload 9
  mode := byteAt payload 10

def pairBytes (pair : Byte × BitVec 48) : List Byte := pair.1 :: byte6 pair.2.toNat

/-- The pairs of a CONFIG_SET payload: an identifier byte and a 6-byte value each (R197); `fuel` counts the pairs. -/
def readPairs : Nat → List Byte → List (Byte × BitVec 48)
  | 0, _ => []
  | fuel + 1, payload =>
    (byteAt payload 0, BitVec.ofNat 48 (numberAt payload 1 6)) :: readPairs fuel (payload.drop 7)

/-! ## Received sideband frames (R66, R198) -/

def frameKindOf (b : Byte) : Option FrameKind :=
  if b = 1 then some .beacon else if b = 2 then some .probe else if b = 3 then some .echo else none

/-- The fields of a frame's 32 bytes (Table 11-7); flag bits 2 to 7 and byte 29 are ignored (R198). -/
def readFrame (bytes : List Byte) : SidebandFrame where
  ready := (byteAt bytes 1).getLsbD 0
  keptValid := (byteAt bytes 1).getLsbD 1
  senderChassis := BitVec.ofNat 48 (numberAt bytes 2 6)
  senderPort := byteAt bytes 8
  stage := byteAt bytes 9
  verdictClass := byteAt bytes 10
  fenceMask := (byteAt bytes 11).extractLsb' 0 4
  keptMask := (byteAt bytes 11).extractLsb' 4 4
  expectedChassis := BitVec.ofNat 48 (numberAt bytes 12 6)
  expectedPort := byteAt bytes 18
  generation := BitVec.ofNat 16 (numberAt bytes 19 2)
  trim := byteAt bytes 21
  interval := byteAt bytes 22
  probeStamp := BitVec.ofNat 32 (numberAt bytes 23 4)
  turnaround := BitVec.ofNat 16 (numberAt bytes 27 2)

/-- The kind and fields of 32 bytes whose CRC checks and whose kind is one of the three (R66). -/
def readSideband (bytes : List Byte) : Option (FrameKind × SidebandFrame) :=
  if numberAt bytes 30 2 = (crc16 (bytes.take 30)).toNat then
    (frameKindOf (byteAt bytes 0)).map fun kind => (kind, readFrame bytes)
  else none

/-! ## Checked plan operands -/

def expectationOf (b : Byte) : Option Expectation :=
  if b = 0 then some .planned else if b = 1 then some .unused else if b = 2 then some .any else none

def lanePolicyOf (b : Byte) : Option LanePolicy :=
  if b = 0 then some .strict else if b = 1 then some .reversalOk else if b = 2 then some .any else none

def recoveryOf (b : Byte) : Option Recovery :=
  if b = 0 then some .auto else if b = 1 then some .manual else none

def minWidthOf (b : Byte) : Option MinWidth :=
  if b = 1 then some .one else if b = 2 then some .two else if b = 4 then some .four else none

def cableKindOf (b : Byte) : Option (Fin 8) := if h : b.toNat < 8 then some ⟨b.toNat, h⟩ else none

def overrideModeOf (b : Byte) : Option OverrideMode :=
  if b = 0 then some .replace else if b = 1 then some .either else none

/-- The expected peer of an entry: checked and stored only when the expectation is PLANNED (R3). The outer `none` is a
refusal. -/
def entryPeer (x : Expectation) (chassis : BitVec 48) (port : Byte) : Option (Option PeerId) :=
  match x with
  | .planned =>
    match portOf port with
    | some p => if chassis = 0 then none else some (some ⟨chassis, p⟩)
    | none => none
  | .unused | .any => some none

/-- The length window of an entry, present with bit 0 of the presence byte (Table 11-4); its minimum may not exceed its
maximum (R3). The outer `none` is a refusal. -/
def entryWindow (presence : Byte) (low high : BitVec 16) : Option (Option Window) :=
  if presence.getLsbD 0 then
    if high.toNat < low.toNat then none else some (some ⟨low.toNat, high.toNat⟩)
  else some none

/-- A stored entry and whether a field of it was clamped. -/
structure CheckedEntry where
  entry : PlanEntry
  clamped : Bool
deriving DecidableEq, Repr

/-- Whether the entry carries a skew limit: bit 1 of the presence byte (Table 11-4). -/
def carriesSkew (e : RawPlanEntry) : Bool := e.presence.getLsbD 1

/-- Whether a numeric field of the entry is clamped: a skew limit outside 16..480 or a retry limit above 15 (R3). -/
def entryClamps (e : RawPlanEntry) : Bool :=
  (carriesSkew e && clampTo 16 480 e.skewLimit.toNat != e.skewLimit.toNat)
    || clampTo 0 15 e.retryLimit.toNat != e.retryLimit.toNat

/-- The checks and clamps of R3; `none` is a refusal with ARG_RANGE. -/
def checkEntry (e : RawPlanEntry) : Option CheckedEntry :=
  match expectationOf e.expectation, cableKindOf e.cableKind,
      entryWindow e.presence e.windowMin e.windowMax, lanePolicyOf e.lanePolicy, minWidthOf e.minWidth,
      recoveryOf e.recovery with
  | some x, some kind, some window, some policy, some width, some recovery =>
    match entryPeer x e.peerChassis e.peerPort with
    | some peer =>
      if 16 < e.labelLength.toNat then none
      else some
        { entry :=
            { expectation := x
              peer := peer
              base :=
                { cableKind := kind
                  window := window
                  policy := policy
                  minWidth := width
                  skewLimit := if carriesSkew e then some (clampTo 16 480 e.skewLimit.toNat) else none
                  recovery := recovery
                  retryLimit := clampTo 0 15 e.retryLimit.toNat
                  label := if e.labelLength = 0 then none else some (e.label.take e.labelLength.toNat) } }
          clamped := entryClamps e }
    | none => none
  | _, _, _, _, _, _ => none

/-- The checks of R4; `none` is a refusal with ARG_RANGE. -/
def checkOverride (o : RawOverride) : Option Override :=
  match portOf o.localStart, portOf o.portStart, overrideModeOf o.mode with
  | some start, some peerStart, some mode =>
    if o.count.toNat = 0 ∨ 32 < o.count.toNat ∨ 32 < start.val + o.count.toNat ∨ o.chassis = 0
        ∨ 32 < peerStart.val + o.count.toNat then none
    else some
      { localStart := start
        count := o.count.toNat
        chassis := o.chassis
        portStart := peerStart
        mode := mode }
  | _, _, _ => none

/-! ## Answers of the owning blocks -/

/-- Reply status codes (Table 11-3). -/
inductive Status where
  | ok | okClamped | unknownKind | badLength | argRange | wrongState | tableFull | queueFull | busyPorts
deriving DecidableEq, Repr

def Status.code : Status → Byte
  | .ok => 0x00 | .okClamped => 0x01 | .unknownKind => 0x02 | .badLength => 0x03 | .argRange => 0x04
  | .wrongState => 0x05 | .tableFull => 0x06 | .queueFull => 0x07 | .busyPorts => 0x08

/-- What a request answers: its status, the content after it, and whether it is the DEVICE_RESET reply (R184). -/
structure Answer where
  status : Status
  content : List Byte
  reset : Bool := false
deriving DecidableEq, Repr

/-- The payload of a reply: the status byte first (R177). -/
def Answer.payload (a : Answer) : List Byte := a.status.code :: a.content

/-- OK, or OK_CLAMPED when a value was clamped. -/
def okStatus (clamped : Bool) : Status := if clamped then .okClamped else .ok

/-- A request taken: the state it leaves, its answer, and the MONITOR_DONE notices it hands. -/
structure Taken where
  state : State
  answer : Answer
  notices : List Notice := []

/-- A refused request changes no state and carries the status alone (R177). -/
def refuse (s : State) (st : Status) : Taken := { state := s, answer := { status := st, content := [] } }

/-- A request taken with a reply. -/
def takes (s : State) (st : Status) (content : List Byte) : Taken :=
  { state := s, answer := { status := st, content := content } }

/-- A start and a count of records, reduced to the `size` there are; a count of 0 is taken as 1 (R21, R113, R187; log
entry 19). The start lies below the size. -/
def fitCount (start count size : Nat) : Nat := clampTo 1 (size - start) count

end Sys2Proof.Machine
end

