-- ==== Sys2Proof/Machine/Monitor.lean ====
section
/-! DEFINITION. The Lane Monitor (chapter 5): the arbiter's selection, the corrected value and its limit status, the
result table, and the withdrawal of bring-up requests. -/

namespace Sys2Proof.Machine

/-! ## The scan side (R107) -/

/-- Whether a global lane is FENCED. -/
def State.laneFenced (s : State) (g : Fin 128) : Bool := decide ((s.lane g).state = .fenced)

/-- The lowest global index of the job's mask, from its next lane on, whose lane is not FENCED. -/
def ScanJob.candidate (fenced : Fin 128 → Bool) (j : ScanJob) : Option (Fin 128) :=
  (List.finRange 128).find? fun g => decide (j.next ≤ g.val) && j.mask.getLsbD g.val && !fenced g

/-- A job's next scan lane, going on to a later pass when the present one has no lane left (R107); `fuel` bounds the
passes. `none` is a job with no lane left in its last pass. -/
def ScanJob.seek (fenced : Fin 128 → Bool) : Nat → ScanJob → ScanJob × Option (Fin 128)
  | 0, j => (j, none)
  | fuel + 1, j =>
    match j.candidate fenced with
    | some g => (j, some g)
    | none =>
      if j.pass < j.passes then ScanJob.seek fenced fuel { j with pass := j.pass + 1, next := 0 } else (j, none)

/-- What an examination of the scan side gives: the jobs that remain, the head job's next scan lane, and the ids of the
jobs that completed. -/
structure Examined where
  jobs : List ScanJob
  lane : Option (Fin 128)
  done : List (Fin 4)
deriving DecidableEq, Repr

/-- The examination of the job list from its head (R107): a complete job leaves the list and the next one becomes the
head. A job has at most 16 passes. -/
def examineJobs (fenced : Fin 128 → Bool) : List ScanJob → Examined
  | [] => ⟨[], none, []⟩
  | j :: rest =>
    match j.seek fenced 16 with
    | (j', some g) => ⟨j' :: rest, some g, []⟩
    | (_, none) =>
      let e := examineJobs fenced rest
      { e with done := j.id :: e.done }

/-! ## The arbiter (R109) -/

/-- A selection: the state it leaves and the ids of the jobs that completed at it, in order. -/
structure Selected where
  state : State
  done : List (Fin 4)

/-- The start of a measurement: the engine records lane, source and the lane's current setting (R99). -/
def State.startMeasurement (s : State) (g : Fin 128) (source : MeasureSource) : State :=
  s.withMonitor { s.monitor with
    engine := some ⟨g, source, (s.lane g).current, .running Config.measurementTime⟩ }

/-- Serving the request at the head of the bring-up queue: the run count rises by one, held at 8, and the lane's marker
shows the request in service (R84, R103). -/
def State.serveRequest (s : State) (r : BringUpRequest) (rest : List BringUpRequest) : State :=
  let s := s.withMonitor { s.monitor with queue := rest, runCount := min 8 (s.monitor.runCount + 1) }
  (s.startMeasurement r.lane (.bringUp r.attempt)).modLane r.lane fun ln => { ln with marker := .inService }

/-- Serving a scan lane of the head job: its next lane becomes that index + 1, and the run count 0. -/
def State.serveScan (s : State) (g : Fin 128) : State :=
  match s.monitor.jobs with
  | [] => s
  | j :: rest =>
    let s := s.withMonitor
      { s.monitor with jobs := { j with next := g.val + 1 } :: rest, runCount := 0 }
    s.startMeasurement g (.scan (some j.id))

/-- A selection (R109), which a busy engine does not make. -/
def State.select (s : State) : Selected :=
  match s.monitor.engine with
  | some _ => ⟨s, []⟩
  | none =>
    let e := examineJobs s.laneFenced s.monitor.jobs
    let s := s.withMonitor { s.monitor with jobs := e.jobs }
    match s.monitor.queue, e.lane with
    | [], none => ⟨s, e.done⟩
    | r :: rest, none => ⟨s.serveRequest r rest, e.done⟩
    | [], some g => ⟨s.serveScan g, e.done⟩
    | r :: rest, some g =>
      if s.monitor.runCount = 8 then ⟨s.serveScan g, e.done⟩ else ⟨s.serveRequest r rest, e.done⟩

/-! ## Results (R100, R102) -/

/-- The corrected value: raw plus offset, held in 0 to 1023 (R100). -/
def correctedValue (raw : Nat) (setup : MonitorSetup) : Nat :=
  if (raw : Int) + setup.offset < 0 then 0
  else if 1023 < (raw : Int) + setup.offset then 1023
  else ((raw : Int) + setup.offset).toNat

/-- The limit status of a corrected value (R100). -/
def limitStatus (v : Nat) (setup : MonitorSetup) : LimitStatus :=
  if v < setup.low then .below else if setup.high < v then .above else .within

/-- The result sequence counter goes from 65,535 to 1 (R102). -/
def nextSequence (n : Nat) : Nat := if n < 65535 then n + 1 else 1

def MeasureSource.result : MeasureSource → ResultSource
  | .bringUp _ => .bringUp
  | .scan _ => .scan

/-- Steps 1 to 3 of a completion (R101): the result record is overwritten, the sequence counter advances and the port's
measurements counter increments. -/
def State.writeResult (s : State) (m : Measurement) (v : Nat) : State :=
  let seq := nextSequence s.monitor.sequence
  let record : Result :=
    { corrected := v
      setting := m.setting
      source := m.source.result
      limit := limitStatus v (s.monitor.setups.get m.lane)
      sequence := seq }
  (s.withMonitor { s.monitor with sequence := seq, results := s.monitor.results.set m.lane record }).modPort
    (lanePort m.lane) Port.countMeasurement

/-- A scan measurement counts towards its job if the job is still in the list (R101, R107). -/
def countMade (job : Option (Fin 4)) (jobs : List ScanJob) : List ScanJob :=
  jobs.map fun j => if job = some j.id then { j with made := j.made + 1 } else j

/-! ## The bring-up queue (R103, R105) -/

/-- Port withdrawal: every waiting request of the port's lanes is removed. -/
def State.withdrawPort (s : State) (p : Fin 32) : State :=
  s.withMonitor { s.monitor with queue := s.monitor.queue.filter fun r => lanePort r.lane != p }

/-- Lane withdrawal: the lane's waiting request is removed. -/
def State.withdrawLane (s : State) (g : Fin 128) : State :=
  s.withMonitor { s.monitor with queue := s.monitor.queue.filter fun r => r.lane != g }

end Sys2Proof.Machine
end

