-- ==== Sys2Proof/Machine/Lanes.lean ====
section
/-! DEFINITION. The Lane Front End (chapter 4): what happens at one lane. -/

namespace Sys2Proof.Machine

/-! ## Entering and leaving the lane stages -/

/-- A lane outside the lane stages is FENCED while its flag is set and IDLE while it is clear (R81). -/
def restState (fenced : Bool) : LaneState := if fenced then .fenced else .idle

/-- A fence change outside the lane stages (R81). -/
def Lane.refence (fenced : Bool) (ln : Lane) : Lane := { ln with state := restState fenced }

/-- The port leaves the lane stages (R33, R78): the lane rests, a waiting request is withdrawn and a measurement in service
shows abandoned. The lock-loss count, which R78 does not name here, is kept (DESIGN CHOICE, log entry 47), and the lock timer
is stopped (DEDUCED, the same entry). -/
def Lane.leave (fenced : Bool) (ln : Lane) : Lane :=
  { ln with
    state := restState fenced
    lockTimer := .stopped
    marker := match ln.marker with
      | .none | .waiting => .none
      | .inService | .abandoned => .abandoned }

/-- The setting a lane locks at: the forced setting if one is held, the previous one otherwise (R81). -/
def Lane.startSetting (ln : Lane) : Fin 32 :=
  match ln.forced with
  | some f => f
  | none => ln.previous

/-- LANE_LOCK entry (R81): a fenced lane stays FENCED, an unfenced lane enters LOCKING. -/
def Lane.enterLaneLock (pr : Params) (fenced : Bool) (ln : Lane) : Lane :=
  if fenced then { ln with state := .fenced }
  else
    { ln with
      state := .locking
      current := ln.startSetting
      inversion := false
      window := none
      method := .none
      lockLosses := 0
      lockTimer := armMs pr.laneLockTimeout }

/-- A lock timeout: FAILED with NO_LOCK, the current setting unchanged (R82). -/
def Lane.lockTimeout (ln : Lane) : Lane := { ln with state := .failed .noLock, lockTimer := .stopped }

/-! ## The search (R83 to R88) -/

/-- The start of a search: threshold and minimum window are captured, and the method chosen by Table 4-2 (R83). `step` is
the setting of the first step. -/
def Lane.startSearch (pr : Params) (ln : Lane) : Lane :=
  let ln := { ln with
    state := .searching
    lockTimer := .stopped
    passMv := pr.eqPassMv
    minWindow := pr.eqMinWindow
    window := none
    currentRun := none
    bestRun := none }
  match ln.forced, pr.eqMethod with
  | some f, _ => { ln with method := .forced, step := f }
  | none, .hold => { ln with method := .hold, step := ln.previous }
  | none, .midpoint => { ln with method := .midpoint, step := 0 }

/-- The beginning of a step at the lane: the current setting becomes the step's, and the marker shows a request waiting
(R84). -/
def Lane.beginStep (ln : Lane) : Lane := { ln with current := ln.step, marker := .waiting }

/-- GOOD at a setting: the previous setting is written (R89). -/
def Lane.reach (setting : Fin 32) (window : Option Run) (marginal : Bool) (ln : Lane) : Lane :=
  { ln with state := .good marginal, current := setting, previous := setting, window := window }

/-- A failed search: the current setting returns to the previous one (R85, R88). -/
def Lane.failSearch (reason : FailReason) (ln : Lane) : Lane :=
  { ln with state := .failed reason, current := ln.previous }

/-- The number of settings in a run. -/
def Run.width (r : Run) : Nat := r.high.val - r.low.val + 1

/-- The width of a run that may not exist. -/
def runWidth : Option Run → Nat
  | some r => r.width
  | none => 0

/-- The current run after a step (R87). -/
def extendRun (pass : Bool) (setting : Fin 32) (run : Option Run) : Option Run :=
  if pass then
    match run with
    | some r => some ⟨r.low, setting⟩
    | none => some ⟨setting, setting⟩
  else none

/-- The middle of a run: (lo + hi) div 2 (R88). -/
def Run.middle (r : Run) : Fin 32 := ⟨(r.low.val + r.high.val) / 2, by omega⟩

/-- The end of a sweep with its best run (R88). -/
def Lane.endSweep (best : Option Run) (ln : Lane) : Lane :=
  match best with
  | some r => ln.reach r.middle (some r) (decide (r.width < ln.minWindow))
  | none => ln.failSearch .eqEmpty

/-- A delivery in a MIDPOINT sweep (R87). -/
def Lane.sweepStep (pass : Bool) (ln : Lane) : Lane :=
  let run := extendRun pass ln.step ln.currentRun
  let best := if runWidth ln.bestRun < runWidth run then run else ln.bestRun
  let ln := { ln with currentRun := run, bestRun := best }
  if h : ln.step.val < 31 then { ln with step := ⟨ln.step.val + 1, by omega⟩ } else ln.endSweep best

/-- A delivery to a lane whose step is in service (R84 to R88). If the lane is still SEARCHING afterwards, its next
step begins at the same event. -/
def Lane.takeStep (v : Nat) (ln : Lane) : Lane :=
  let pass := decide (ln.passMv ≤ v)
  match ln.method with
  | .forced => if pass then ln.reach ln.step none false else ln.failSearch .forcedFail
  | .hold =>
    if pass then ln.reach ln.step none false
    else { ln with method := .midpoint, step := 0, currentRun := none, bestRun := none }
  | .midpoint => ln.sweepStep pass
  | .none => ln

/-! ## Loss of lock -/

/-- A search in progress is abandoned (R92): a waiting request is withdrawn, one in service shows abandoned. -/
def Lane.abandonSearch (ln : Lane) : Lane :=
  { ln with marker := match ln.marker with
      | .none | .waiting => .none
      | .inService | .abandoned => .abandoned }

/-- Loss of lock in LANE_LOCK (R92): back to LOCKING, or FAILED with NO_LOCK at the third loss. -/
def Lane.loseLockInLaneLock (pr : Params) (ln : Lane) : Lane :=
  match ln.state with
  | .searching | .good _ =>
    let ln := { ln.abandonSearch with lockLosses := ln.lockLosses + 1 }
    if 3 ≤ ln.lockLosses then { ln with state := .failed .noLock, current := ln.previous }
    else
      { ln with
        state := .locking
        lockTimer := armMs pr.laneLockTimeout
        window := none
        current := ln.startSetting }
  | .fenced | .idle | .locking | .failed _ => ln

/-- Loss of lock by a GOOD lane after LANE_LOCK (R93, R94): FAILED with NO_LOCK at the setting it held. -/
def Lane.loseLockAfter (ln : Lane) : Lane :=
  match ln.state with
  | .good _ => { ln with state := .failed .noLock }
  | .fenced | .idle | .locking | .searching | .failed _ => ln

/-! ## Steps that place a request -/

/-- The beginning of a search step (R84): the request joins the tail of the bring-up queue with the port's attempt number
(R103). -/
def State.placeStep (s : State) (p : Fin 32) (l : Fin 4) : State :=
  let s := s.modPort p fun pt => pt.modLane l Lane.beginStep
  s.withMonitor { s.monitor with
    queue := s.monitor.queue ++ [⟨globalLane p l, (s.port p).attempt⟩] }

/-- The lane has nothing outstanding: a search that waits for an abandoned measurement to end, or one that goes on, begins
its step (R84, R92, R104). -/
def State.resumeSearch (s : State) (p : Fin 32) (l : Fin 4) : State :=
  if ((s.port p).lane l).state = .searching then s.placeStep p l else s

/-- The completion of a bring-up measurement (R104): delivered as a search step when the attempt numbers are equal and the
lane has not abandoned it; otherwise the marker alone is cleared. -/
def State.deliver (s : State) (p : Fin 32) (l : Fin 4) (attempt : BitVec 32) (v : Nat) : State :=
  let pt := s.port p
  let live := decide (attempt = pt.attempt) && decide ((pt.lane l).marker = .inService)
    && decide ((pt.lane l).state = .searching)
  let s := s.modPort p fun pt => pt.modLane l fun ln =>
    let ln := { ln with marker := .none }
    if live then ln.takeStep v else ln
  s.resumeSearch p l

end Sys2Proof.Machine
end

