-- ==== Sys2Proof/Machine/Deskew.lean ====
section
/-! DEFINITION. The Deskew Unit (chapter 6): the marker wait, collections, differences, the lane map, skews, the
candidate set, delays and the kept mask. Everything here works on one port. -/

namespace Sys2Proof.Machine

/-! ## Access -/

def Port.dlane (pt : Port) (l : Fin 4) : DeskewLane := pt.deskew.lanes.get l

def Port.modDeskew (pt : Port) (f : Deskew → Deskew) : Port := { pt with deskew := f pt.deskew }

def Deskew.modLane (d : Deskew) (l : Fin 4) (f : DeskewLane → DeskewLane) : Deskew :=
  { d with lanes := d.lanes.modify l f }

def Port.modDlane (pt : Port) (l : Fin 4) (f : DeskewLane → DeskewLane) : Port :=
  pt.modDeskew fun d => d.modLane l f

/-- Every item at its reset value, with these alignment statuses; the marker stamp counter runs on (R116, R118). -/
def Deskew.cleared (status : Fin 4 → AlignStatus) (d : Deskew) : Deskew :=
  { Deskew.reset with
    stampCounter := d.stampCounter
    lanes := .ofFn fun l => { DeskewLane.reset with status := status l } }

/-- The port leaves the lane stages: everything is cleared but the alignment status of each lane (R116). -/
def Deskew.leave (d : Deskew) : Deskew := d.cleared fun l => (d.lanes.get l).status

/-! ## The marker wait (R119 to R121) -/

/-- The start of an alignment (R119). Lanes in `lost` keep alignment status NO_LOCK (R133); every other lane that is not
GOOD is NOT_ALIGNED, and a GOOD lane starts cleared. -/
def Port.startAlignment (lost : Fin 4 → Bool) (pt : Port) : Port :=
  pt.modDeskew fun d =>
    { d.cleared (fun l => if lost l then .noLock else .notAligned) with
      phase := .markerWait
      waitTimer := .running Config.markerWait }

/-- A collecting lane: GOOD with its marker-seen flag set (R122). -/
def Port.collecting (pt : Port) (l : Fin 4) : Bool := pt.good l && (pt.dlane l).seen

/-- Whether every participating lane has its marker-seen flag set (R119). -/
def Port.allSeen (pt : Port) : Bool := allLanes.all fun l => !pt.good l || (pt.dlane l).seen

/-- Whether no lane is collecting. -/
def Port.noneCollecting (pt : Port) : Bool := allLanes.all fun l => !pt.collecting l

/-- Whether no lane is GOOD. -/
def Port.noneGood (pt : Port) : Bool := allLanes.all fun l => !pt.good l

/-- The lowest-numbered collecting lane (R121). -/
def Port.lowestCollecting (pt : Port) : Option (Fin 4) := allLanes.find? pt.collecting

/-- The sequence number after the most recent marker decoded on any collecting lane, modulo 16 (R122). -/
def Port.nextFirstSequence (pt : Port) : Option (Fin 16) :=
  (pt.deskew.decoded.find? fun d => pt.collecting d.1).map fun d => d.2 + 1

/-- The start of a collection with this number (R122): every collecting lane's stamps become missing. -/
def Port.startCollection (number : Nat) (pt : Port) : Port :=
  let q := pt.nextFirstSequence
  let collecting := pt.collecting
  pt.modDeskew fun d =>
    { d with
      phase := .collecting
      collection := number
      firstSequence := q
      waitTimer := .stopped
      closeTimer := .stopped
      lanes := d.lanes.mapFin fun l dl =>
        if collecting l then { dl with stamps := .replicate 4 none } else dl }

/-- The lanes dropped at the end of the marker wait: GOOD and without a marker (R119). -/
def Port.dropUnseen (pt : Port) : Port :=
  let good := pt.good
  pt.modDeskew fun d =>
    { d with lanes := d.lanes.mapFin fun l dl =>
        if good l && !dl.seen then { dl with status := .noMarker } else dl }

/-- The end of the marker wait with a lane that sees markers: the reference lane is chosen and collection 1 starts
(R119, R121). -/
def Port.endMarkerWait (pt : Port) : Port :=
  let reference := pt.lowestCollecting
  (pt.modDeskew fun d => { d with reference := reference }).startCollection 1

/-! ## Markers (R118 to R122) -/

/-- The latest sequence number decoded on each lane, most recent first. -/
def noteDecoded (l : Fin 4) (q : Fin 16) (decoded : List (Fin 4 × Fin 16)) : List (Fin 4 × Fin 16) :=
  (l, q) :: decoded.filter fun d => d.1 != l

/-- An inversion report (R95): the inversion toggles; the first report of the attempt is counted. It has no effect on a
lane that is not GOOD. -/
def Port.reportInverted (l : Fin 4) (pt : Port) : Port :=
  if pt.good l then
    let counted := (pt.lane l).polarityCounted
    let pt := pt.modLane l fun ln => { ln with inversion := !ln.inversion, polarityCounted := true }
    if counted then pt else pt.countPolarity
  else pt

/-- A true marker in the marker wait: the first one sets the marker-seen flag and records the logical lane (R119). -/
def DeskewLane.see (logical : Fin 4) (dl : DeskewLane) : DeskewLane :=
  if dl.seen then dl else { dl with seen := true, logical := some logical }

/-- The position of a sequence number in a collection that starts at `first` (R122). -/
def stampPosition (first sequence : Fin 16) : Option (Fin 4) :=
  let k := (sequence - first).val
  if h : k < 4 then some ⟨k, h⟩ else none

/-- A true marker in a collection (R122): its stamp is recorded when its sequence number is one of the four and it carries
the lane's recorded logical lane. The first stamp of sequence q arms the close, which runs on if that lane is dropped later
(R125); its 8 marker periods count from this event and not from the moment, `age` SU earlier, that was stamped (DESIGN CHOICE,
log entry 48). A second marker of a number already stamped, which comes when the numbers repeat before q is stamped, replaces the stamp
(DESIGN CHOICE, log entry 39). -/
def Port.stampMarker (l logical : Fin 4) (sequence : Fin 16) (stamp : BitVec 16) (pt : Port) : Port :=
  match pt.deskew.firstSequence with
  | none => pt
  | some q =>
    match stampPosition q sequence with
    | none => pt
    | some k =>
      if pt.collecting l && decide ((pt.dlane l).logical = some logical) then
        let first := decide (k = 0) && !pt.deskew.closeTimer.isRunning
        let pt := pt.modDlane l fun dl => { dl with stamps := dl.stamps.set k (some stamp) }
        if first then pt.modDeskew fun d => { d with closeTimer := .running Config.collectionTime } else pt
      else pt

/-- The stamp of a marker whose first bit passed the stamp point `age` SU ago: the counter's value at that moment (R118). -/
def Port.markerStamp (pt : Port) (age : BitVec 16) : BitVec 16 := pt.deskew.stampCounter - age

/-- Whether a marker arrives inverted at the decoder, which sees the line after the lane's receive inversion (R95, R118). -/
def Port.arrivesInverted (pt : Port) (l : Fin 4) (lineInverted : Bool) : Bool := lineInverted ^^ (pt.lane l).inversion

/-- A decodable marker on a lane of a port in ALIGN (R118 to R122). -/
def Port.takeMarker (l : Fin 4) (inverted : Bool) (logical : Fin 4) (sequence : Fin 16) (stamp : BitVec 16)
    (pt : Port) : Port :=
  match pt.deskew.phase with
  | .markerWait =>
    if pt.good l then
      let pt := pt.modDeskew fun d => { d with decoded := noteDecoded l sequence d.decoded }
      if inverted then pt.reportInverted l else pt.modDlane l (DeskewLane.see logical)
    else pt
  | .collecting =>
    if pt.collecting l then
      let pt := pt.modDeskew fun d => { d with decoded := noteDecoded l sequence d.decoded }
      if inverted then pt.reportInverted l else pt.stampMarker l logical sequence stamp
    else pt
  | .idle | .fixed => pt

/-! ## Differences and stability (R123, R124) -/

/-- d = ((a − b + 32,768) mod 65,536) − 32,768 (R123). -/
def stampDifference (a b : BitVec 16) : Int :=
  ((a.toNat : Int) - (b.toNat : Int) + 32768) % 65536 - 32768

/-- The differences of a lane against the reference lane (R123). -/
def differencesOf (lane reference : DeskewLane) : Table (Option Int) 4 :=
  .ofFn fun k =>
    match lane.stamps.get k, reference.stamps.get k with
    | some a, some b => some (stampDifference a b)
    | _, _ => none

/-- The four differences when all are present. -/
def DeskewLane.allDifferences (dl : DeskewLane) : Option (List Int) :=
  match dl.differences.get 0, dl.differences.get 1, dl.differences.get 2, dl.differences.get 3 with
  | some a, some b, some c, some d => some [a, b, c, d]
  | _, _, _, _ => none

/-- The largest minus the smallest of a list of numbers. -/
def spread (l : List Int) : Int :=
  match l with
  | [] => 0
  | a :: rest => rest.foldl max a - rest.foldl min a

/-- A lane is stable when all four differences are present and their spread is 4 SU or less (R124). -/
def DeskewLane.stable (dl : DeskewLane) : Bool :=
  match dl.allDifferences with
  | some l => decide (spread l ≤ 4)
  | none => false

/-- The reference lane of the alignment is stable by R121. -/
def Port.stable (pt : Port) (l : Fin 4) : Bool :=
  decide (pt.deskew.reference = some l) || (pt.dlane l).stable

/-- The differences of every collecting lane formed at a close (R123). -/
def Port.formDifferences (pt : Port) : Port :=
  match pt.deskew.reference with
  | none => pt
  | some r =>
    let ref := pt.dlane r
    let collecting := pt.collecting
    pt.modDeskew fun d =>
      { d with lanes := d.lanes.mapFin fun l dl =>
          if collecting l then { dl with differences := differencesOf dl ref } else dl }

/-! ## The lane map (R126) -/

/-- The entries of the lane map: each lane with its marker-seen flag set, and its logical lane. -/
def Port.mapEntries (pt : Port) : List (Fin 4 × Fin 4) :=
  allLanes.filterMap fun p =>
    let dl := pt.dlane p
    match dl.seen, dl.logical with
    | true, some l => some (p, l)
    | _, _ => none

/-- The class of a lane map, by the first condition of Table 6-4 that holds. -/
def classify (entries : List (Fin 4 × Fin 4)) : MapClass :=
  if ¬ (entries.map (·.2)).Nodup then .invalid
  else if ∀ e ∈ entries, e.2 = e.1 then .identity
  else if ∀ e ∈ entries, e.2.val = 3 - e.1.val then .reversed
  else .permuted

/-! ## Skew (R127 to R130) -/

/-- Legal lane sets in order of preference (Table 6-5). -/
def legalSets : List (BitVec 4) := [0b1111, 0b0011, 0b1100, 0b0001, 0b0010, 0b0100, 0b1000]

/-- The number of lanes of a set. -/
def setWidth (m : BitVec 4) : Nat := (allLanes.filter fun l => m.getLsbD l.val).length

/-- The width-reduction function (R132): the first legal set that is a subset, or the empty set. -/
def reduceWidth (m : BitVec 4) : BitVec 4 :=
  match legalSets.find? fun s => s &&& m == s with
  | some s => s
  | none => 0

/-- floor of the sum of the differences plus 2, over 4 (R128). -/
def averageOf (l : List Int) : Int := (l.foldl (· + ·) 0 + 2) / 4

/-- The average of a stable lane; the reference lane's is 0 (R128). -/
def Port.average (pt : Port) (l : Fin 4) : Int :=
  if pt.deskew.reference = some l then 0
  else
    match (pt.dlane l).allDifferences with
    | some ds => averageOf ds
    | none => 0

/-- What the close of the final collection finds, before it is written: the remaining collecting lanes, the map class and
the eligible lanes (R126, R127). -/
structure Findings where
  stable : List (Fin 4)
  mapClass : MapClass
  eligible : List (Fin 4)
deriving DecidableEq, Repr

/-- Eligible: a remaining collecting lane, under a map that is not INVALID, whose logical lane is fenced neither here nor
at the peer (R127). -/
def Port.findings (pt : Port) : Findings :=
  let stable := allLanes.filter fun l => pt.collecting l && pt.stable l
  let cls := classify pt.mapEntries
  let eligible := stable.filter fun p =>
    decide (cls ≠ .invalid) &&
      match (pt.dlane p).logical with
      | some l => !pt.fence l && !pt.neighbor.fence.getLsbD l.val
      | none => false
  ⟨stable, cls, eligible⟩

/-- The smallest of a list of numbers, if any. -/
def minOf : List Int → Option Int
  | [] => none
  | a :: rest => some (rest.foldl min a)

/-- The largest of a list of naturals, if any. -/
def maxOf : List Nat → Option Nat
  | [] => none
  | a :: rest => some (rest.foldl max a)

/-- The skew of each eligible lane: its average minus the smallest (R128). -/
def Port.skewOf (pt : Port) (eligible : List (Fin 4)) (l : Fin 4) : Option Nat :=
  if l ∈ eligible then
    match minOf (eligible.map pt.average) with
    | some m => some (pt.average l - m).toNat
    | none => none
  else none

/-- The skews of a list of lanes. -/
def Port.skewsOf (pt : Port) (eligible lanes : List (Fin 4)) : List Nat := lanes.filterMap (pt.skewOf eligible)

/-- The largest minus the smallest skew of a set of lanes. -/
def skewSpread (skews : List Nat) : Nat :=
  match skews with
  | [] => 0
  | a :: rest => rest.foldl max a - rest.foldl min a

/-- The eligible physical lane that carries a logical lane. -/
def Port.carrier (pt : Port) (eligible : List (Fin 4)) (logical : Fin 4) : Option (Fin 4) :=
  eligible.find? fun p => decide ((pt.dlane p).logical = some logical)

/-- The physical lanes that carry a legal set, when each of its logical lanes is carried by an eligible lane (R129). -/
def Port.carriers (pt : Port) (eligible : List (Fin 4)) (m : BitVec 4) : Option (List (Fin 4)) :=
  (allLanes.filter fun l => m.getLsbD l.val).mapM (pt.carrier eligible)

/-- A choice of candidates (R129): none when no set qualifies, which is a skew excess. -/
def Port.chooseCandidates (pt : Port) (eligible : List (Fin 4)) (limit minWidth : Nat) :
    Option (List (Fin 4)) :=
  match maxOf (pt.skewsOf eligible eligible) with
  | none => some eligible
  | some largest =>
    if largest ≤ limit then some eligible
    else
      legalSets.findSome? fun m =>
        if setWidth m < minWidth then none
        else
          match pt.carriers eligible m with
          | some lanes => if skewSpread (pt.skewsOf eligible lanes) ≤ limit then some lanes else none
          | none => none

/-- Alignment status of a lane at the fixing (R127, R129, R131). -/
def finalStatus (f : Findings) (candidates : List (Fin 4)) (l : Fin 4) (before : AlignStatus) : AlignStatus :=
  if l ∈ candidates then .kept
  else if l ∈ f.eligible then .outsideSubset
  else if l ∈ f.stable then .excluded
  else before

/-- The kept mask: the logical lanes that the candidates carry (R131). -/
def Port.keptOf (pt : Port) (candidates : List (Fin 4)) : BitVec 4 :=
  laneMask fun l => candidates.any fun p => decide ((pt.dlane p).logical = some l)

/-- The skew limit that the Deskew Unit applies: 480 SU when the record has none (R129). -/
def BaseFields.appliedSkewLimit (b : BaseFields) : Nat :=
  match b.skewLimit with
  | some n => n
  | none => Config.defaultSkewLimit

/-- The computation at the close of the final collection (R126 to R131): lane map, skews, candidate set, delays, and the
kept mask fixed. The maximum kept skew is S' of R130 as it stands; it can pass the 480 of Table 6-1 when the candidate set leaves out the
earliest eligible lane, and that it is then stored uncapped is the model's choice (DESIGN CHOICE, log entry 46). -/
def Port.fixMask (base : BaseFields) (pt : Port) : Port :=
  let f := pt.findings
  let limit := base.appliedSkewLimit
  let choice := pt.chooseCandidates f.eligible limit base.minWidth.lanes
  let candidates := choice.getD []
  let skew := pt.skewOf f.eligible
  let most := maxOf (pt.skewsOf f.eligible candidates)
  let average := pt.average
  let kept := pt.keptOf candidates
  pt.modDeskew fun d =>
    { d with
      phase := .fixed
      closeTimer := .stopped
      appliedLimit := some limit
      mapClass := some f.mapClass
      skewExcess := choice.isNone
      maxKeptSkew := most
      keptMask := kept
      lanes := d.lanes.mapFin fun l dl =>
        { dl with
          average := if l ∈ f.stable then some (average l) else none
          skew := skew l
          delay := if l ∈ candidates then
              (match most, skew l with
               | some m, some k => some (m - k)
               | _, _ => none)
            else none
          status := finalStatus f candidates l dl.status } }

/-- After collection 3 every unstable lane is dropped (R124). -/
def Port.dropUnstable (pt : Port) : Port :=
  let unstable := fun l => pt.collecting l && !pt.stable l
  pt.modDeskew fun d =>
    { d with lanes := d.lanes.mapFin fun l dl =>
        if unstable l then { dl with status := .skewUnstable } else dl }

/-- Whether every collecting lane is stable (R124). -/
def Port.allStable (pt : Port) : Bool := allLanes.all fun l => !pt.collecting l || pt.stable l

/-- The close of a collection (R123, R124): the final collection fixes the mask; after collection 1 or 2 with an unstable
lane a new collection starts. -/
def Port.closeCollection (base : BaseFields) (pt : Port) : Port :=
  let pt := pt.formDifferences
  if pt.allStable then pt.fixMask base
  else if pt.deskew.collection < 3 then pt.startCollection (pt.deskew.collection + 1)
  else pt.dropUnstable.fixMask base

/-! ## The receive paths in ACTIVE (R136) -/

/-- A kept lane: one whose alignment status is KEPT (Table 6-3). -/
def Port.keptLane (pt : Port) (l : Fin 4) : Bool := decide ((pt.dlane l).status = .kept)

/-- What feeds a logical lane: the physical lane, its deskew delay in SU, its receive inversion, and whether it carries traffic or,
outside the final set, the training pattern. -/
structure ReceivePath where
  physical : Fin 4
  delay : Option Nat
  inverted : Bool
  traffic : Bool
deriving DecidableEq, Repr

/-- The receive path of a logical lane in ACTIVE (R136): the kept physical lane that the map gives for it, after its delay. -/
def Port.receivePath (pt : Port) (logical : Fin 4) : Option ReceivePath :=
  if pt.state = .active then
    (allLanes.find? fun p => pt.keptLane p && decide ((pt.dlane p).logical = some logical)).map fun p =>
      { physical := p
        delay := (pt.dlane p).delay
        inverted := (pt.lane p).inversion
        traffic := pt.inFinalSet logical }
  else none

/-! ## Loss of lock during and after an alignment (R125, R133, R134) -/

/-- A lane dropped from the alignment in progress: status NO_LOCK, its marker-seen flag, logical lane and stamps
discarded (R125). -/
def DeskewLane.dropLost (dl : DeskewLane) : DeskewLane :=
  { dl with seen := false, logical := none, stamps := .replicate 4 none, status := .noLock }

/-- The GOOD lanes among those that lose lock become FAILED with NO_LOCK (R93). -/
def Port.failLostLanes (lost : Fin 4 → Bool) (pt : Port) : Port :=
  { pt with lanes := pt.lanes.mapFin fun l ln => if lost l then ln.loseLockAfter else ln }

/-- The lost lanes are dropped from the alignment in progress (R125). -/
def Port.dropLostLanes (lost : Fin 4 → Bool) (pt : Port) : Port :=
  pt.modDeskew fun d =>
    { d with lanes := d.lanes.mapFin fun l dl => if lost l then dl.dropLost else dl }

/-- After the mask is fixed a lost lane's alignment status becomes NO_LOCK (R133, R134). -/
def Port.markLostLanes (lost : Fin 4 → Bool) (pt : Port) : Port :=
  pt.modDeskew fun d =>
    { d with lanes := d.lanes.mapFin fun l dl => if lost l then { dl with status := .noLock } else dl }

/-- A dropped reference lane in COLLECTING (R125): the lowest-numbered remaining collecting lane takes its role and a new
collection starts with the collection number unchanged. -/
def Port.replaceReference (lost : Fin 4 → Bool) (pt : Port) : Port :=
  match pt.deskew.reference with
  | some r =>
    if lost r then
      let reference := pt.lowestCollecting
      let number := pt.deskew.collection
      (pt.modDeskew fun d => { d with reference := reference }).startCollection number
    else pt
  | none => pt

end Sys2Proof.Machine
end

