-- ==== Sys2Proof/Machine/Ranging.lean ====
section
/-! DEFINITION. The Ranging Unit (chapter 7): the probe burst, its samples, and the length. Everything here works on
one port. -/

namespace Sys2Proof.Machine

def Burst.modProbe (b : Burst) (k : Fin 8) (f : Probe → Probe) : Burst :=
  { b with probes := b.probes.modify k f }

/-- The next probe of a burst that has requested `n` of its eight. -/
def probeIndex (n : Nat) : Option (Fin 8) := if h : n < 8 then some ⟨n, h⟩ else none

/-- The neighbor record's length becomes absent, both flags clear (R71, R75). -/
def Neighbor.clearLength (n : Neighbor) : Neighbor :=
  { n with length := none, unmeasured := false, suspect := false }

/-- The request of the next probe (R143): its status becomes WAITING and the Sideband Unit holds it; the schedule timer is
armed until probe 8 has been requested. -/
def Port.requestProbe (pt : Port) : Port :=
  match probeIndex pt.burst.requested with
  | none => pt
  | some k =>
    let b := pt.burst.modProbe k fun pr => { pr with status := .waiting }
    { pt with
      burst := { b with
        requested := b.requested + 1
        schedule := if k.val < 7 then .running Config.scheduleTime else .stopped }
      tx := { pt.tx with probeWaiting := some k } }

/-- The start of a burst (R143): a fresh record, no length, no summary, and probe 1 requested. -/
def Port.startBurst (pt : Port) : Port :=
  Port.requestProbe
    { pt with
      burst := { Burst.reset with running := true }
      summary := RangingSummary.reset
      neighbor := pt.neighbor.clearLength }

/-- The abandonment of a burst (R146): the record returns to IDLE, a WAITING probe is withdrawn, and a probe in
transmission belongs to no burst. -/
def Port.abandonBurst (pt : Port) : Port :=
  { pt with
    burst := Burst.reset
    tx := { pt.tx with
      probeWaiting := none
      sending := pt.tx.sending.map fun f => { f with probe := none } } }

/-- The TU left at `now` until 1 ms after T1 (R144); T1 lies before the end of the frame by its idle gap (R63, R64). -/
def probeTimeLeft (t1 now : BitVec 32) : Nat := ((Config.probeTimeout : Int) + (t1 - now).toInt).toNat

/-- T1 handed over at the end of a PROBE's transmission (R64, R144), at the timestamp `now`: the probe becomes OUTSTANDING and its
timeout is armed to expire 1 ms after T1. -/
def Burst.handOver (k : Fin 8) (t1 now : BitVec 32) (b : Burst) : Burst :=
  if b.running && decide ((b.probes.get k).status = .waiting) then
    b.modProbe k fun pr =>
      { pr with status := .outstanding, t1 := some t1, timeout := .running (probeTimeLeft t1 now) }
  else b

/-- The elapsed time of a sample: (T4 − T1) mod 2^32 (R147). -/
def elapsedTime (t1 t4 : BitVec 32) : Nat := (t4 - t1).toNat

/-- The net loop time of a sample (R147). -/
def netTime (t1 t4 : BitVec 32) (turnaround : BitVec 16) : Int :=
  (elapsedTime t1 t4 : Int) - (turnaround.toNat : Int)

/-- The OUTSTANDING probe whose T1 an ECHO carries (R144). -/
def Burst.matching (b : Burst) (t1 : BitVec 32) : Option (Fin 8) :=
  if b.running then
    (List.finRange 8).find? fun k =>
      decide ((b.probes.get k).status = .outstanding) && decide ((b.probes.get k).t1 = some t1)
  else none

/-- A matched ECHO: the probe becomes ANSWERED with its turnaround, T4 and net loop time (R144, R147). -/
def Burst.answer (k : Fin 8) (t1 t4 : BitVec 32) (turnaround : BitVec 16) (b : Burst) : Burst :=
  b.modProbe k fun pr =>
    { pr with
      status := .answered
      turnaround := some turnaround
      t4 := some t4
      net := some (netTime t1 t4 turnaround)
      timeout := .stopped }

/-- The expiry of an OUTSTANDING probe's timeout (R144). -/
def Burst.timeOut (k : Fin 8) (b : Burst) : Burst :=
  b.modProbe k fun pr => { pr with status := .timedOut, timeout := .stopped }

/-- No probe is UNREQUESTED, WAITING or OUTSTANDING (R145). -/
def Burst.complete (b : Burst) : Bool :=
  b.running && (List.finRange 8).all fun k =>
    match (b.probes.get k).status with
    | .answered | .timedOut => true
    | .unrequested | .waiting | .outstanding => false

/-- The net loop times of the valid samples: ANSWERED probes with a turnaround below 65,535 (R147). -/
def Burst.validSamples (b : Burst) : List Int :=
  (List.finRange 8).filterMap fun k =>
    let pr := b.probes.get k
    match pr.status, pr.turnaround, pr.net with
    | .answered, some t, some n => if t.toNat < 65535 then some n else none
    | _, _, _ => none

/-- The length in cm of a loop delay under a propagation delay in ps/m, clamped at 65,535 (R148). -/
def lengthCm (loop delay : Nat) : Nat := min 65535 ((loop * 40000 + delay / 2) / delay)

/-- The loop delay before it is held at 0 (R148). -/
def loopDelay (minNet : Int) (local_ peer : Nat) : Int := minNet - Config.siliconDelay - local_ - peer

/-- The outcome with fewer than four valid samples (R148, item 1): no length, LENGTH_UNMEASURED. Whether the summary records
trims and cable kind then is open (log entry 15). -/
def Port.finishShort (kind : Fin 8) (delay samples : Nat) (pt : Port) : Port :=
  { pt with
    neighbor := { pt.neighbor with length := none, unmeasured := true, suspect := false }
    summary :=
      { validSamples := some samples
        minNet := none
        loopDelay := none
        trims := if Config.shortBurstRecordsTrims then some (pt.trim, pt.neighbor.trim) else none
        kind := if Config.shortBurstRecordsTrims then some (kind, delay) else none }
    burst := Burst.reset }

/-- The outcome with four or more valid samples, the smallest of them `low` (R148, items 2 to 4). -/
def Port.finishMeasured (kind : Fin 8) (delay samples : Nat) (low : Int) (pt : Port) : Port :=
  let r := loopDelay low pt.trim pt.neighbor.trim
  { pt with
    neighbor := { pt.neighbor with
      length := some (lengthCm r.toNat delay)
      unmeasured := false
      suspect := decide (r < 0) }
    summary :=
      { validSamples := some samples
        minNet := some low
        loopDelay := some r.toNat
        trims := some (pt.trim, pt.neighbor.trim)
        kind := some (kind, delay) }
    burst := Burst.reset }

/-- The completion of a burst (R145, R148): length and flags to the neighbor record, the summary, the burst record back to
IDLE. -/
def Port.finishBurst (kind : Fin 8) (delay : Nat) (pt : Port) : Port :=
  let samples := pt.burst.validSamples
  match minOf samples with
  | none => pt.finishShort kind delay samples.length
  | some low =>
    if samples.length < 4 then pt.finishShort kind delay samples.length
    else pt.finishMeasured kind delay samples.length low

end Sys2Proof.Machine
end

