-- ==== Sys2Proof/Machine/BringUp.lean ====
section
/-! DEFINITION. The Port Bring-Up Engine (chapter 2): how a port passes from one state to another. The `Port` functions
change one port; the `State` functions add what reaches the Lane Monitor or needs the plan. -/

namespace Sys2Proof.Machine

/-! ## What a departure does -/

/-- The neighbor record becomes STALE, unless it is EMPTY, and the silence timer stops (R69, R74). -/
def Port.makeStale (pt : Port) : Port :=
  { pt with
    neighbor := match pt.neighbor.status with
      | .empty => pt.neighbor
      | .current | .stale => { pt.neighbor with status := .stale }
    silence := .stopped }

/-- The Sideband Unit stops sending: the beacon timer is stopped, what waits is discarded and a frame in transmission is
finished; the receiver turns off (R60, R62, R63). -/
def Port.stopSending (pt : Port) : Port :=
  { pt with
    tx := { pt.tx with beaconTimer := .stopped, beaconWaiting := false, probeWaiting := none, echoes := [] }
    rx := none }

/-- The port leaves the lane stages (R33): lanes rest by their fence flags, the Deskew Unit is cleared and a burst
abandoned. -/
def Port.leaveStages (pt : Port) : Port :=
  { pt.abandonBurst with
    lanes := pt.lanes.mapFin fun l ln => ln.leave (pt.fence l)
    deskew := pt.deskew.leave }

/-- A new attempt number (R31). -/
def Port.newAttempt (pt : Port) : Port :=
  { pt.countAttempt with
    attempt := pt.attempt + 1
    lanes := pt.lanes.mapFin fun _ ln => { ln with polarityCounted := false } }

/-! ## Entries -/

/-- Entry to SIDEBAND (R31). -/
def Port.enterSideband (pr : Params) (pt : Port) : Port :=
  { pt.newAttempt with
    state := .sideband
    highMark := 0
    ready := false
    stageTimer := armMs pr.sidebandTimeout }

/-- Entry to LANE_LOCK (R36, R81). -/
def Port.enterLaneLock (pr : Params) (pt : Port) : Port :=
  { pt with
    state := .laneLock
    stageTimer := .stopped
    lanes := pt.lanes.mapFin fun l ln => ln.enterLaneLock pr (pt.fence l) }

/-- Entry to ALIGN (R37). -/
def Port.enterAlign (pr : Params) (pt : Port) : Port :=
  Port.startAlignment (fun _ => false) { pt with state := .align, stageTimer := armMs pr.alignTimeout }

/-- Entry to RANGING: the peer kept mask is taken and a burst starts (R39). -/
def Port.enterRanging (pt : Port) : Port := Port.startBurst { pt with state := .verify .ranging }

/-- Entry to MASK_WAIT, which passes on to RANGING when the record already holds a peer kept mask (R38). -/
def Port.enterMaskWait (pt : Port) : Port :=
  match pt.neighbor.kept with
  | some _ => pt.enterRanging
  | none => { pt with state := .verify .maskWait }

/-- Entry to PLAN_WAIT: the timer is paused (R38). -/
def Port.enterPlanWait (taken : Bool) (pt : Port) : Port :=
  { pt with state := .verify (.planWait taken), stageTimer := pt.stageTimer.pause }

/-- A verdict falls due: computed at this very event under a CLOSED plan (`verdictDue`), or else the port waits in PLAN_WAIT
(R10, R38, R39). -/
def Port.fallDue (closed taken : Bool) (pt : Port) : Port :=
  if closed then { pt with state := .verify (.planWait taken) } else pt.enterPlanWait taken

/-- Entry to VERIFY (R38), by whether the plan is CLOSED and the effective expectation UNUSED. -/
def Port.enterVerify (pr : Params) (closed unused : Bool) (pt : Port) : Port :=
  let pt := { pt with stageTimer := armMs pr.verifyTimeout }
  if closed && !unused then pt.enterMaskWait else pt.fallDue closed false

/-- ACTIVE entry (R41). -/
def Port.enterActive (pt : Port) : Port :=
  Port.countSuccess { pt with state := .active, stageTimer := .stopped, retryCount := 0 }

/-- Entry to READY_WAIT with READY set, and to ACTIVE if the peer's READY is already recorded (R40). -/
def Port.enterReadyWait (pt : Port) : Port :=
  let pt := { pt with state := .verify .readyWait, ready := true }
  if pt.neighbor.ready then pt.enterActive else pt

/-- Entry to HELD (R51, R52): the stage timer is stopped. -/
def Port.enterHeld (stage : HeldStage) (next : NextStep) (pt : Port) : Port :=
  { pt with state := .held stage next, stageTimer := .stopped }

/-- Whether a port that completes `stage` is held (R51). -/
def Port.heldAt (pr : Params) (stage : HoldPoint) (pt : Port) : Bool :=
  decide (pr.holdPoint = stage) && pt.holdEnable

/-! ## Failures (R44 to R46) -/

/-- The backoff wait, in TU, after the failure that made the retry count `n` (R46). -/
def backoffWait (pr : Params) (p : Fin 32) (n : Nat) : Nat :=
  min (pr.backoffBase * 2 ^ (n - 1)) pr.backoffCap * Config.tuPerMs + p.val * Config.tuPerQuarterMs

/-- The recovery of the cached effective expectation (R44, item 4). -/
def Port.recover (base : BaseFields) (pr : Params) (p : Fin 32) (pt : Port) : Port :=
  match base.recovery with
  | .manual => { pt with state := .fault }
  | .auto =>
    if pt.retryCount < base.retryLimit then
      { pt with
        state := .backoff
        retryCount := pt.retryCount + 1
        backoffTimer := .running (backoffWait pr p (pt.retryCount + 1)) }
    else { pt with state := .fault }

/-- The last-failure record set from the port as it stands (Table 2-5). -/
def Port.record (cause : Cause) (stage : Nat) (lane : Option (Fin 4)) (pt : Port) : Port :=
  { pt with lastFailure := some ⟨cause, stage, lane, pt.attempt⟩ }

/-- A failure (R44). -/
def Port.fail (base : BaseFields) (pr : Params) (p : Fin 32) (cause : Cause) (stage : Nat)
    (lane : Option (Fin 4)) (pt : Port) : Port :=
  let pt := (pt.record cause stage lane).countLinkLoss.leaveStages.makeStale
  Port.recover base pr p { pt with ready := false, stageTimer := .stopped }

def State.fail (s : State) (p : Fin 32) (cause : Cause) (stage : Nat) (lane : Option (Fin 4)) : State :=
  (s.modPort p (Port.fail (s.expected p).base s.params p cause stage lane)).withdrawPort p

/-! ## Lane stages -/

/-- The outcome of an examination of the lanes (R36): none while an unfenced lane has no result, otherwise whether one is
GOOD. -/
def Port.laneOutcome (pt : Port) : Option Bool :=
  let open_ := fun l => match (pt.lane l).state with
    | .idle | .locking | .searching => true
    | .fenced | .good _ | .failed _ => false
  if allLanes.any open_ then none else some (allLanes.any pt.good)

/-- The PBE examines the lanes of a port in LANE_LOCK (R36). -/
def State.examineLanes (s : State) (p : Fin 32) : State :=
  let pt := s.port p
  if pt.state = .laneLock then
    match pt.laneOutcome with
    | none => s
    | some true => s.modPort p (Port.enterAlign s.params)
    | some false => s.fail p .noLanes 2 none
  else s

/-- LANE_LOCK entry with the examination made at it (R36). -/
def State.enterLaneLock (s : State) (p : Fin 32) : State :=
  (s.modPort p (Port.enterLaneLock s.params)).examineLanes p

/-- Entry to VERIFY under the plan as it stands. -/
def State.enterVerify (s : State) (p : Fin 32) : State :=
  s.modPort p (Port.enterVerify s.params (decide (s.plan.state = .closed)) (decide ((s.expected p).kind = .unused)))

/-- The step after SIDEBAND (R32): VERIFY when the plan is CLOSED and the effective expectation UNUSED. -/
def State.nextAfterSideband (s : State) (p : Fin 32) : NextStep :=
  if s.plan.state = .closed ∧ (s.expected p).kind = .unused then .verify else .laneLock

/-- Into the step after SIDEBAND. -/
def State.goOn (s : State) (p : Fin 32) (next : NextStep) : State :=
  match next with
  | .laneLock => s.enterLaneLock p
  | .verify => s.enterVerify p
  | .ready => s

/-- SIDEBAND is completed (R32, R51). -/
def State.completeSideband (s : State) (p : Fin 32) : State :=
  let s := s.modPort p fun pt => { pt with stageTimer := .stopped }
  if (s.port p).heldAt s.params .sideband then
    s.modPort p (Port.enterHeld .sideband (s.nextAfterSideband p))
  else s.goOn p (s.nextAfterSideband p)

/-- ALIGN is completed by a fixed kept mask (R37, R51). -/
def State.completeAlign (s : State) (p : Fin 32) : State :=
  if (s.port p).heldAt s.params .align then s.modPort p (Port.enterHeld .align .verify)
  else s.enterVerify p

/-- No lane sees markers (R37). -/
def State.noMarkers (s : State) (p : Fin 32) : State := s.fail p .noLanes 3 none

/-- The completion of a burst (R39, R145): the outcome is written and a verdict falls due. -/
def State.completeBurst (s : State) (p : Fin 32) : State :=
  let kind := (s.expected p).base.cableKind
  let closed := decide (s.plan.state = .closed)
  s.modPort p fun pt => (pt.finishBurst kind (s.params.cableDelays.get kind)).fallDue closed true

/-- A burst that has no probe left to wait for completes (R145); a burst runs in RANGING alone (R39). -/
def State.checkBurst (s : State) (p : Fin 32) : State :=
  if (s.port p).state = .verify .ranging ∧ (s.port p).burst.complete then s.completeBurst p else s

/-- PASS or WARN at a first computation (R40). -/
def Port.accept (pr : Params) (pt : Port) : Port :=
  if pt.heldAt pr .verify then pt.enterHeld .verify .ready else pt.enterReadyWait

/-! ## Restarts -/

/-- A peer restart (R35). -/
def Port.peerRestart (pr : Params) (pt : Port) : Port :=
  ((pt.record .peerRestarted pt.state.stageCode none).countLinkLoss.countPeerRestart.leaveStages).enterSideband pr

def State.peerRestart (s : State) (p : Fin 32) : State :=
  (s.modPort p (Port.peerRestart s.params)).withdrawPort p

/-- A fence restart under the flags as they now stand (R56): the neighbor record stays CURRENT, the high mark is kept. -/
def Port.fenceRestart (pr : Params) (pt : Port) : Port :=
  Port.enterLaneLock pr { pt.countLinkLoss.leaveStages.newAttempt with ready := false }

def State.fenceRestart (s : State) (p : Fin 32) : State :=
  ((s.modPort p (Port.fenceRestart s.params)).withdrawPort p).examineLanes p

/-- A realignment (R133) over the lanes still GOOD once the lanes in `lost` have FAILED. -/
def Port.realign (pr : Params) (lost : Fin 4 → Bool) (pt : Port) : Port :=
  Port.startAlignment lost
    { (pt.failLostLanes lost).abandonBurst with
      state := .align
      stageTimer := armMs pr.alignTimeout
      ready := false }

/-- A realignment, which is the failure NO_LANES with stage code 3 when no GOOD lane is left (R119, R133). -/
def State.realign (s : State) (p : Fin 32) (lost : Fin 4 → Bool) : State :=
  let s := s.modPort p (Port.realign s.params lost)
  if (s.port p).noneGood then s.noMarkers p else s

/-! ## Presence, enabling, restarting -/

/-- Removal of the cable (R28). READY is cleared as at every departure (R164; log entry 28). -/
def Port.remove (pt : Port) : Port :=
  { (pt.record .cableRemoved pt.state.stageCode none).countLinkLoss.leaveStages.stopSending.makeStale with
    state := .waitCable
    retryCount := 0
    ready := false
    stageTimer := .stopped
    backoffTimer := .stopped }

def State.remove (s : State) (p : Fin 32) : State := (s.modPort p Port.remove).withdrawPort p

/-- A settled cable moves a port from WAIT_CABLE to SIDEBAND with retry count 0 (R27). -/
def Port.seat (pr : Params) (pt : Port) : Port := Port.enterSideband pr { pt with retryCount := 0 }

/-- Entry to DISABLED (R29): every timer but the debounce timer is stopped, verdict and last failure are kept. -/
def Port.disable (pt : Port) : Port :=
  { pt.leaveStages.stopSending.makeStale with
    state := .disabled
    retryCount := 0
    ready := false
    stageTimer := .stopped
    backoffTimer := .stopped }

def State.disable (s : State) (p : Fin 32) : State := (s.modPort p Port.disable).withdrawPort p

/-- A port leaves DISABLED (R30), through WAIT_CABLE to SIDEBAND if its cable is seated. -/
def Port.enable (pr : Params) (pt : Port) : Port :=
  let pt := { pt with state := .waitCable }
  if pt.present then pt.seat pr else pt

/-- PORT_RESTART at one port (R57). -/
def Port.restart (pr : Params) (pt : Port) : Port :=
  let pt : Port :=
    { pt.leaveStages.makeStale with
      stageTimer := .stopped
      backoffTimer := .stopped
      verdict := Verdict.reset
      retryCount := 0 }
  if pt.present then pt.enterSideband pr else { pt.stopSending with state := .waitCable, ready := false }

def State.restart (s : State) (p : Fin 32) : State := (s.modPort p (Port.restart s.params)).withdrawPort p

/-- PORT_RELEASE at one port (R53): a HELD port goes on to its next step. -/
def State.release (s : State) (p : Fin 32) : State :=
  match (s.port p).state with
  | .held .sideband _ => s.goOn p (s.nextAfterSideband p)
  | .held .align _ => s.enterVerify p
  | .held .verify _ =>
    s.modPort p fun pt => Port.enterReadyWait { pt with stageTimer := armMs s.params.verifyTimeout }
  | .disabled | .waitCable | .sideband | .laneLock | .align | .verify _ | .active | .backoff | .fault => s

/-- A plan close releases a port from PLAN_WAIT (R38): its timer resumes; with its inputs held, or with an UNUSED record, its
verdict is due, and otherwise it goes on to MASK_WAIT. -/
def Port.releasePlanWait (unused : Bool) (pt : Port) : Port :=
  match pt.state with
  | .verify (.planWait taken) =>
    let pt := { pt with stageTimer := pt.stageTimer.resume }
    if taken || unused then pt else pt.enterMaskWait
  | .disabled | .waitCable | .sideband | .laneLock | .align | .held _ _ | .active | .backoff | .fault => pt
  | .verify .maskWait | .verify .ranging | .verify .readyWait => pt

end Sys2Proof.Machine
end

