-- ==== Sys2Proof/Machine/Verdict.lean ====
section
/-! DEFINITION. The Verdict Unit (chapter 8): the codes, the record, the verdict pass, and the triggers. -/

namespace Sys2Proof.Machine

/-! ## What a computation judges -/

/-- The lane and length inputs of a computation (Table 8-2): read at the first one, held in the record afterwards. -/
structure Held where
  finalSet : Option (BitVec 4)
  order : Option MapClass
  length : Option Nat
  unmeasured : Bool
  suspect : Bool
  findings : Option HeldFindings
deriving DecidableEq, Repr

/-- The final set: the width-reduction of the local kept mask with the peer's (R159), when both are there (log entry 25). -/
def Port.finalSet (pt : Port) : Option (BitVec 4) :=
  match pt.keptValid, pt.neighbor.kept with
  | true, some peer => some (reduceWidth (pt.deskew.keptMask &&& peer))
  | _, _ => none

/-- The findings of one physical lane. -/
def Port.heldLane (pt : Port) (l : Fin 4) : HeldLane where
  status := (pt.dlane l).status
  logical := (pt.dlane l).logical
  marginal := match (pt.lane l).state with
    | .good m => m
    | .fenced | .idle | .locking | .searching | .failed _ => false
  inversion := (pt.lane l).inversion

/-- What a first computation reads of the port (Table 8-2). A port reached through the SIDEBAND shortcut, which holds no fixed
mask (log entry 11), holds none of it: no length either, though a peer restart may have kept one in its neighbor record
(R161). -/
def Port.heldNow (pt : Port) : Held :=
  if pt.keptValid then
    { finalSet := pt.finalSet
      order := pt.deskew.mapClass
      length := pt.neighbor.length
      unmeasured := pt.neighbor.unmeasured
      suspect := pt.neighbor.suspect
      findings := some ⟨pt.deskew.skewExcess, .ofFn pt.heldLane⟩ }
  else
    { finalSet := none
      order := none
      length := none
      unmeasured := false
      suspect := false
      findings := none }

/-- What a recomputation in place takes from the record (R153). -/
def Verdict.held (v : Verdict) : Held where
  finalSet := v.finalSet
  order := v.order
  length := v.length
  unmeasured := v.unmeasured
  suspect := v.suspect
  findings := v.findings

/-! ## The codes (Tables 8-3 to 8-5) -/

/-- The codes in priority order (Table 8-3). -/
def allCodes : List Code :=
  [.duplicatePeer, .pairSwapped, .wrongChassis, .wrongPort, .unplanned, .peerDisagrees, .peerFailed,
    .laneMapInvalid, .laneCrossed, .lanesInsufficient, .skewExcess, .lengthOutOfWindow, .widthDegraded,
    .skewUnstable, .eqMarginal, .polarityCorrected, .lengthUnmeasured, .lengthSuspect, .planGenerationSkew]

/-- Codes 1 to 12 are FAIL codes (section 8.2). -/
def Code.isFail (c : Code) : Bool := decide (c.number ≤ 12)

/-- The codes computed for each kind of effective expectation (Table 8-5). -/
def Code.judged (kind : Expectation) (c : Code) : Bool :=
  match kind with
  | .planned => true
  | .any => decide (c.number = 1) || decide (6 ≤ c.number)
  | .unused => decide (c.number ∈ [1, 5, 6, 7, 19])

/-- The peer identity of a CURRENT record. -/
def State.currentPeer (s : State) (p : Fin 32) : Option PeerId :=
  if (s.port p).neighbor.status = .current then (s.port p).neighbor.identity else none

/-- The partner of DUPLICATE_PEER: the lowest other port whose CURRENT record names p's peer (R155). -/
def State.duplicatePartner (s : State) (p : Fin 32) : Option (Fin 32) :=
  match (s.port p).neighbor.identity with
  | none => none
  | some i => allPorts.find? fun q => decide (q ≠ p) && decide (s.currentPeer q = some i)

/-- The partner of PAIR_SWAPPED: the lowest other port with which p has exchanged peers (R156). -/
def State.swapPartner (s : State) (p : Fin 32) : Option (Fin 32) :=
  let e := s.expected p
  match s.currentPeer p with
  | none => none
  | some i =>
    if e.kind = .planned ∧ i ∉ e.accepted then
      allPorts.find? fun q =>
        decide (q ≠ p) && decide ((s.expected q).kind = .planned) && decide (i ∈ (s.expected q).accepted)
          && match s.currentPeer q with
            | some j => decide (j ∈ e.accepted)
            | none => false
    else none

/-- WRONG_CHASSIS (R154). -/
def wrongChassis (e : Effective) (i : PeerId) : Bool :=
  decide (e.kind = .planned) && e.accepted.all fun a => decide (a.chassis ≠ i.chassis)

/-- WRONG_PORT (R154). -/
def wrongPort (e : Effective) (i : PeerId) : Bool :=
  decide (e.kind = .planned) && (e.accepted.any fun a => decide (a.chassis = i.chassis)) && decide (i ∉ e.accepted)

/-- LANE_CROSSED (Table 8-4). -/
def laneCrossed (order : Option MapClass) (policy : LanePolicy) : Bool :=
  match order, policy with
  | some .reversed, .strict | some .permuted, .strict | some .permuted, .reversalOk => true
  | some .reversed, .reversalOk | some .reversed, .any | some .permuted, .any => false
  | some .identity, _ | some .invalid, _ | none, _ => false

/-- A physical lane of the held findings satisfies a test. -/
def Held.anyLane (h : Held) (test : HeldLane → Bool) : Bool :=
  match h.findings with
  | some f => allLanes.any fun l => test (f.lanes.get l)
  | none => false

/-- A KEPT lane in the final set: the lanes that can raise EQ_MARGINAL and POLARITY_CORRECTED (R158). -/
def HeldLane.used (final : Option (BitVec 4)) (l : HeldLane) : Bool :=
  decide (l.status = .kept) &&
    match final, l.logical with
    | some m, some k => m.getLsbD k.val
    | _, _ => false

/-- LENGTH_OUT_OF_WINDOW (R160). -/
def outOfWindow (window : Option Window) (length : Option Nat) : Bool :=
  match window, length with
  | some w, some n => decide (n < w.low) || decide (w.high < n)
  | _, _ => false

/-- The condition of each code at port `p` (R154 to R160). -/
def State.codeHolds (s : State) (p : Fin 32) (h : Held) (c : Code) : Bool :=
  let e := s.expected p
  let n := (s.port p).neighbor
  let width := h.finalSet.map setWidth
  match c with
  | .duplicatePeer => (s.duplicatePartner p).isSome
  | .pairSwapped => (s.swapPartner p).isSome
  | .wrongChassis => match n.identity with
    | some i => wrongChassis e i
    | none => false
  | .wrongPort => match n.identity with
    | some i => wrongPort e i
    | none => false
  | .unplanned => decide (e.kind = .unused)
  | .peerDisagrees => match n.expected with
    | some i => decide (i ≠ ⟨s.params.chassisId, p⟩)
    | none => false
  | .peerFailed => decide (n.cls = .fail) && decide (n.stage = 0)
  | .laneMapInvalid => decide (h.order = some .invalid)
  | .laneCrossed => laneCrossed h.order e.base.policy
  | .lanesInsufficient => match width with
    | some w => decide (w < e.base.minWidth.lanes)
    | none => false
  | .skewExcess => match h.findings with
    | some f => f.skewExcess
    | none => false
  | .lengthOutOfWindow => outOfWindow e.base.window h.length
  | .widthDegraded => match width with
    | some w => decide (w < 4) && decide (e.base.minWidth.lanes ≤ w)
    | none => false
  | .skewUnstable => h.anyLane fun l => decide (l.status = .skewUnstable)
  | .eqMarginal => h.anyLane fun l => l.used h.finalSet && l.marginal
  | .polarityCorrected => h.anyLane fun l => l.used h.finalSet && l.inversion
  | .lengthUnmeasured => h.unmeasured
  | .lengthSuspect => h.suspect
  | .planGenerationSkew => decide (n.generation ≠ s.plan.generation)

/-- The codes present, in priority order (R161, R162). -/
def State.codes (s : State) (p : Fin 32) (h : Held) : List Code :=
  allCodes.filter fun c => c.judged (s.expected p).kind && s.codeHolds p h c

/-- The class of a code list (R162). -/
def classOf (codes : List Code) : VerdictClass :=
  if codes.any Code.isFail then .fail
  else match codes with
    | [] => .pass
    | _ :: _ => .warn

/-- The partner port of a code list (R162). -/
def State.partner (s : State) (p : Fin 32) (codes : List Code) : Option (Fin 32) :=
  if Code.duplicatePeer ∈ codes then s.duplicatePartner p
  else if Code.pairSwapped ∈ codes then s.swapPartner p
  else none

/-- The record of a computation, written whole (R163, R167). -/
def State.judge (s : State) (p : Fin 32) (h : Held) (attempt : BitVec 32) : Verdict :=
  let codes := s.codes p h
  { cls := classOf codes
    codes := codes
    partner := s.partner p codes
    finalSet := h.finalSet
    finalWidth := h.finalSet.map setWidth
    order := h.order
    length := h.length
    unmeasured := h.unmeasured
    suspect := h.suspect
    findings := h.findings
    epoch := s.plan.epoch
    attempt := attempt
    pending := false }

/-- The computation due at port `p`: a first one reads every input, a recomputation in place keeps what the record holds
(R153). -/
def State.compute (s : State) (p : Fin 32) : Verdict :=
  let pt := s.port p
  if s.verdictDue p then s.judge p pt.heldNow pt.attempt else s.judge p pt.verdict.held pt.verdict.attempt

/-! ## The verdict pass (R166) -/

/-- A port that can join a pass: verdict-bearing, or with its first computation due. -/
def State.judgeable (s : State) (p : Fin 32) : Bool := (s.port p).state.bearing || s.verdictDue p

/-- Whether a port of the set fails naming partner `q`. -/
def State.namesPartner (s : State) (set : List (Fin 32)) (q : Fin 32) : Bool :=
  set.any fun p => decide ((s.compute p).cls = .fail) && decide ((s.compute p).partner = some q)

/-- The set with the partners that join, until no new partner joins; each round adds one of 32 ports or is the last. -/
def State.joinPartners (s : State) : Nat → List (Fin 32) → List (Fin 32)
  | 0, set => set
  | fuel + 1, set =>
    match allPorts.filter fun q => decide (q ∉ set) && s.judgeable q && s.namesPartner set q with
    | [] => set
    | new => s.joinPartners fuel (set ++ new)

/-- What a port does with its new record (R40, R163, R167); `first` says that the computation was a first one. -/
def State.actOn (s : State) (first : Bool) (p : Fin 32) : State :=
  match (s.port p).verdict.cls with
  | .fail => s.fail p .verdictFail (s.port p).state.stageCode none
  | .pass | .warn => if first then s.modPort p (Port.accept s.params) else s
  | .none => s

/-- One pass: every record is computed against the same inputs and written, and then every port acts. -/
def State.verdictPass (s : State) (set : List (Fin 32)) : State :=
  let all := s.joinPartners 32 set
  let written := all.foldl (fun t p => t.modPort p fun pt => { pt with verdict := s.compute p }) s
  all.foldl (fun t p => t.actOn (s.verdictDue p) p) written

/-- Whether a report of R76 (entering or leaving CURRENT, or a replaced identity) is made between two states. -/
def reportMade (before after : State) : Bool :=
  allPorts.any fun p => decide (before.currentPeer p ≠ after.currentPeer p)

/-- The verdict-bearing ports. -/
def State.bearingPorts (s : State) : List (Fin 32) := allPorts.filter fun p => (s.port p).state.bearing

/-- A pass and the further passes that records leaving CURRENT at it start (R166). Each further one follows a failure of one
of 32 ports. -/
def State.verdictPasses : Nat → State → List (Fin 32) → State
  | 0, s, _ => s
  | _ + 1, s, [] => s
  | fuel + 1, s, p :: rest =>
    let t := s.verdictPass (p :: rest)
    if reportMade s t then State.verdictPasses fuel t t.bearingPorts else t

/-- The triggers select ports (R165): under a CLOSED plan one pass is made with every first computation that is due; while the
plan is not CLOSED the pending flag of each verdict-bearing port selected is set, also where R170 speaks of a pass against the old
cache for a frame just before the close (DESIGN CHOICE, log entry 54). -/
def State.trigger (s : State) (selected : Fin 32 → Bool) : State :=
  if s.plan.state = .closed then
    s.verdictPasses 33 (allPorts.filter fun p => s.verdictDue p || ((s.port p).state.bearing && selected p))
  else
    s.mapPorts fun p pt =>
      if pt.state.bearing && selected p then { pt with verdict := { pt.verdict with pending := true } } else pt

/-- The verdicts of an event: a report of R76 since `before` selects every port (trigger (b)), and `own` names the ports that
triggers (a) or (c) select. -/
def State.verdicts (s before : State) (own : Fin 32 → Bool) : State :=
  let all := reportMade before s
  s.trigger fun p => all || own p

end Sys2Proof.Machine
end

