-- ==== Sys2Proof/Machine/Sideband.lean ====
section
/-! DEFINITION. The Sideband Unit (chapter 3): building and starting frames, and taking a received frame. -/

namespace Sys2Proof.Machine

/-! ## Transmission -/

/-- The fields that every frame of a port carries as they stand now (Table 3-1, R61), with T1 and turnaround 0. -/
def State.frameFields (s : State) (p : Fin 32) : SidebandFrame :=
  let pt := s.port p
  let peer := s.advertisedPeer p
  { ready := pt.ready
    keptValid := pt.keptValid
    senderChassis := s.params.chassisId
    senderPort := BitVec.ofNat 8 p.val
    stage := BitVec.ofNat 8 pt.state.stageCode
    verdictClass := BitVec.ofNat 8 pt.verdict.cls.code
    fenceMask := pt.fenceMask
    keptMask := pt.sentKept
    expectedChassis := match peer with
      | some i => i.chassis
      | none => 0
    expectedPort := match peer with
      | some i => BitVec.ofNat 8 i.port.val
      | none => 0
    generation := s.plan.generation
    trim := BitVec.ofNat 8 pt.trim
    interval := BitVec.ofNat 8 s.params.beaconInterval
    probeStamp := 0
    turnaround := 0 }

/-- The turnaround an ECHO that starts now reports: from the probe's receive stamp to the echo's own transmit stamp, modulo
2^32, written as 65,535 when it exceeds that (R65). -/
def turnaroundOf (now received : BitVec 32) : BitVec 16 :=
  BitVec.ofNat 16 (min 65535 (now + BitVec.ofNat 32 Config.echoStampLead - received).toNat)

/-- An ECHO of a slot (R65). -/
def echoFrame (fields : SidebandFrame) (now : BitVec 32) (e : EchoSlot) : SidebandFrame :=
  { fields with probeStamp := e.t1, turnaround := turnaroundOf now e.received }

/-- A PROBE that starts now, with the stamp of its last CRC bit (R64). -/
def probeFrame (fields : SidebandFrame) (now : BitVec 32) : SidebandFrame :=
  { fields with probeStamp := now + BitVec.ofNat 32 Config.probeStampLead }

/-- A free transmitter starts what waits: the oldest ECHO, else the PROBE, else the beacon, whose start arms the beacon timer
(R62, R63). -/
def SidebandTx.start (fields : SidebandFrame) (now : BitVec 32) (interval : Nat) (tx : SidebandTx) : SidebandTx :=
  match tx.sending, tx.echoes, tx.probeWaiting, tx.beaconWaiting with
  | some _, _, _, _ => tx
  | none, e :: rest, _, _ =>
    { tx with echoes := rest, sending := some ⟨.echo, echoFrame fields now e, none⟩ }
  | none, [], some k, _ =>
    { tx with probeWaiting := none, sending := some ⟨.probe, probeFrame fields now, some k⟩ }
  | none, [], none, true =>
    { tx with
      beaconWaiting := false
      beaconTimer := armMs interval
      sending := some ⟨.beacon, fields, none⟩ }
  | none, [], none, false => tx

/-- The end of a frame and its idle gap (R63): the transmitter is free, and a PROBE's T1 is handed to its burst (R64), `now` being
the timestamp. -/
def Port.endFrame (now : BitVec 32) (pt : Port) : Port :=
  match pt.tx.sending with
  | none => pt
  | some f =>
    let burst := match f.probe with
      | some k => pt.burst.handOver k f.frame.probeStamp now
      | none => pt.burst
    { pt with tx := { pt.tx with sending := none }, burst := burst }

/-! ## Reception -/

/-- The stage code recorded and acted on: 0 for one above 5 (R67). -/
def SidebandFrame.stageTaken (f : SidebandFrame) : Nat := if 5 < f.stage.toNat then 0 else f.stage.toNat

/-- The verdict class recorded: NONE for a code of no class (R67). -/
def classTaken (b : Byte) : VerdictClass :=
  if b = 1 then .pass else if b = 2 then .warn else if b = 3 then .fail else .none

/-- The expected peer recorded: none for a chassis of 0 or a port above 31 (R67). -/
def expectedTaken (chassis : BitVec 48) (port : Byte) : Option PeerId :=
  match portOf port with
  | some q => if chassis = 0 then none else some ⟨chassis, q⟩
  | none => none

/-- The sender of a frame; a port above 31 makes it invalid (R66). -/
def senderOf (f : SidebandFrame) : Option PeerId :=
  match portOf f.senderPort with
  | some q => if f.senderChassis = 0 then none else some ⟨f.senderChassis, q⟩
  | none => none

/-- The peer fields of a record take a frame's values (R72). -/
def Neighbor.refresh (f : SidebandFrame) (n : Neighbor) : Neighbor :=
  { n with
    expected := expectedTaken f.expectedChassis f.expectedPort
    generation := f.generation
    trim := f.trim.toNat
    interval := f.interval.toNat
    fence := f.fenceMask
    stage := SidebandFrame.stageTaken f
    kept := if f.keptValid then some f.keptMask else none
    cls := classTaken f.verdictClass
    ready := f.ready }

/-- A record rebuilt from a frame (R71, R73, R74): identity, peer fields, no length, the attempt given. -/
def Neighbor.rebuild (status : NeighborStatus) (sender : PeerId) (f : SidebandFrame) (attempt : BitVec 32)
    (n : Neighbor) : Neighbor :=
  { (n.refresh f).clearLength with
    status := status
    identity := some sender
    captureAttempt := attempt }

/-- The rebuilt record at a port; the ranging summary goes with the length (R142). -/
def Port.rebuild (status : NeighborStatus) (sender : PeerId) (f : SidebandFrame) (pt : Port) : Port :=
  { pt with
    neighbor := pt.neighbor.rebuild status sender f pt.attempt
    summary := RangingSummary.reset }

/-- The silence timer armed with the values in force (R69). -/
def Port.armSilence (pr : Params) (pt : Port) : Port :=
  { pt with silence := armMs (pr.beaconInterval * pr.silenceLimit) }

/-- What a valid frame does to a record (R71 to R74). -/
inductive Reception where
  | capture | refresh | replace | staleSame | staleOther | ignored
deriving DecidableEq, Repr

/-- The receptions by which an identity enters CURRENT, which is reported whatever the event makes of the record afterwards
(R71, R73, R76; log entry 44). -/
def Reception.enters : Reception → Bool
  | .capture | .replace => true
  | .refresh | .staleSame | .staleOther | .ignored => false

/-- Which of them: by the status, the state and the sender. -/
def Port.reception (sender : PeerId) (pt : Port) : Reception :=
  let same := decide (pt.neighbor.identity = some sender)
  match pt.neighbor.status with
  | .current => if same then .refresh else .replace
  | .stale => if pt.state = .sideband then .capture else if same then .staleSame else .staleOther
  | .empty => if pt.state = .sideband then .capture else .ignored

/-- Whether a refresh changes the peer verdict class or the peer expected peer (R76). -/
def Port.reportsField (f : SidebandFrame) (pt : Port) : Bool :=
  decide (classTaken f.verdictClass ≠ pt.neighbor.cls)
    || decide (expectedTaken f.expectedChassis f.expectedPort ≠ pt.neighbor.expected)

/-- Table 2-3: whether a frame shows a peer restart; `different` says that its sender is not the one of the record before it. -/
def Port.showsRestart (f : SidebandFrame) (different : Bool) (pt : Port) : Bool :=
  let stage := SidebandFrame.stageTaken f
  let early := decide (stage = 0) || (decide (stage = 1) && decide (2 ≤ pt.highMark)) || different
  match pt.state with
  | .laneLock | .align | .held .sideband _ | .held .align _ => early
  | .verify (.planWait false) | .verify .maskWait => early
  | .verify (.planWait true) | .verify .ranging | .verify .readyWait | .held .verify _ => early || !f.keptValid
  | .active => decide (stage ≤ 3) || (decide (stage = 4) && !f.ready) || different
  | .disabled | .waitCable | .sideband | .backoff | .fault => false

/-- The high mark is raised to the frame's stage code (R34). -/
def Port.raiseMark (f : SidebandFrame) (pt : Port) : Port :=
  { pt with highMark := max pt.highMark (SidebandFrame.stageTaken f) }

/-- What the PBE does with a frame that is no peer restart (R32, R39, R41). A port in MASK_WAIT enters RANGING at the frame with
KEPT_VALID set, also where a plan close has made its cached record UNUSED since (DESIGN CHOICE, log entry 49). -/
def State.advancePort (s : State) (p : Fin 32) (f : SidebandFrame) : State :=
  let pt := s.port p
  match pt.state with
  | .sideband =>
    if pt.neighbor.status = .current ∧ 1 ≤ SidebandFrame.stageTaken f then s.completeSideband p else s
  | .verify .maskWait => if f.keptValid then s.modPort p Port.enterRanging else s
  | .verify .readyWait => if f.ready then s.modPort p Port.enterActive else s
  | .verify (.planWait _) | .verify .ranging => s
  | .disabled | .waitCable | .laneLock | .align | .held _ _ | .active | .backoff | .fault => s

/-- The PBE takes a frame (R34): the test against Table 2-3 with the mark as it stood, then the mark is raised. -/
def State.examineFrame (s : State) (p : Fin 32) (f : SidebandFrame) (different : Bool) : State :=
  if (s.port p).showsRestart f different then s.peerRestart p
  else (s.modPort p (Port.raiseMark f)).advancePort p f

/-- The frame that brought an identity into CURRENT reaches the PBE after the Verdict Unit was told of it (R71, R73, R155). The
computations of an event are one pass (R166), which `State.receive` makes after the PBE took the frame, the record being CURRENT then
as it was when it was reported. Where the PBE itself takes it out of CURRENT at this event (NO_LANES at a port with every lane
fenced), the pass of the report is made here, before the PBE (log entry 44). -/
def State.examineEntry (s : State) (p : Fin 32) (f : SidebandFrame) (different : Bool) : State :=
  let t := s.examineFrame p f different
  if (t.port p).neighbor.status = .current then t else (s.trigger fun _ => true).examineFrame p f different

/-- A replacement rebuilds the record with the attempt as it stands after the PBE took the frame (R73). -/
def State.replaceRecord (s : State) (p : Fin 32) (sender : PeerId) (f : SidebandFrame) : State :=
  if (s.port p).showsRestart f true then
    (s.peerRestart p).modPort p fun pt => (pt.rebuild .current sender f).armSilence s.params
  else
    (s.modPort p fun pt => (pt.rebuild .current sender f).armSilence s.params).examineEntry p f true

/-- A refresh (R72, R168): the record first, then the pass that a reported field starts, then the PBE's test. -/
def State.refreshRecord (s : State) (p : Fin 32) (f : SidebandFrame) : State :=
  let reports := (s.port p).reportsField f
  let s := s.modPort p fun pt => Port.armSilence s.params { pt with neighbor := pt.neighbor.refresh f }
  let s := if reports then s.trigger fun q => q = p else s
  s.examineFrame p f false

/-- A valid frame at a port in a sending state, up to what its kind adds (R66 to R76). -/
def State.takeFrame (s : State) (p : Fin 32) (sender : PeerId) (f : SidebandFrame) : State :=
  let s := s.modPort p fun pt => { pt.countValidFrame with rx := none }
  match (s.port p).reception sender with
  | .capture =>
    (s.modPort p fun pt => (pt.rebuild .current sender f).armSilence s.params).examineEntry p f false
  | .refresh => s.refreshRecord p f
  | .replace => s.replaceRecord p sender f
  | .staleSame => (s.modPort p fun pt => { pt with neighbor := pt.neighbor.refresh f }).examineFrame p f false
  | .staleOther => (s.modPort p fun pt => pt.rebuild .stale sender f).examineFrame p f true
  | .ignored => s.examineFrame p f false

/-- A rejected frame (R66): counted, and the receiver hunts again. -/
def Port.reject (pt : Port) : Port := { pt.countRejectedFrame with rx := none }

/-- The frame that a receiver is collecting, by the timestamp at which its sync sequence was found: none while the receiver is off or hunts, and
then no 32nd byte of a frame arrives (R60, R66). -/
def Port.collectingFrame (pt : Port) : Option (BitVec 32) := if pt.state.sending then pt.rx else none

/-- The receiver finds a sync sequence (R60, R66): hunting, it collects from here and holds the timestamp; while it collects, 32 bytes
come first. -/
def Port.findSync (now : BitVec 32) (pt : Port) : Port :=
  if pt.state.sending && pt.rx.isNone then { pt with rx := some now } else pt

/-- A PROBE taken occupies a free echo slot, of which there are two (R65). -/
def Port.placeEcho (now : BitVec 32) (f : SidebandFrame) (pt : Port) : Port :=
  if pt.tx.echoes.length < 2 then
    { pt with tx := { pt.tx with echoes := pt.tx.echoes ++ [⟨f.probeStamp, now⟩] } }
  else pt

/-- T4: the timestamp counter's value when the first bit after the sync sequence passed the receive stamp point (R68), `lag` TU after
the sequence was found. -/
def echoStamp (found : BitVec 32) (lag : Fin 126) : BitVec 32 := found + BitVec.ofNat 32 lag.val

/-- An ECHO handed to the Ranging Unit (R144). -/
def State.matchEcho (s : State) (p : Fin 32) (f : SidebandFrame) (t4 : BitVec 32) : State :=
  match (s.port p).burst.matching f.probeStamp with
  | none => s
  | some k =>
    (s.modPort p fun pt => { pt with burst := pt.burst.answer k f.probeStamp t4 f.turnaround }).checkBurst p

/-- A frame's 32nd byte at one event. A receiver that is off or hunts takes none; otherwise the record and the PBE take the frame,
its kind adds `more`, which is given the timestamp of the sync sequence, and the verdicts of the event are made. The Ranging Unit so
takes an ECHO after the PBE, and one that shows a peer restart meets a burst abandoned (DESIGN CHOICE, log entry 50). A frame whose
fields fail a check of R66 is rejected. -/
def State.receive (s : State) (p : Fin 32) (f : SidebandFrame) (more : BitVec 32 → State → State) : State :=
  match (s.port p).collectingFrame with
  | none => s
  | some stamp =>
    match senderOf f with
    | some sender =>
      (more stamp (s.takeFrame p sender f)).verdicts s fun _ => ((s.port p).reception sender).enters
    | none => s.modPort p Port.reject

/-! ## The bytes received (R66, R198) -/

/-- The 32 bytes that a receiver collects: what the sender sent, and from where it stopped the ones of the idle line (R66). -/
def completedFrame (bytes : List Byte) : List Byte := (bytes ++ List.replicate 32 0xFF).take 32

/-- The command that the bytes after a sync sequence make at a port, by the four checks of R66: CRC, kind, sender chassis and sender
port. `lag` is an ECHO's. -/
def sidebandCommand (port : Fin 32) (lag : Fin 126) (bytes : List Byte) : Instr :=
  match readSideband (completedFrame bytes) with
  | none => .sidebandFrameRejected port
  | some (kind, f) =>
    match senderOf f, kind with
    | none, _ => .sidebandFrameRejected port
    | some _, .beacon => .beaconReceived port f
    | some _, .probe => .probeReceived port f
    | some _, .echo => .echoReceived port f lag

end Sys2Proof.Machine
end

