-- ==== Sys2Proof/Machine/Finish.lean ====
section
/-! DEFINITION. The conclusion of every event: pending flags of ports that stopped being verdict-bearing, the notices it
hands, the prompt beacons it makes wait, and the transmitters that start. -/

namespace Sys2Proof.Machine

/-! ## Notices (R59, R167, R194) -/

/-- The PORT_STATE notice of a port as the event leaves it. -/
def Port.notice (p : Fin 32) (pt : Port) : Notice :=
  .portState
    { port := p
      current := pt.state.name
      first := pt.state.name
      cls := pt.verdict.cls
      primary := pt.verdict.codes.head?
      cause := pt.lastFailure.map (·.cause)
      count := 0 }

/-- Whether an event hands a PORT_STATE notice: the port state has changed (R59), or a recomputation in place changed code
list or partner (R167). An event that ends in the state it began in hands none for the state (log entry 14). -/
def Port.noticeDue (before after : Port) : Bool :=
  decide (before.state.name ≠ after.state.name)
    || (before.state.bearing && after.state.bearing
      && (decide (before.verdict.codes ≠ after.verdict.codes)
        || decide (before.verdict.partner ≠ after.verdict.partner)))

/-- PORT_STATE notices, in ascending port order. -/
def portNotices (before after : State) : List Notice :=
  allPorts.filterMap fun p =>
    if (before.port p).noticeDue (after.port p) then some ((after.port p).notice p) else none

/-- The PLAN_STATE notice of a changed plan state (R22). -/
def planNotices (before after : State) : List Notice :=
  if before.plan.state = after.plan.state then []
  else [.planState after.plan.state after.plan.generation after.plan.epoch 0]

/-- The notices of an event in the order of R194: PLAN_STATE, PORT_STATE, LANE_LIMIT, MONITOR_DONE. -/
def eventNotices (before after : State) (limits done : List Notice) : List Notice :=
  planNotices before after ++ portNotices before after ++ limits ++ done

/-! ## Sideband transmitters (R62, R63) -/

/-- Whether an event makes a prompt beacon wait: the port entered a sending state, or a field that the peer acts on changed. -/
def promptDue (before after : State) (p : Fin 32) : Bool :=
  (after.port p).state.sending
    && (!(before.port p).state.sending || decide (before.advertised p ≠ after.advertised p))

/-- A port at the end of an event: its pending flag is cleared if it left the verdict-bearing states (R165), a prompt beacon
waits if one is due, and a free transmitter starts what waits. -/
def concludePort (before after : State) (p : Fin 32) (pt : Port) : Port :=
  let left := (before.port p).state.bearing && !pt.state.bearing
  let tx := if promptDue before after p then { pt.tx with beaconWaiting := true } else pt.tx
  { pt with
    verdict := if left then { pt.verdict with pending := false } else pt.verdict
    tx := tx.start (after.frameFields p) after.timestamp after.params.beaconInterval }

/-- The conclusion of an event that led from `before` to `after`. -/
def State.conclude (before after : State) (limits done : List Notice) : State :=
  { after with
    notices := handNotices (eventNotices before after limits done) after.notices
    ports := after.ports.mapFin (concludePort before after) }

/-! ## The outbound arbiter (R178) -/

/-- A free transmitter starts the oldest reply, or the head notice when notices are enabled and no reply waits. -/
def State.startOutbound (s : State) : State :=
  match s.mli.sending, s.mli.replies, s.notices with
  | some _, _, _ => s
  | none, r :: rest, _ => s.modMli fun m => { m with replies := rest, sending := some ⟨r.frame, r.reset⟩ }
  | none, [], n :: rest =>
    if s.mli.notify then
      { s with notices := rest, mli := { s.mli with sending := some ⟨n.frame, false⟩ } }
    else s
  | none, [], [] => s

/-- An event that is no request: its conclusion, and what the transmitter starts at it. -/
def State.finish (before after : State) (limits done : List Notice) : State :=
  (before.conclude after limits done).startOutbound

/-- MONITOR_DONE notices for jobs that completed at a selection (R111). -/
def doneNotices (done : List (Fin 4)) : List Notice := done.map fun j => .monitorDone j .complete 0

end Sys2Proof.Machine
end

