-- ==== Sys2Proof/Machine/PlanTable.lean ====
section
/-! DEFINITION. The Plan Table (chapter 1): its requests, the effective expectations, and the plan close. -/

namespace Sys2Proof.Machine

/-! ## Effective expectations (R7) -/

/-- Whether an override's local range contains port `p`. -/
def Override.covers (o : Override) (p : Fin 32) : Bool :=
  decide (o.localStart.val ≤ p.val) && decide (p.val < o.localStart.val + o.count)

/-- The alternate peer of an override at a port it covers. -/
def Override.alternate (o : Override) (p : Fin 32) : PeerId :=
  ⟨o.chassis, Fin.ofNat 32 (o.portStart.val + p.val - o.localStart.val)⟩

/-- The first override from position `at` on that covers port `p`, with its position. -/
def firstCover (p : Fin 32) : Nat → List Override → Option (Nat × Override)
  | _, [] => none
  | position, o :: rest => if o.covers p then some (position, o) else firstCover p (position + 1) rest

/-- The expectation of an entry; UNUSED for an absent one (R2). -/
def baseExpectation : Option PlanEntry → Expectation
  | some e => e.expectation
  | none => .unused

/-- The base fields of an entry, or the absent-entry values (R2). -/
def baseFields : Option PlanEntry → BaseFields
  | some e => e.base
  | none => absentBase

/-- The expected peer of an entry written PLANNED. -/
def plannedPeer : Option PlanEntry → Option PeerId
  | some e => match e.expectation with
    | .planned => e.peer
    | .unused | .any => none
  | none => none

/-- The effective expectation of port `p` (R7). -/
def effectiveOf (entry : Option PlanEntry) (overrides : List Override) (p : Fin 32) : Effective :=
  let own := (plannedPeer entry).toList
  match firstCover p 0 overrides with
  | none =>
    { kind := baseExpectation entry
      accepted := own
      advertised := plannedPeer entry
      matched := none
      base := baseFields entry }
  | some (position, o) =>
    let alternate := o.alternate p
    match o.mode with
    | .replace =>
      { kind := .planned
        accepted := [alternate]
        advertised := some alternate
        matched := some position
        base := baseFields entry }
    | .either =>
      { kind := .planned
        accepted := alternate :: own.filter fun i => decide (i ≠ alternate)
        advertised := none
        matched := some position
        base := baseFields entry }

/-- Two accepted peer sets with the same members. -/
def samePeers (a b : List PeerId) : Bool := (a.all fun i => decide (i ∈ b)) && b.all fun i => decide (i ∈ a)

/-- Whether a new record differs from the one before it: kind, accepted set and base fields (R16). -/
def recordChanged (before after : Effective) : Bool :=
  !(decide (before.kind = after.kind) && samePeers before.accepted after.accepted
    && decide (before.base = after.base))

/-! ## The close (R15 to R17) -/

/-- The Plan Table after a PLAN_END taken with a generation. -/
def Plan.close (generation : BitVec 16) (pl : Plan) : Plan :=
  let cache := pl.entries.mapFin fun p e => effectiveOf e pl.overrides p
  { pl with
    state := .closed
    generation := generation
    epoch := pl.epoch + 1
    cache := cache
    changed := .ofFn fun p => recordChanged (pl.cache.get p) (cache.get p) }

/-- The retry count under a new record (R17). -/
def clampRetry (base : BaseFields) (n : Nat) : Nat :=
  match base.recovery with
  | .manual => 0
  | .auto => min n base.retryLimit

/-- The consequences at one port: the retry count is clamped and PLAN_WAIT is left (R15, R17, R38). -/
def Port.meetClose (e : Effective) (pt : Port) : Port :=
  Port.releasePlanWait (decide (e.kind = .unused)) { pt with retryCount := clampRetry e.base pt.retryCount }

/-- A plan close with its verdict pass (R15, R169): the ports whose first computation is due, the changed and the pending
ones. -/
def State.closePlan (s : State) (generation : BitVec 16) : State :=
  let pl := s.plan.close generation
  let t := (s.withPlan pl).mapPorts fun p pt => pt.meetClose (pl.cache.get p)
  t.verdicts s fun p => pl.changed.get p || (s.port p).verdict.pending

/-! ## Requests (R3 to R6, R11 to R14) -/

/-- PLAN_BEGIN (R11). -/
def Plan.begin_ (replace : Bool) (pl : Plan) : Plan :=
  { pl with
    state := .loading
    cursor := 0
    entries := if replace then .replicate 32 none else pl.entries
    overrides := if replace then [] else pl.overrides }

def State.takePlanBegin (s : State) (payload : List Byte) : Taken :=
  let mode := byteAt payload 0
  if s.plan.state = .loading then refuse s .wrongState
  else if mode = 0 ∨ mode = 1 then takes (s.withPlan (s.plan.begin_ (decide (mode = 0)))) .ok (byte1 0)
  else refuse s .argRange

/-- The entry at an index becomes written or absent and the cursor moves past it (R12, R13). -/
def Plan.write (i : Fin 32) (e : Option PlanEntry) (pl : Plan) : Plan :=
  { pl with entries := pl.entries.set i e, cursor := i.val + 1 }

/-- An entry request taken at an index: its reply carries the index and the new cursor (R13). -/
def State.writeEntry (s : State) (i : Fin 32) (e : Option PlanEntry) (clamped : Bool) : Taken :=
  takes (s.withPlan (s.plan.write i e)) (okStatus clamped) (byte1 i.val ++ byte1 (i.val + 1))

/-- The index that an address names: `Sum.inl` a refusal (R13, items 3 and 4). -/
def planIndex (address : Byte) (cursor : Nat) : Status ⊕ Fin 32 :=
  if address = 0xFF then (if h : cursor < 32 then .inr ⟨cursor, h⟩ else .inl .tableFull)
  else match portOf address with
    | some i => .inr i
    | none => .inl .argRange

/-- PLAN_ENTRY (R13): address, action, and for an entry its 37 bytes. -/
def State.takePlanEntry (s : State) (payload : List Byte) : Taken :=
  let action := byteAt payload 1
  let clear := decide (action = 0) && decide (payload.length = 2)
  let entry := decide (action = 1) && decide (payload.length = 39)
  if s.plan.state ≠ .loading then refuse s .wrongState
  else if !clear && !entry then refuse s .argRange
  else match planIndex (byteAt payload 0) s.plan.cursor with
    | .inl st => refuse s st
    | .inr i =>
      if clear then s.writeEntry i none false
      else match checkEntry (readPlanEntry payload) with
        | some c => s.writeEntry i (some c.entry) c.clamped
        | none => refuse s .argRange

/-- PLAN_OVERRIDE APPEND (R4, R5). -/
def State.appendOverride (s : State) (o : Option Override) : Taken :=
  match o with
  | none => refuse s .argRange
  | some o =>
    let n := s.plan.overrides.length
    if 16 ≤ n then refuse s .tableFull
    else takes (s.withPlan { s.plan with overrides := s.plan.overrides ++ [o] }) .ok (byte1 n ++ byte1 (n + 1))

/-- PLAN_OVERRIDE DELETE (R6). -/
def State.deleteOverride (s : State) (i : Nat) : Taken :=
  let n := s.plan.overrides.length
  if i < n then
    takes (s.withPlan { s.plan with overrides := s.plan.overrides.eraseIdx i }) .ok (byte1 (n - 1))
  else refuse s .argRange

/-- PLAN_OVERRIDE (R6): an operation byte and its fields. -/
def State.takePlanOverride (s : State) (payload : List Byte) : Taken :=
  let operation := byteAt payload 0
  if s.plan.state ≠ .loading then refuse s .wrongState
  else if operation = 0 ∧ payload.length = 11 then s.appendOverride (checkOverride (readOverride payload))
  else if operation = 1 ∧ payload.length = 2 then s.deleteOverride (byteAt payload 1).toNat
  else refuse s .argRange

/-- How many ports a close marked changed. -/
def Plan.changedCount (pl : Plan) : Nat := (allPorts.filter pl.changed.get).length

/-- PLAN_END (R14). -/
def State.takePlanEnd (s : State) (payload : List Byte) : Taken :=
  let generation := BitVec.ofNat 16 (numberAt payload 0 2)
  if s.plan.state ≠ .loading then refuse s .wrongState
  else if generation = 0 then refuse s .argRange
  else
    let t := s.closePlan generation
    takes t .ok (byte2 t.plan.generation.toNat ++ byte4 t.plan.epoch.toNat ++ byte1 t.plan.changedCount)

/-! ## PLAN_READ (R21) -/

/-- The count of written entries. -/
def Plan.writtenCount (pl : Plan) : Nat := (allPorts.filter fun p => (pl.entries.get p).isSome).length

/-- The plan header. -/
def Plan.header (pl : Plan) : List Byte :=
  byte1 pl.state.code ++ byte1 pl.cursor ++ byte2 pl.generation.toNat ++ byte4 pl.epoch.toNat
    ++ byte1 pl.overrides.length ++ byte1 pl.writtenCount

/-- The bytes of a PLAN_READ reply after its status. -/
def Plan.readReply (pl : Plan) (records : List (List Byte)) : List Byte := pl.header ++ recordBytes 11 records

/-- The records of a range of ports. -/
def portRange (start count : Nat) (record : Fin 32 → List Byte) : List (List Byte) :=
  ((allPorts.drop start).take count).map record

/-- ENTRIES and EFFECTIVE: a range of indexes. -/
def State.readIndexes (s : State) (start count : Nat) (record : Fin 32 → List Byte) : Taken :=
  if 31 < start then refuse s .argRange
  else
    let n := fitCount start count 32
    takes s (okStatus (decide (n ≠ count))) (s.plan.readReply (portRange start n record))

/-- OVERRIDES: a range of positions; a start at or beyond the count returns none, with OK. -/
def State.readOverrides (s : State) (start count : Nat) : Taken :=
  if 15 < start then refuse s .argRange
  else if s.plan.overrides.length ≤ start then takes s .ok (s.plan.readReply [])
  else
    let n := fitCount start count s.plan.overrides.length
    takes s (okStatus (decide (n ≠ count)))
      (s.plan.readReply (((s.plan.overrides.drop start).take n).map Override.bytes))

/-- PLAN_READ (R21): a selector, a start and a count. -/
def State.takePlanRead (s : State) (payload : List Byte) : Taken :=
  let selector := byteAt payload 0
  let start := (byteAt payload 1).toNat
  let count := (byteAt payload 2).toNat
  if selector = 0 then s.readIndexes start count fun p => optionBytes 37 PlanEntry.bytes (s.plan.entries.get p)
  else if selector = 1 then
    s.readIndexes start count fun p => (s.plan.cache.get p).bytes (s.plan.changed.get p)
  else if selector = 2 then s.readOverrides start count
  else refuse s .argRange

end Sys2Proof.Machine
end

