-- ==== Sys2Proof/Machine/Control.lean ====
section
/-! DEFINITION. The requests of chapter 2 (PORT_CONTROL, PORT_RESTART, PORT_RELEASE), chapter 4 (LANE_EQ), chapter 5 (the
Lane Monitor) and chapter 7 (PORT_TRIM). -/

namespace Sys2Proof.Machine

/-! ## PORT_CONTROL (R54 to R56) -/

/-- A fence change outside the lane stages (R81). -/
def Port.refence (pt : Port) : Port :=
  { pt with lanes := pt.lanes.mapFin fun l ln => ln.refence (pt.fence l) }

/-- A fence change is stored, and moves resting lanes when it comes outside the lane stages. -/
def Port.storeFences (changed : Bool) (pt : Port) : Port := if changed then pt.refence else pt

/-- One selected port takes its new flags (R55, R56). -/
def State.controlPort (s : State) (clear set : BitVec 6) (p : Fin 32) : State :=
  let old := s.port p
  let s := s.modPort p fun pt => { pt with flags := newFlags pt.flags clear set }
  let new := s.port p
  let fences := decide (old.fenceMask ≠ new.fenceMask)
  if !new.adminEnable then
    if old.state = .disabled then s.modPort p (Port.storeFences fences) else s.disable p
  else if !old.adminEnable then
    let s := s.modPort p (Port.storeFences fences)
    if old.state = .disabled ∧ s.mli.device = .running then s.modPort p (Port.enable s.params) else s
  else if fences then
    if old.inLaneStages then s.fenceRestart p else s.modPort p Port.refence
  else s

/-- The ports a mask selects, in ascending order. -/
def selected (mask : BitVec 32) : List (Fin 32) := allPorts.filter (maskHas mask)

/-- PORT_CONTROL (R54): port mask, clear mask, set mask. -/
def State.takePortControl (s : State) (payload : List Byte) : Taken :=
  let ports := BitVec.ofNat 32 (numberAt payload 0 4)
  let clear := byteAt payload 4
  let set := byteAt payload 5
  if 63 < clear.toNat ∨ 63 < set.toNat then refuse s .argRange
  else
    let t := (selected ports).foldl (fun t p => t.controlPort (clear.setWidth 6) (set.setWidth 6) p) s
    let t := t.verdicts s fun _ => false
    takes t .ok (byte4 (portMask fun p =>
      maskHas ports p && decide ((s.port p).state.name ≠ (t.port p).state.name)).toNat)

/-! ## PORT_RESTART and PORT_RELEASE (R53, R57) -/

/-- The ports that a PORT_RESTART restarts: the selected ones that are not DISABLED. -/
def State.restarts (s : State) (ports : BitVec 32) (p : Fin 32) : Bool :=
  maskHas ports p && decide ((s.port p).state ≠ .disabled)

/-- PORT_RESTART (R57). -/
def State.takePortRestart (s : State) (payload : List Byte) : Taken :=
  let ports := BitVec.ofNat 32 (numberAt payload 0 4)
  let t := (allPorts.filter (s.restarts ports)).foldl State.restart s
  takes (t.verdicts s fun _ => false) .ok (byte4 (portMask (s.restarts ports)).toNat)

/-- The ports that a PORT_RELEASE releases: the selected ones that are HELD. -/
def State.releases (s : State) (ports : BitVec 32) (p : Fin 32) : Bool :=
  maskHas ports p && decide ((s.port p).state.name = .held)

/-- PORT_RELEASE (R53). -/
def State.takePortRelease (s : State) (payload : List Byte) : Taken :=
  let ports := BitVec.ofNat 32 (numberAt payload 0 4)
  let t := (allPorts.filter (s.releases ports)).foldl State.release s
  takes (t.verdicts s fun _ => false) .ok (byte4 (portMask (s.releases ports)).toNat)

/-! ## LANE_EQ (R96) -/

/-- The setting that a byte forces: 32 to 255 is clamped to 31. -/
def forcedSetting (b : Byte) : Fin 32 := Fin.ofNat 32 (min 31 b.toNat)

/-- LANE_EQ (R96): lane index, action and value. -/
def State.takeLaneEq (s : State) (payload : List Byte) : Taken :=
  let action := byteAt payload 1
  let value := byteAt payload 2
  match laneOf (byteAt payload 0) with
  | none => refuse s .argRange
  | some g =>
    if action = 0 then
      takes (s.modLane g fun ln => { ln with forced := some (forcedSetting value) })
        (okStatus (decide (31 < value.toNat))) (byte1 g.val ++ [1] ++ byte1 (forcedSetting value).val)
    else if action = 1 then
      takes (s.modLane g fun ln => { ln with forced := none }) .ok (byte1 g.val ++ [0, 0])
    else refuse s .argRange

/-! ## The Lane Monitor (R107, R108, R112, R113) -/

/-- An offset held in −64 to +63. -/
def clampOffset (n : Int) : Int := if n < -64 then -64 else if 63 < n then 63 else n

/-- MONITOR_SETUP (R112): lane, offset, low limit, high limit. -/
def State.takeMonitorSetup (s : State) (payload : List Byte) : Taken :=
  let offset := signedByte (byteAt payload 1)
  let low := numberAt payload 2 2
  let high := numberAt payload 4 2
  match laneOf (byteAt payload 0) with
  | none => refuse s .argRange
  | some g =>
    if high < low then refuse s .argRange
    else
      let setup : MonitorSetup := ⟨clampOffset offset, min 1023 low, min 1023 high⟩
      let clamped := decide (setup ≠ ⟨offset, low, high⟩)
      takes (s.withMonitor { s.monitor with setups := s.monitor.setups.set g setup }) (okStatus clamped)
        (byte1 g.val ++ signedBytes 1 setup.offset ++ byte2 setup.low ++ byte2 setup.high)

/-- The lowest job id that no job of the list holds (R106). -/
def freeJobId (jobs : List ScanJob) : Option (Fin 4) :=
  (List.finRange 4).find? fun i => jobs.all fun j => decide (j.id ≠ i)

/-- MONITOR_SCAN (R107): lane mask and pass count. A free engine selects at once (R109). -/
def State.takeMonitorScan (s : State) (payload : List Byte) : Taken :=
  let mask := BitVec.ofNat 128 (numberAt payload 0 16)
  let passes := (byteAt payload 16).toNat
  if mask = 0 then refuse s .argRange
  else if 4 ≤ s.monitor.jobs.length then refuse s .queueFull
  else match freeJobId s.monitor.jobs with
    | none => refuse s .queueFull
    | some id =>
      let count := clampTo 1 16 passes
      let job : ScanJob := { id := id, mask := mask, passes := count, pass := 1, next := 0, made := 0 }
      let sel := (s.withMonitor { s.monitor with jobs := s.monitor.jobs ++ [job] }).select
      { takes sel.state (okStatus (decide (count ≠ passes))) (byte1 id.val ++ byte1 count) with
        notices := doneNotices sel.done }

/-- A measurement of a cancelled job counts towards no job any more (R108). -/
def Measurement.orphan (id : Fin 4) (m : Measurement) : Measurement :=
  match m.source with
  | .scan (some j) => if j = id then { m with source := .scan none } else m
  | .scan none | .bringUp _ => m

/-- MONITOR_CANCEL (R108). -/
def State.takeMonitorCancel (s : State) (payload : List Byte) : Taken :=
  match s.monitor.jobs.find? fun j => decide (j.id.val = (byteAt payload 0).toNat) with
  | none => refuse s .argRange
  | some j =>
    { takes (s.withMonitor { s.monitor with
          jobs := s.monitor.jobs.filter fun k => decide (k.id ≠ j.id)
          engine := s.monitor.engine.map (Measurement.orphan j.id) })
        .ok (byte1 j.id.val ++ byte2 j.made) with
      notices := [.monitorDone j.id .cancelled 0] }

/-- The monitor header (R113). -/
def Monitor.header (m : Monitor) : List Byte :=
  optionBytes 2 (fun e : Measurement => byte1 e.lane.val ++ byte1 e.source.result.code) m.engine
    ++ byte1 m.queue.length ++ byte1 m.jobs.length ++ byte1 m.runCount ++ byte2 m.sequence

/-- A result record with the lane's setup (R113, Table 5-1). -/
def Result.bytes (r : Result) (setup : MonitorSetup) : List Byte :=
  byte2 r.corrected ++ byte1 r.setting.val ++ byte1 r.source.code ++ byte1 r.limit.code ++ byte2 r.sequence
    ++ signedBytes 1 setup.offset ++ byte2 setup.low ++ byte2 setup.high

/-- A job (Table 5-2). -/
def ScanJob.bytes (j : ScanJob) : List Byte :=
  byte1 j.id.val ++ numberBytes 16 j.mask.toNat ++ byte1 j.passes ++ byte1 j.pass ++ byte1 j.next
    ++ byte2 j.made

/-- The bytes of a MONITOR_READ reply after its status. -/
def Monitor.readReply (m : Monitor) (records : List (List Byte)) : List Byte := m.header ++ recordBytes 9 records

/-- MONITOR_READ RESULTS. -/
def State.readResults (s : State) (start count : Nat) : Taken :=
  if 127 < start then refuse s .argRange
  else
    let n := fitCount start count 128
    takes s (okStatus (decide (n ≠ count)))
      (s.monitor.readReply ((((List.finRange 128).drop start).take n).map fun g =>
        (s.monitor.results.get g).bytes (s.monitor.setups.get g)))

/-- MONITOR_READ (R113): a selector, and for RESULTS a start and a count. The two bytes after a JOBS selector are not examined
(DESIGN CHOICE, log entry 38). -/
def State.takeMonitorRead (s : State) (payload : List Byte) : Taken :=
  let selector := byteAt payload 0
  if selector = 0 then s.readResults (byteAt payload 1).toNat (byteAt payload 2).toNat
  else if selector = 1 then takes s .ok (s.monitor.readReply (s.monitor.jobs.map ScanJob.bytes))
  else refuse s .argRange

/-! ## PORT_TRIM (R140) -/

/-- PORT_TRIM (R140): port and trim. -/
def State.takePortTrim (s : State) (payload : List Byte) : Taken :=
  let trim := numberAt payload 1 2
  match portOf (byteAt payload 0) with
  | none => refuse s .argRange
  | some p =>
    takes (s.modPort p fun pt => { pt with trim := min 255 trim }) (okStatus (decide (255 < trim)))
      (byte1 p.val ++ byte1 (min 255 trim))

end Sys2Proof.Machine
end

