-- ==== Sys2Proof/Machine/Settings.lean ====
section
/-! DEFINITION. The requests that the Management Link Interface owns (chapter 9): CONFIG_SET, CONFIG_GET, IDENTIFY,
NOTICE_CONTROL and DEVICE_RESET. -/

namespace Sys2Proof.Machine

/-! ## Parameters (Table 9-2) -/

/-- The identifiers of parameters, in order. -/
def parameterIds : List Byte :=
  [1, 2, 3, 4, 5, 6, 7, 8, 9, 10, 11, 12, 13, 14, 16, 17, 18, 19, 20, 21, 22, 23]

/-- The cable kind of identifiers 16 to 23. -/
def kindOfId (id : Byte) : Option (Fin 8) :=
  if h : 16 ≤ id.toNat ∧ id.toNat < 24 then some ⟨id.toNat - 16, by omega⟩ else none

/-- The value in force of a parameter; 0 for an identifier that names none. -/
def Params.value (pr : Params) (id : Byte) : Nat :=
  match id.toNat with
  | 1 => pr.chassisId.toNat
  | 2 => pr.beaconInterval
  | 3 => pr.silenceLimit
  | 4 => pr.sidebandTimeout
  | 5 => pr.laneLockTimeout
  | 6 => pr.alignTimeout
  | 7 => pr.verifyTimeout
  | 8 => pr.presenceDebounce
  | 9 => pr.backoffBase
  | 10 => pr.backoffCap
  | 11 => pr.eqMethod.code
  | 12 => pr.eqPassMv
  | 13 => pr.eqMinWindow
  | 14 => pr.holdPoint.code
  | _ => match kindOfId id with
    | some k => pr.cableDelays.get k
    | none => 0

/-- The number a pair carries for every parameter but chassis_id: the last two value bytes (R197). -/
def shortValue (v : BitVec 48) : Nat := v.toNat % 65536

/-- The range of a numeric parameter but chassis_id (Table 9-2). -/
def Params.range (pr : Params) (id : Byte) : Nat × Nat :=
  match id.toNat with
  | 2 => (1, 255)
  | 3 => (2, 15)
  | 4 => (20, 2000)
  | 5 => (1, 100)
  | 6 => (5, 500)
  | 7 => (50, 5000)
  | 8 => (10, 500)
  | 9 => (1, 1000)
  | 10 => (pr.backoffBase, 60000)
  | 12 => (20, 600)
  | 13 => (1, 16)
  | _ => (3000, 6000)

/-- eq_method from its code, which has been checked. -/
def eqMethodOf (n : Nat) : EqMethod := if n = 0 then .midpoint else .hold

/-- hold_point from its code, which has been checked. -/
def holdPointOf (n : Nat) : HoldPoint :=
  if n = 0 then .none else if n = 1 then .sideband else if n = 2 then .align else .verify

/-- Whether a parameter is numeric with a range (all but chassis_id, eq_method and hold_point). -/
def ranged (id : Byte) : Bool := decide (id ∉ [1, 11, 14])

/-- The value a pair stores: held in range for a numeric parameter. -/
def Params.fit (pr : Params) (id : Byte) (v : BitVec 48) : Nat :=
  if ranged id then clampTo (pr.range id).1 (pr.range id).2 (shortValue v) else shortValue v

/-- A parameter takes a value; chassis_id takes the whole 48 bits. -/
def Params.assign (pr : Params) (id : Byte) (v : BitVec 48) : Params :=
  let n := pr.fit id v
  match id.toNat with
  | 1 => { pr with chassisId := v }
  | 2 => { pr with beaconInterval := n }
  | 3 => { pr with silenceLimit := n }
  | 4 => { pr with sidebandTimeout := n }
  | 5 => { pr with laneLockTimeout := n }
  | 6 => { pr with alignTimeout := n }
  | 7 => { pr with verifyTimeout := n }
  | 8 => { pr with presenceDebounce := n }
  | 9 => { pr with backoffBase := n, backoffCap := max n pr.backoffCap }
  | 10 => { pr with backoffCap := n }
  | 11 => { pr with eqMethod := eqMethodOf n }
  | 12 => { pr with eqPassMv := n }
  | 13 => { pr with eqMinWindow := n }
  | 14 => { pr with holdPoint := holdPointOf n }
  | _ => match kindOfId id with
    | some k => { pr with cableDelays := pr.cableDelays.set k n }
    | none => pr

/-- An identifier recorded as clamped, once. -/
def noteClamped (id : Byte) (ids : List Byte) : List Byte := if id ∈ ids then ids else ids ++ [id]

/-- One pair applied (R180): the value, the identifier if it was clamped, and identifier 10 when a new base raises the cap. -/
def applyPair (acc : Params × List Byte) (pair : Byte × BitVec 48) : Params × List Byte :=
  let pr := acc.1
  let n := pr.fit pair.1 pair.2
  let ids := if ranged pair.1 ∧ n ≠ shortValue pair.2 then noteClamped pair.1 acc.2 else acc.2
  let ids := if pair.1 = 9 ∧ pr.backoffCap < n then noteClamped 10 ids else ids
  (pr.assign pair.1 pair.2, ids)

/-! ## CONFIG_SET (R179, R180) -/

/-- Whether a pair fails a check of the first pass. -/
def pairRefused (pair : Byte × BitVec 48) : Bool :=
  decide (pair.1 ∉ parameterIds)
    || (decide (pair.1 = 11) && decide (1 < shortValue pair.2))
    || (decide (pair.1 = 14) && decide (3 < shortValue pair.2))
    || (decide (pair.1 = 1) && decide (pair.2 = 0))

/-- Whether every port is DISABLED. -/
def State.allDisabled (s : State) : Bool := allPorts.all fun p => decide ((s.port p).state = .disabled)

/-- The refusal of a list of pairs: its status and the identifier of the pair that caused it. -/
def State.configRefusal (s : State) (pairs : List (Byte × BitVec 48)) : Option (Status × Byte) :=
  match pairs.find? pairRefused with
  | some pair => some (.argRange, pair.1)
  | none =>
    if (pairs.any fun pair => decide (pair.1 = 1) && decide (pair.2 ≠ s.params.chassisId)) ∧ !s.allDisabled then
      some (.busyPorts, 1)
    else none

/-- The device enters RUNNING and every port whose ADMIN_ENABLE is set leaves DISABLED (R30, R179). -/
def State.enterRunning (s : State) : State :=
  let pr := s.params
  (s.modMli fun m => { m with device := .running }).mapPorts fun _ pt =>
    if pt.adminEnable ∧ pt.state = .disabled then pt.enable pr else pt

/-- The pairs applied in order, and RUNNING entered if that is required. -/
def State.applyConfig (s : State) (pr : Params) : State :=
  let s := s.modMli fun m => { m with params := pr }
  if s.mli.device = .unconfigured ∧ pr.chassisId ≠ 0 then s.enterRunning else s

/-- CONFIG_SET (R180) on a list of pairs. -/
def State.configSet (s : State) (pairs : List (Byte × BitVec 48)) : Taken :=
  match s.configRefusal pairs with
  | some (st, id) => takes s st [id]
  | none =>
    match pairs.foldl applyPair (s.params, []) with
    | (pr, []) => takes (s.applyConfig pr) .ok []
    | (pr, ids) => takes (s.applyConfig pr) .okClamped (listBytes (fun id => [id]) ids)

def State.takeConfigSet (s : State) (payload : List Byte) : Taken :=
  s.configSet (readPairs (payload.length / 7) payload)

/-! ## CONFIG_GET and IDENTIFY (R181, R182) -/

/-- A pair of CONFIG_GET: identifier and value, in the 6 bytes of a CONFIG_SET pair for every parameter (DESIGN CHOICE, log entry
40). -/
def Params.pairBytes (pr : Params) (id : Byte) : List Byte := id :: byte6 (pr.value id)

/-- CONFIG_GET (R181): a list of no identifiers asks for every parameter. -/
def State.takeConfigGet (s : State) (payload : List Byte) : Taken :=
  if payload.any fun id => decide (id ∉ parameterIds) then refuse s .argRange
  else
    takes s .ok (listBytes s.params.pairBytes
      (match payload with
       | [] => parameterIds
       | id :: rest => id :: rest))

/-- IDENTIFY (R182). -/
def State.takeIdentify (s : State) : Taken :=
  takes s .ok
    (byte2 Config.vendorCode.toNat ++ byte2 Config.partCode.toNat ++ [Config.revision]
      ++ byte1 32 ++ byte1 4 ++ byte1 32 ++ byte1 16
      ++ byte1 s.mli.device.code ++ byte6 s.params.chassisId.toNat
      ++ byte1 s.plan.state.code ++ byte2 s.plan.generation.toNat ++ byte4 s.plan.epoch.toNat
      ++ byte1 s.plan.writtenCount ++ byte1 s.plan.overrides.length
      ++ s.params.cableDelays.cells.flatMap byte2
      ++ flagByte s.mli.notify)

/-! ## NOTICE_CONTROL (R183) -/

/-- The flag after a transmission action: ENABLE 0, DISABLE 1, KEEP 2. -/
def notifyAfter (action : Byte) (flag : Bool) : Bool :=
  if action = 0 then true else if action = 1 then false else flag

/-- NOTICE_CONTROL (R183): action and flush flag. -/
def State.takeNoticeControl (s : State) (payload : List Byte) : Taken :=
  let action := byteAt payload 0
  let flush := byteAt payload 1
  if 2 < action.toNat ∨ 1 < flush.toNat then refuse s .argRange
  else
    let removed := if flush = 1 then s.notices.length else 0
    let kept := if flush = 1 then [] else s.notices
    let flag := notifyAfter action s.mli.notify
    takes { s with notices := kept, mli := { s.mli with notify := flag } } .ok
      (flagByte flag ++ byte1 removed)

/-! ## Resets (R22, R184, R199) -/

/-- Every block but the Plan Table at its power-on state, the PRESENT_N pins as they stand (Table 9-3). The queue of commands
is the sender's. -/
def State.deviceReset (s : State) : State :=
  { State.reset with
    plan := s.plan
    ports := s.ports.mapFin fun _ pt => Port.reset pt.rawPresent
    pending := s.pending }

/-- Power-on reset: DEVICE_RESET with the Plan Table returned to EMPTY (R199). -/
def State.powerOnReset (s : State) : State := { s.deviceReset with plan := Plan.reset }

/-- DEVICE_RESET (R184): answered OK; the reset is taken when that reply has been sent. -/
def State.takeDeviceReset (s : State) : Taken :=
  { state := s, answer := { status := .ok, content := [], reset := true } }

end Sys2Proof.Machine
end

