-- ==== Sys2Proof/Machine/Status.lean ====
section
/-! DEFINITION. The requests of chapter 10: PORT_STATUS, NEIGHBOR_READ, FIND and COUNTERS. -/

namespace Sys2Proof.Machine

/-! ## PORT_STATUS (R186, R197; log entries 18 and 52) -/

/-- The sub-state byte: the sub-state in VERIFY, open in every other state (log entry 16). -/
def PortState.subByte : PortState → List Byte
  | .verify sub => byte1 sub.code
  | .disabled | .waitCable | .sideband | .laneLock | .align | .held _ _ | .active | .backoff | .fault =>
    [Config.subStateOutsideVerify]

/-- The hold position: present in HELD. -/
def PortState.holdBytes : PortState → List Byte
  | .held stage next => [1] ++ byte1 stage.code ++ byte1 next.code
  | .disabled | .waitCable | .sideband | .laneLock | .align | .verify _ | .active | .backoff | .fault => [0, 0, 0]

/-- A last-failure record (R23); its cause is numbered from 0 (R197; log entry 51). -/
def LastFailure.bytes (f : LastFailure) : List Byte :=
  byte1 f.cause.code ++ byte1 f.stage ++ optionBytes 1 (fun l : Fin 4 => byte1 l.val) f.lane
    ++ byte4 f.attempt.toNat

/-- The port part (R23 and the label). -/
def Port.portPart (label : Option (List Byte)) (pt : Port) : List Byte :=
  byte1 pt.state.name.code ++ pt.state.subByte ++ pt.state.holdBytes
    ++ byte1 pt.retryCount ++ byte4 pt.attempt.toNat ++ flagByte pt.ready ++ byte1 pt.flags.toNat
    ++ byte1 (if pt.present then 0 else 1) ++ optionBytes 8 LastFailure.bytes pt.lastFailure ++ labelBytes label

def HeldLane.bytes (l : HeldLane) : List Byte := byte1 l.status.code ++ flagByte l.marginal ++ flagByte l.inversion

def HeldFindings.bytes (f : HeldFindings) : List Byte := flagByte f.skewExcess ++ f.lanes.cells.flatMap HeldLane.bytes

/-- The verdict part (Table 8-1); the primary code, as each field that the table marks none or absent, has a presence byte (R186). -/
def Verdict.bytes (v : Verdict) : List Byte :=
  byte1 v.cls.code ++ optionBytes 1 (fun c : Code => byte1 c.number) v.codes.head? ++ listBytes (fun c : Code => byte1 c.number) v.codes
    ++ optionBytes 1 (fun p : Fin 32 => byte1 p.val) v.partner
    ++ optionBytes 1 (fun m : BitVec 4 => byte1 m.toNat) v.finalSet ++ optionBytes 1 byte1 v.finalWidth
    ++ optionBytes 1 (fun c : MapClass => byte1 c.code) v.order
    ++ optionBytes 2 byte2 v.length ++ flagByte v.unmeasured ++ flagByte v.suspect
    ++ optionBytes 13 HeldFindings.bytes v.findings
    ++ byte4 v.epoch.toNat ++ byte4 v.attempt.toNat ++ flagByte v.pending

/-- A neighbor record (Table 3-2) with its two length flags as given. The identity of an EMPTY record is sent as zeros without a
presence byte (DESIGN CHOICE, log entry 41), and its generation, trim, interval, fence mask, stage and class as the 0 and NONE it
holds, without presence bytes (DESIGN CHOICE, log entry 45). -/
def Neighbor.bytesWith (lengthFlags : List Byte) (n : Neighbor) : List Byte :=
  byte1 n.status.code
    ++ (match n.identity with
        | some i => i.bytes
        | none => List.replicate 7 0)
    ++ optionBytes 7 PeerId.bytes n.expected ++ byte2 n.generation.toNat ++ byte1 n.trim ++ byte1 n.interval
    ++ byte1 n.fence.toNat ++ byte1 n.stage ++ optionBytes 1 (fun m : BitVec 4 => byte1 m.toNat) n.kept
    ++ byte1 n.cls.code ++ flagByte n.ready ++ optionBytes 2 byte2 n.length ++ lengthFlags
    ++ byte4 n.captureAttempt.toNat

/-- A neighbor record in NEIGHBOR_READ (R187): 35 bytes. -/
def Neighbor.bytes (n : Neighbor) : List Byte := n.bytesWith (flagByte n.unmeasured ++ flagByte n.suspect)

/-- A neighbor record in PORT_STATUS: its length flags have their first place in the verdict part, and are sent once (R197; log
entry 52). -/
def Neighbor.viewBytes (n : Neighbor) : List Byte := n.bytesWith []

/-- The byte beside a lane state: the FAILED reason or the GOOD marginal flag, which share it without a presence byte, and 0 in the
other states (R97; DESIGN CHOICE, log entry 37). -/
def LaneState.detail : LaneState → Nat
  | .failed r => r.code
  | .good m => if m then 1 else 0
  | .fenced | .idle | .locking | .searching => 0

/-- A lane: the fields of R97 and then those of R137, each sent once (R197): the deskew delay, which both name, is at its place in R97,
and the receive inversion and the alignment status are at theirs in the verdict part (log entry 52). -/
def laneBytes (ln : Lane) (dl : DeskewLane) : List Byte :=
  byte1 ln.state.code ++ byte1 ln.state.detail ++ byte1 ln.current.val ++ byte1 ln.previous.val
    ++ optionBytes 1 (fun f : Fin 32 => byte1 f.val) ln.forced ++ optionBytes 1 byte1 ln.method.code
    ++ optionBytes 2 (fun r : Run => byte1 r.low.val ++ byte1 r.high.val) ln.window ++ byte1 ln.lockLosses
    ++ optionBytes 2 byte2 dl.delay
    ++ flagByte dl.seen ++ optionBytes 1 (fun l : Fin 4 => byte1 l.val) dl.logical ++ optionBytes 2 byte2 dl.skew

/-- The alignment part (R137), without the skew excess flag, which has its first place in the verdict part (R197; log entry 52). -/
def Deskew.bytes (d : Deskew) : List Byte :=
  byte1 d.phase.code ++ byte1 d.collection ++ optionBytes 1 (fun l : Fin 4 => byte1 l.val) d.reference
    ++ optionBytes 1 (fun c : MapClass => byte1 c.code) d.mapClass ++ optionBytes 2 byte2 d.appliedLimit
    ++ optionBytes 2 byte2 d.maxKeptSkew ++ byte1 d.keptMask.toNat
    ++ flagByte (decide (d.phase = .fixed))

/-- The number of probes ANSWERED so far (R149). -/
def Burst.answered (b : Burst) : Nat := (b.probes.cells.filter fun pr => decide (pr.status = .answered)).length

/-- The ranging part (R149, Table 7-3). -/
def Port.rangingPart (pt : Port) : List Byte :=
  byte1 pt.trim ++ optionBytes 1 byte1 pt.summary.validSamples ++ optionBytes 4 (signedBytes 4) pt.summary.minNet
    ++ optionBytes 4 byte4 pt.summary.loopDelay
    ++ optionBytes 2 (fun t : Nat × Nat => byte1 t.1 ++ byte1 t.2) pt.summary.trims
    ++ optionBytes 3 (fun k : Fin 8 × Nat => byte1 k.1.val ++ byte2 k.2) pt.summary.kind
    ++ flagByte pt.burst.running ++ byte1 pt.burst.requested ++ byte1 pt.burst.answered

/-- The whole view of a port, its parts in the order of R186. A field that two parts name is sent once, at its first place (R197);
the view then fits one reply frame (R186; log entry 52). -/
def Port.view (label : Option (List Byte)) (pt : Port) : List Byte :=
  pt.portPart label ++ pt.verdict.bytes ++ pt.neighbor.viewBytes
    ++ allLanes.flatMap (fun l => laneBytes (pt.lane l) (pt.dlane l))
    ++ pt.deskew.bytes ++ pt.rangingPart

/-- PORT_STATUS (R186). -/
def State.takePortStatus (s : State) (payload : List Byte) : Taken :=
  match portOf (byteAt payload 0) with
  | none => refuse s .argRange
  | some p => takes s .ok ((s.port p).view (s.expected p).base.label)

/-! ## NEIGHBOR_READ (R187) -/

/-- NEIGHBOR_READ (R187): start and count. -/
def State.takeNeighborRead (s : State) (payload : List Byte) : Taken :=
  let start := (byteAt payload 0).toNat
  let count := (byteAt payload 1).toNat
  if 31 < start then refuse s .argRange
  else
    let n := fitCount start count 32
    takes s (okStatus (decide (n ≠ count)))
      (recordBytes 1 (portRange start n fun p => byte1 p.val ++ (s.port p).neighbor.bytes))

/-! ## FIND (R188 to R190) -/

/-- FIND selectors (Table 10-1). -/
inductive Selector where
  | state | verdictClass | primaryCode | peerChassis | peerPort | flags | retryCount
deriving DecidableEq, Repr

def selectorOf (b : Byte) : Option Selector :=
  match b.toNat with
  | 0 => some .state
  | 1 => some .verdictClass
  | 2 => some .primaryCode
  | 3 => some .peerChassis
  | 4 => some .peerPort
  | 5 => some .flags
  | 6 => some .retryCount
  | _ => none

/-- FIND comparisons (R188). -/
inductive Comparison where
  | eq | ne | lt | ge | anySet | noneSet
deriving DecidableEq, Repr

def comparisonOf (b : Byte) : Option Comparison :=
  match b.toNat with
  | 0 => some .eq
  | 1 => some .ne
  | 2 => some .lt
  | 3 => some .ge
  | 4 => some .anySet
  | 5 => some .noneSet
  | _ => none

/-- The value of a port under a selector; none for the peer of an EMPTY record, which never matches (R189). -/
def Port.selectValue (sel : Selector) (pt : Port) : Option Nat :=
  match sel with
  | .state => some pt.state.name.code
  | .verdictClass => some pt.verdict.cls.code
  | .primaryCode => some (primaryNumber pt.verdict.codes.head?)
  | .peerChassis => pt.neighbor.identity.map fun i => i.chassis.toNat
  | .peerPort => pt.neighbor.identity.map fun i => i.port.val
  | .flags => some pt.flags.toNat
  | .retryCount => some pt.retryCount

/-- Whether a value shares a set bit with the key, or for a selector of membership is a set bit of it (R189). -/
def sharesBit (sel : Selector) (value : Nat) (key : BitVec 48) : Bool :=
  match sel with
  | .flags | .retryCount | .peerChassis => decide (BitVec.ofNat 48 value &&& key ≠ 0)
  | .state | .verdictClass | .primaryCode | .peerPort => key.getLsbD value

/-- A port's value meets the comparison against the key (R189). -/
def meets (sel : Selector) (cmp : Comparison) (key : BitVec 48) (value : Nat) : Bool :=
  match cmp with
  | .eq => decide (value = key.toNat)
  | .ne => decide (value ≠ key.toNat)
  | .lt => decide (value < key.toNat)
  | .ge => decide (key.toNat ≤ value)
  | .anySet => sharesBit sel value key
  | .noneSet => !sharesBit sel value key

/-- A port matches. -/
def Port.matchesKey (sel : Selector) (cmp : Comparison) (key : BitVec 48) (pt : Port) : Bool :=
  match pt.selectValue sel with
  | some v => meets sel cmp key v
  | none => false

/-- The ports of a walk in order: from the start in the direction given, to the end of the range (R190). -/
def walk (start : Fin 32) (up : Bool) : List (Fin 32) :=
  if up then allPorts.drop start.val else (allPorts.take (start.val + 1)).reverse

/-- The port after one in a direction, if it lies in 0 to 31. -/
def nextPort (up : Bool) (p : Fin 32) : Option Nat :=
  if up then (if p.val < 31 then some (p.val + 1) else none)
  else if 0 < p.val then some (p.val - 1) else none

/-- The outcome of a search: the found port, the number examined, and the next port. -/
structure Search where
  found : Option (Fin 32)
  examined : Nat
  next : Option Nat
deriving DecidableEq, Repr

/-- The search over the ports to examine (R190): it stops at the first match. -/
def search (test : Fin 32 → Bool) (up : Bool) : Nat → List (Fin 32) → Search
  | n, [] => ⟨none, n, none⟩
  | n, [p] => ⟨if test p then some p else none, n + 1, nextPort up p⟩
  | n, p :: q :: rest => if test p then ⟨some p, n + 1, nextPort up p⟩ else search test up (n + 1) (q :: rest)

def Search.bytes (r : Search) : List Byte :=
  flagByte r.found.isSome
    ++ byte1 (match r.found with
        | some p => p.val
        | none => 0)
    ++ byte1 r.examined ++ optionBytes 1 byte1 r.next

/-- FIND (R188): start, direction (UP 0, DOWN 1), limit, selector, comparison, key. -/
def State.takeFind (s : State) (payload : List Byte) : Taken :=
  let direction := byteAt payload 1
  let limit := (byteAt payload 2).toNat
  let key := BitVec.ofNat 48 (numberAt payload 5 6)
  match portOf (byteAt payload 0) with
  | none => refuse s .argRange
  | some start =>
    if 1 < direction.toNat then refuse s .argRange
    else match selectorOf (byteAt payload 3), comparisonOf (byteAt payload 4) with
      | some sel, some cmp =>
        let n := clampTo 1 32 limit
        let up := decide (direction = 0)
        takes s (okStatus (decide (n ≠ limit)))
          (search (fun p => (s.port p).matchesKey sel cmp key) up 0 ((walk start up).take n)).bytes
      | _, _ => refuse s .argRange

/-! ## COUNTERS (R192) -/

/-- The nine counters in the order of Table 10-2. -/
def Counters.values (c : Counters) : List Nat :=
  [c.attempts, c.successes, c.linkLosses, c.stageTimeouts, c.validFrames, c.rejectedFrames, c.peerRestarts,
    c.polarityCorrections, c.measurements]

/-- COUNTERS (R192): port and clear flag; port 255 addresses the device frame-error counter. -/
def State.takeCounters (s : State) (payload : List Byte) : Taken :=
  let port := byteAt payload 0
  let flag := byteAt payload 1
  if 1 < flag.toNat then refuse s .argRange
  else match portOf port with
    | some p =>
      takes (if flag = 1 then s.modPort p fun pt => { pt with counters := Counters.reset } else s) .ok
        ([port, flag] ++ (s.port p).counters.values.flatMap byte4)
    | none =>
      if port = 0xFF then
        takes (if flag = 1 then { s with frameErrors := 0 } else s) .ok ([port, flag] ++ byte4 s.frameErrors)
      else refuse s .argRange

end Sys2Proof.Machine
end

