-- ==== Sys2Proof/Machine/Mli.lean ====
section
/-! DEFINITION. The Management Link Interface (chapter 9): the inbound framer, the request queue, dispatch, and the outbound
arbiter. -/

namespace Sys2Proof.Machine

/-! ## Dispatch (R176, R177) -/

/-- The request kinds (Table 11-2). -/
def isRequestKind (kind : Byte) : Bool := decide (1 ≤ kind.toNat) && decide (kind.toNat ≤ 0x17)

/-- The payload lengths allowed for a request kind (Table 11-2). -/
def lengthAllowed (kind : Byte) (n : Nat) : Bool :=
  match kind.toNat with
  | 0x01 => decide (n = 1)
  | 0x02 => decide (n = 2 ∨ n = 39)
  | 0x03 => decide (n = 2 ∨ n = 11)
  | 0x04 => decide (n = 2)
  | 0x05 => decide (n = 3)
  | 0x06 => decide (n = 6)
  | 0x07 => decide (n = 4)
  | 0x08 => decide (n = 4)
  | 0x09 => decide (n = 3)
  | 0x0A => decide (n = 6)
  | 0x0B => decide (n = 17)
  | 0x0C => decide (n = 1)
  | 0x0D => decide (n = 3)
  | 0x0E => decide (n = 3)
  | 0x0F => decide (n = 0)
  | 0x10 => decide (n % 7 = 0 ∧ 7 ≤ n ∧ n ≤ 210)
  | 0x11 => decide (n ≤ 30)
  | 0x12 => decide (n = 0)
  | 0x13 => decide (n = 2)
  | 0x14 => decide (n = 1)
  | 0x15 => decide (n = 2)
  | 0x16 => decide (n = 11)
  | 0x17 => decide (n = 2)
  | _ => false

/-- The block that owns a request kind takes it (R176, item 3). -/
def State.own (s : State) (kind : Byte) (payload : List Byte) : Taken :=
  match kind.toNat with
  | 0x01 => s.takePlanBegin payload
  | 0x02 => s.takePlanEntry payload
  | 0x03 => s.takePlanOverride payload
  | 0x04 => s.takePlanEnd payload
  | 0x05 => s.takePlanRead payload
  | 0x06 => s.takePortControl payload
  | 0x07 => s.takePortRestart payload
  | 0x08 => s.takePortRelease payload
  | 0x09 => s.takeLaneEq payload
  | 0x0A => s.takeMonitorSetup payload
  | 0x0B => s.takeMonitorScan payload
  | 0x0C => s.takeMonitorCancel payload
  | 0x0D => s.takeMonitorRead payload
  | 0x0E => s.takePortTrim payload
  | 0x0F => s.takeIdentify
  | 0x10 => s.takeConfigSet payload
  | 0x11 => s.takeConfigGet payload
  | 0x12 => s.takeDeviceReset
  | 0x13 => s.takeNoticeControl payload
  | 0x14 => s.takePortStatus payload
  | 0x15 => s.takeNeighborRead payload
  | 0x16 => s.takeFind payload
  | 0x17 => s.takeCounters payload
  | _ => refuse s .unknownKind

/-- A dispatched frame: unknown kind, then bad length, then the owning block (R176). -/
def State.answer (s : State) (f : Frame) : Taken :=
  if !isRequestKind f.kind then refuse s .unknownKind
  else if !lengthAllowed f.kind f.payload.length then refuse s .badLength
  else s.own f.kind f.payload

/-- The kind of a reply (R177). -/
def replyKind (kind : Byte) (st : Status) : Byte := if st = .unknownKind then 0xFF else kind + 0x80

/-- The reply to a dispatched frame: its tag, its kind, and the status first in the payload (R177). -/
def replyTo (f : Frame) (a : Answer) : Reply where
  frame := { tag := f.tag, kind := replyKind f.kind a.status, payload := a.payload }
  refusal := false
  reset := a.reset

/-- The QUEUE_FULL reply given at an arrival (R175). The kind it carries for a frame of no request kind is open (log
entry 32). -/
def queueFullReply (f : Frame) : Reply where
  frame :=
    { tag := f.tag
      kind := if isRequestKind f.kind then f.kind + 0x80 else Config.queueFullKind f.kind
      payload := [Status.queueFull.code] }
  refusal := true
  reset := false

/-- The three conditions of a dispatch (R176). -/
def State.dispatchable (s : State) : Bool :=
  !s.mli.queue.isEmpty && s.mli.replies.all (·.refusal) && !s.mli.resetPending

/-- The dispatch of the head request: it is taken, its event concludes, and its reply joins the reply list at the same event
(R176). -/
def State.dispatch (s : State) : State :=
  match s.mli.queue with
  | [] => s
  | f :: rest =>
    let s := s.modMli fun m => { m with queue := rest }
    let t := s.answer f
    (s.conclude t.state [] t.notices).modMli fun m =>
      { m with
        replies := m.replies ++ [replyTo f t.answer]
        resetPending := m.resetPending || t.answer.reset }

def State.tryDispatch (s : State) : State := if s.dispatchable then s.dispatch else s

/-- After an arrival or the end of a frame: a dispatch if one is due, the start of a frame, and the dispatch that the start of a
reply allows (R176, R178). -/
def State.settle (s : State) : State := s.tryDispatch.startOutbound.tryDispatch

/-! ## Arrival and the end of a frame (R175, R178, R184) -/

/-- The QUEUE_FULL replies waiting. -/
def Mli.refusals (m : Mli) : Nat := (m.replies.filter (·.refusal)).length

/-- A well-formed frame arrives (R175). -/
def State.arrive (s : State) (f : Frame) : State :=
  if s.mli.queue.length < 4 then (s.modMli fun m => { m with queue := m.queue ++ [f] }).settle
  else if s.mli.refusals < 4 then (s.modMli fun m => { m with replies := m.replies ++ [queueFullReply f] }).settle
  else s.countFrameError

/-- The transmitter ends its frame; if that is the DEVICE_RESET reply, the reset is taken (R178, R184). An idle transmitter
ends none. -/
def State.frameSent (s : State) : State :=
  match s.mli.sending with
  | none => s
  | some o => if o.reset then s.deviceReset else (s.modMli fun m => { m with sending := none }).settle

/-! ## The framer (R173, R174) -/

/-- The framer returns to HUNTING with its gap timer stopped. -/
def State.hunt (s : State) : State := s.modMli fun m => { m with framer := .hunting, gapTimer := .stopped }

/-- A discard: back to HUNTING, and counted. -/
def State.discard (s : State) : State := s.hunt.countFrameError

/-- The framer holds these bytes after the start byte; its gap timer is armed at the end of a byte. -/
def State.collect (s : State) (bytes : List Byte) : State :=
  s.modMli fun m => { m with framer := .collecting bytes, gapTimer := .running Config.gapTime }

/-- The length a frame's bytes must reach: length byte, tag, kind and payload, and two CRC bytes. -/
def frameSize (length : Byte) : Nat := length.toNat + 3

/-- The frame in a whole set of bytes, if its CRC checks. -/
def checkedFrame (bytes : List Byte) : Option Frame :=
  let body := bytes.take (bytes.length - 2)
  if numberAt bytes (bytes.length - 2) 2 = (crc16 body).toNat then
    some { tag := byteAt body 1, kind := byteAt body 2, payload := body.drop 3 }
  else none

/-- A byte of a frame, with the bytes collected so far and this one (R173). -/
def State.takeBytes (s : State) (bytes : List Byte) : State :=
  match bytes with
  | [] => s
  | length :: _ =>
    if length.toNat < 2 ∨ 250 < length.toNat then s.discard
    else if bytes.length < frameSize length then s.collect bytes
    else match checkedFrame bytes with
      | some f => s.hunt.arrive f
      | none => s.discard

/-- A received byte (R173): in HUNTING only a start byte with its stop bit high is taken. -/
def State.receiveByte (s : State) (b : Byte) (stopHigh : Bool) : State :=
  match s.mli.framer with
  | .hunting => if b = 0xA6 ∧ stopHigh then s.collect [] else s
  | .collecting bytes => if stopHigh then s.takeBytes (bytes ++ [b]) else s.discard

/-- A discard of the frame being collected; nothing to discard in HUNTING. -/
def State.discardCollected (s : State) : State :=
  match s.mli.framer with
  | .hunting => s
  | .collecting _ => s.discard

/-- The gap timer's expiry (R173). -/
def State.gapExpired (s : State) : State := if s.mli.gapTimer.isRunning then s.discardCollected else s

end Sys2Proof.Machine
end

