-- ==== Sys2Proof/Machine/LinkCommands.lean ====
section
/-! DEFINITION. The meanings of the commands at the management link and the reset pin (chapter 9 and R199). -/

namespace Sys2Proof.Machine

/-- The outcome of a command: the part goes on. -/
abbrev Outcome := Host.Outcome State Fault Refusal

/-- POWER_ON_RESET (R199). -/
def execPowerOnReset (s : State) : Outcome := .next s.powerOnReset

/-- A whole well-formed frame ends: the framer is HUNTING again and the frame arrives (R173, R175; log entry 5). -/
def State.takeWhole (s : State) (f : Frame) : State := s.hunt.arrive f

/-- MANAGEMENT_FRAME_ARRIVAL (R175, R176). -/
def execManagementFrameArrival (tag kind : Byte) (payload : List Byte) (s : State) : Outcome :=
  .next (s.takeWhole ⟨tag, kind, payload⟩)

/-- MANAGEMENT_FRAME_ERROR (R173): the frame being collected is discarded and counted. -/
def execManagementFrameError (s : State) : Outcome := .next s.discardCollected

/-- FRAMER_GAP_TIMEOUT (R173). -/
def execFramerGapTimeout (s : State) : Outcome := .next s.gapExpired

/-- LINE_BREAK (R174): the framer returns to HUNTING, nothing is counted. -/
def execLineBreak (s : State) : Outcome := .next s.hunt

/-- MANAGEMENT_FRAME_SENT (R178, R184). -/
def execManagementFrameSent (s : State) : Outcome := .next s.frameSent

/-- MANAGEMENT_BYTE_RECEIVED (R173). -/
def execManagementByteReceived (byte : Byte) (stopHigh : Bool) (s : State) : Outcome :=
  .next (s.receiveByte byte stopHigh)

end Sys2Proof.Machine
end

