-- ==== Sys2Proof/Machine/PortCommands.lean ====
section
/-! DEFINITION. The meanings of the events at a port: its presence pin, its timers and its sideband line (chapters 2, 3 and
7). An event that cannot occur in the state (a timer that does not run, a transmitter that sends nothing) changes nothing
(log entry 3). -/

namespace Sys2Proof.Machine

/-- The end of an event that is no request: the verdicts it starts, its conclusion, and the outbound transmitter. -/
def State.event (before after : State) : State := before.finish (after.verdicts before fun _ => false) [] []

/-! ## Presence (R26 to R28) -/

/-- The raw level changes (R26): a level that differs from the debounced presence arms the timer unless it runs, a level equal
to it stops the timer. -/
def Port.rawChange (pr : Params) (low : Bool) (pt : Port) : Port :=
  { pt with
    rawPresent := low
    debounce :=
      if low = pt.present then .stopped
      else if pt.debounce.isRunning then pt.debounce
      else armMs pr.presenceDebounce }

/-- PRESENT_N_CHANGE (R26). -/
def execPresentNChange (port : Fin 32) (low : Bool) (s : State) : Outcome :=
  .next (s.event (s.modPort port (Port.rawChange s.params low)))

/-- Whether the debounce timer's expiry settles the presence at `present` now (R26). -/
def Port.settles (present : Bool) (pt : Port) : Bool :=
  pt.debounce.isRunning && decide (pt.rawPresent = present) && decide (pt.present ≠ present)

/-- The debounced presence takes the new level. -/
def Port.settlePresence (present : Bool) (pt : Port) : Port := { pt with debounce := .stopped, present := present }

/-- PRESENCE_SETTLED_ASSERTED (R27). -/
def execPresenceSettledAsserted (port : Fin 32) (s : State) : Outcome :=
  if (s.port port).settles true then
    .next (s.event (s.modPort port fun pt =>
      let pt := pt.settlePresence true
      if pt.state = .waitCable then pt.seat s.params else pt))
  else .next s

/-- PRESENCE_SETTLED_DEASSERTED (R28). -/
def execPresenceSettledDeasserted (port : Fin 32) (s : State) : Outcome :=
  if (s.port port).settles false then
    let t := s.modPort port (Port.settlePresence false)
    .next (s.event (if (s.port port).state.sending then t.remove port else t))
  else .next s

/-! ## Stage, backoff and silence timers (R42, R43, R47, R69) -/

/-- The stage timer's expiry (R42): the failure STAGE_TIMEOUT with the stage code of SIDEBAND, ALIGN or VERIFY. -/
def State.stageExpired (s : State) (p : Fin 32) : State :=
  let t := s.modPort p Port.countStageTimeout
  match (s.port p).state with
  | .sideband => t.fail p .stageTimeout 1 none
  | .align => t.fail p .stageTimeout 3 none
  | .verify _ => t.fail p .stageTimeout 4 none
  | .disabled | .waitCable | .laneLock | .held _ _ | .active | .backoff | .fault => s

/-- STAGE_TIMER_EXPIRY (R42). -/
def execStageTimerExpiry (port : Fin 32) (s : State) : Outcome :=
  if (s.port port).stageTimer.isRunning then .next (s.event (s.stageExpired port)) else .next s

/-- BACKOFF_TIMER_EXPIRY (R47): SIDEBAND with a new attempt number, the retry count kept. -/
def execBackoffTimerExpiry (port : Fin 32) (s : State) : Outcome :=
  if (s.port port).backoffTimer.isRunning ∧ (s.port port).state = .backoff then
    .next (s.event (s.modPort port fun pt => Port.enterSideband s.params { pt with backoffTimer := .stopped }))
  else .next s

/-- SILENCE_TIMER_EXPIRY (R43, R69): PEER_LOST in the engaged states, no change of state in the others. -/
def execSilenceTimerExpiry (port : Fin 32) (s : State) : Outcome :=
  if (s.port port).silence.isRunning then
    let t := s.modPort port fun pt => { pt with silence := .stopped }
    .next (s.event
      (if (s.port port).state.engaged then t.fail port .peerLost (s.port port).state.stageCode none else t))
  else .next s

/-! ## Sideband transmission (R62 to R64) -/

/-- BEACON_TIMER_EXPIRY (R62): a beacon waits. -/
def execBeaconTimerExpiry (port : Fin 32) (s : State) : Outcome :=
  if (s.port port).tx.beaconTimer.isRunning then
    .next (s.event (s.modPort port fun pt =>
      { pt with tx := { pt.tx with beaconTimer := .stopped, beaconWaiting := true } }))
  else .next s

/-- SIDEBAND_FRAME_END (R63, R64): the transmitter is free, and starts what waits. -/
def execSidebandFrameEnd (port : Fin 32) (s : State) : Outcome :=
  .next (s.event (s.modPort port (Port.endFrame s.timestamp)))

/-! ## Sideband reception (R65, R66, R68) -/

/-- SYNC_SEQUENCE_FOUND (R60, R66): a hunting receiver collects 32 bytes from here, and the time is stamped (R68). -/
def execSyncSequenceFound (port : Fin 32) (s : State) : Outcome :=
  .next (s.event (s.modPort port (Port.findSync s.timestamp)))

/-- BEACON_RECEIVED (R68). -/
def execBeaconReceived (port : Fin 32) (frame : SidebandFrame) (s : State) : Outcome :=
  .next (s.finish (s.receive port frame fun _ t => t) [] [])

/-- PROBE_RECEIVED (R65): taken like every frame, and an echo slot is occupied. -/
def execProbeReceived (port : Fin 32) (frame : SidebandFrame) (s : State) : Outcome :=
  .next (s.finish (s.receive port frame fun _ t => t.modPort port (Port.placeEcho s.timestamp frame)) [] [])

/-- ECHO_RECEIVED (R144): taken like every frame, and handed to the Ranging Unit with T4, the timestamp when the first bit after its
sync sequence passed (R68, R139; log entry 9). -/
def execEchoReceived (port : Fin 32) (frame : SidebandFrame) (lag : Fin 126) (s : State) : Outcome :=
  .next (s.finish (s.receive port frame fun found t => t.matchEcho port frame (echoStamp found lag)) [] [])

/-- SIDEBAND_FRAME_REJECTED (R66): counted, and no other effect. -/
def execSidebandFrameRejected (port : Fin 32) (s : State) : Outcome :=
  .next (s.event (s.modPort port fun pt => if pt.collectingFrame.isSome then pt.reject else pt))

/-! ## Ranging timers (R143, R144) -/

/-- SCHEDULE_TIMER_EXPIRY (R143): the next probe of the burst that runs in RANGING is requested. -/
def execScheduleTimerExpiry (port : Fin 32) (s : State) : Outcome :=
  if (s.port port).state = .verify .ranging ∧ (s.port port).burst.schedule.isRunning then
    .next (s.event (s.modPort port Port.requestProbe))
  else .next s

/-- PROBE_TIMEOUT_EXPIRY (R144, R145). -/
def execProbeTimeoutExpiry (port : Fin 32) (probe : Fin 8) (s : State) : Outcome :=
  let pr := (s.port port).burst.probes.get probe
  if pr.status = .outstanding ∧ pr.timeout.isRunning then
    let t := s.modPort port fun pt => { pt with burst := pt.burst.timeOut probe }
    .next (s.event (t.checkBurst port))
  else .next s

end Sys2Proof.Machine
end

