-- ==== Sys2Proof/Machine/LaneCommands.lean ====
section
/-! DEFINITION. The meanings of the events at a lane, at the monitor engine and at a Deskew Unit (chapters 4 to 6). -/

namespace Sys2Proof.Machine

/-! ## Lock and search (R82 to R84, R109) -/

/-- An event after which the arbiter selects if the engine is free (R109): the jobs that complete hand MONITOR_DONE. -/
def State.eventSelecting (before after : State) (limits : List Notice) : State :=
  let sel := after.select
  before.finish (sel.state.verdicts before fun _ => false) limits (doneNotices sel.done)

/-- Lock acquired in LOCKING: the search starts, and places its first step unless an abandoned measurement is still in
service (R82, R83, R92). -/
def State.acquireLock (s : State) (p : Fin 32) (l : Fin 4) : State :=
  let s := s.modPort p fun pt => pt.modLane l (Lane.startSearch s.params)
  if ((s.port p).lane l).marker = .none then s.placeStep p l else s

/-- LOCK_ACQUIRED (R82). -/
def execLockAcquired (port : Fin 32) (lane : Fin 4) (s : State) : Outcome :=
  if ((s.port port).lane lane).state = .locking then
    .next (s.eventSelecting (s.acquireLock port lane) [])
  else .next s

/-- LOCK_TIMER_EXPIRY (R82). -/
def execLockTimerExpiry (port : Fin 32) (lane : Fin 4) (s : State) : Outcome :=
  if ((s.port port).lane lane).state = .locking ∧ ((s.port port).lane lane).lockTimer.isRunning then
    .next (s.event ((s.modPort port fun pt => pt.modLane lane Lane.lockTimeout).examineLanes port))
  else .next s

/-! ## Measurements (R101, R104, R110) -/

/-- Step 4 of a completion: a bring-up result is delivered or dropped, and the PBE sees the lane's result; a scan result counts
towards its job. -/
def State.handOn (s : State) (m : Measurement) (v : Nat) : State :=
  match m.source with
  | .bringUp attempt => (s.deliver (lanePort m.lane) (lanePhysical m.lane) attempt v).examineLanes (lanePort m.lane)
  | .scan job => s.withMonitor { s.monitor with jobs := countMade job s.monitor.jobs }

/-- The LANE_LIMIT notice of a scan result outside its limits (R110). -/
def limitNotices (m : Measurement) (status : LimitStatus) : List Notice :=
  match m.source, status with
  | .scan _, .below | .scan _, .above =>
    [.laneLimit (lanePort m.lane) (1#4 <<< (lanePhysical m.lane).val) 0]
  | .scan _, .within | .bringUp _, _ => []

/-- The completion of the measurement in service (R101), up to the selection. -/
def State.completeMeasurement (s : State) (m : Measurement) (v : Nat) : State :=
  let t := (s.writeResult m v).handOn m v
  t.withMonitor { t.monitor with engine := none }

/-- MEASUREMENT_COMPLETE (R101); a free engine completes none. -/
def execMeasurementComplete (raw : BitVec 10) (s : State) : Outcome :=
  match s.monitor.engine with
  | none => .next s
  | some m =>
    let setup := s.monitor.setups.get m.lane
    let v := correctedValue raw.toNat setup
    .next (s.eventSelecting (s.completeMeasurement m v) (limitNotices m (limitStatus v setup)))

/-! ## Markers and collections (R118 to R124) -/

/-- The marker wait ends once every participating lane has seen a marker (R119). -/
def State.checkSeen (s : State) (p : Fin 32) : State :=
  let pt := s.port p
  if pt.deskew.phase = .markerWait ∧ pt.allSeen ∧ !pt.noneGood then s.modPort p Port.endMarkerWait else s

/-- MARKER_DECODED (R118 to R122): decoders run while the port is in ALIGN. -/
def execMarkerDecoded (port : Fin 32) (lane : Fin 4) (lineInverted : Bool) (logical : Fin 4) (sequence : Fin 16)
    (age : BitVec 16) (s : State) : Outcome :=
  let pt := s.port port
  if pt.state = .align then
    .next (s.event ((s.modPort port
      (Port.takeMarker lane (pt.arrivesInverted lane lineInverted) logical sequence (pt.markerStamp age))).checkSeen port))
  else .next s

/-- The end of the marker wait by its 16 periods (R119). -/
def State.endWait (s : State) (p : Fin 32) : State :=
  let t := s.modPort p Port.dropUnseen
  if (t.port p).noneCollecting then t.noMarkers p else t.modPort p Port.endMarkerWait

/-- MARKER_WAIT_EXPIRY (R119): of the wait of an alignment, which is made in ALIGN alone. -/
def execMarkerWaitExpiry (port : Fin 32) (s : State) : Outcome :=
  let d := (s.port port).deskew
  if (s.port port).state = .align ∧ d.phase = .markerWait ∧ d.waitTimer.isRunning then .next (s.event (s.endWait port)) else .next s

/-- A close, and ALIGN completed when it fixes the mask (R124, R131). -/
def State.closeAt (s : State) (p : Fin 32) : State :=
  let t := s.modPort p (Port.closeCollection (s.expected p).base)
  if (t.port p).deskew.phase = .fixed then t.completeAlign p else t

/-- COLLECTION_CLOSE (R122, R124). -/
def execCollectionClose (port : Fin 32) (s : State) : Outcome :=
  let d := (s.port port).deskew
  if (s.port port).state = .align ∧ d.phase = .collecting ∧ d.closeTimer.isRunning then .next (s.event (s.closeAt port)) else .next s

/-! ## Loss of lock (R92 to R94, R125, R133, R134) -/

/-- In LANE_LOCK (R92): each lane re-locks or fails, its waiting request withdrawn. -/
def State.loseInLaneLock (s : State) (p : Fin 32) (lost : Fin 4 → Bool) : State :=
  let searching := fun l => lost l && decide (((s.port p).lane l).state = .searching)
  let t := s.modPort p fun pt =>
    { pt with lanes := pt.lanes.mapFin fun l ln => if lost l then ln.loseLockInLaneLock s.params else ln }
  (allLanes.foldl (fun t l => if searching l then t.withdrawLane (globalLane p l) else t) t).examineLanes p

/-- In ALIGN (R93, R125): the lanes are dropped from the alignment in progress. -/
def State.loseInAlign (s : State) (p : Fin 32) (lost : Fin 4 → Bool) : State :=
  let t := s.modPort p fun pt => (pt.dropLostLanes lost).failLostLanes lost
  match (t.port p).deskew.phase with
  | .markerWait => if (t.port p).noneGood then t.noMarkers p else t.checkSeen p
  | .collecting =>
    if (t.port p).noneCollecting then t.noMarkers p else t.modPort p (Port.replaceReference lost)
  | .idle | .fixed => t

/-- After the mask is fixed (R133, R134): a lost kept lane realigns the port, another lost lane only fails. -/
def State.loseFixed (s : State) (p : Fin 32) (lost : Fin 4 → Bool) : State :=
  let pt := s.port p
  if allLanes.any fun l => lost l && pt.keptLane l then s.realign p lost
  else s.modPort p fun pt => (pt.markLostLanes lost).failLostLanes lost

/-- In ACTIVE (R94): LANE_LOST with the lowest kept lane lost, or the failure of spare lanes alone. -/
def State.loseActive (s : State) (p : Fin 32) (lost : Fin 4 → Bool) : State :=
  let pt := s.port p
  let t := s.modPort p fun pt => (pt.markLostLanes lost).failLostLanes lost
  match allLanes.find? fun l => lost l && pt.keptLane l with
  | some l => t.fail p .laneLost 5 (some l)
  | none => t

/-- Loss of lock by the lanes of a mask, by port state; it reaches only lanes whose receiver is in use. -/
def State.loseLock (s : State) (p : Fin 32) (lanes : BitVec 4) : State :=
  let pt := s.port p
  let lost := fun l : Fin 4 => lanes.getLsbD l.val && pt.good l
  match pt.state with
  | .laneLock => s.loseInLaneLock p fun l => lanes.getLsbD l.val
  | .align => s.loseInAlign p lost
  | .verify _ | .held .align _ | .held .verify _ => s.loseFixed p lost
  | .active => s.loseActive p lost
  | .disabled | .waitCable | .sideband | .held .sideband _ | .backoff | .fault => s

/-- LOSS_OF_LOCK (R92 to R94). -/
def execLossOfLock (port : Fin 32) (lanes : BitVec 4) (s : State) : Outcome :=
  .next (s.event (s.loseLock port lanes))

end Sys2Proof.Machine
end

