-- ==== Sys2Proof/Machine/RequestCommands.lean ====
section
/-! DEFINITION. The meanings of the request commands: each is the arrival of that request's well-formed frame (R175), laid out
by R197 and Table 11-2, and so is taken at its dispatch (R176; log entry 4). -/

namespace Sys2Proof.Machine

/-- PLAN_BEGIN (R11): mode. -/
def execPlanBegin (tag mode : Byte) (s : State) : Outcome := .next (s.takeWhole ⟨tag, 0x01, [mode]⟩)

/-- PLAN_ENTRY (R13) with an entry: address, action 1, entry. -/
def execPlanEntry (tag address : Byte) (entry : RawPlanEntry) (s : State) : Outcome :=
  .next (s.takeWhole ⟨tag, 0x02, address :: 1 :: rawEntryBytes entry⟩)

/-- PLAN_ENTRY (R13) with "clear": address, action 0. -/
def execPlanEntryClear (tag address : Byte) (s : State) : Outcome := .next (s.takeWhole ⟨tag, 0x02, [address, 0]⟩)

/-- PLAN_OVERRIDE APPEND (R4, R5): operation 0 and the override. -/
def execPlanOverrideAppend (tag : Byte) (fields : RawOverride) (s : State) : Outcome :=
  .next (s.takeWhole ⟨tag, 0x03, 0 :: rawOverrideBytes fields⟩)

/-- PLAN_OVERRIDE DELETE (R6): operation 1 and a position. -/
def execPlanOverrideDelete (tag position : Byte) (s : State) : Outcome :=
  .next (s.takeWhole ⟨tag, 0x03, [1, position]⟩)

/-- PLAN_END (R14): generation. -/
def execPlanEnd (tag : Byte) (generation : BitVec 16) (s : State) : Outcome :=
  .next (s.takeWhole ⟨tag, 0x04, byte2 generation.toNat⟩)

/-- PLAN_READ ENTRIES (R21): selector 0. -/
def execPlanReadEntries (tag start count : Byte) (s : State) : Outcome :=
  .next (s.takeWhole ⟨tag, 0x05, [0, start, count]⟩)

/-- PLAN_READ EFFECTIVE (R21): selector 1. -/
def execPlanReadEffective (tag start count : Byte) (s : State) : Outcome :=
  .next (s.takeWhole ⟨tag, 0x05, [1, start, count]⟩)

/-- PLAN_READ OVERRIDES (R21): selector 2. -/
def execPlanReadOverrides (tag start count : Byte) (s : State) : Outcome :=
  .next (s.takeWhole ⟨tag, 0x05, [2, start, count]⟩)

/-- PORT_CONTROL (R54): port mask, clear mask, set mask. -/
def execPortControl (tag : Byte) (ports : BitVec 32) (clear set : Byte) (s : State) : Outcome :=
  .next (s.takeWhole ⟨tag, 0x06, byte4 ports.toNat ++ [clear, set]⟩)

/-- PORT_RESTART (R57). -/
def execPortRestart (tag : Byte) (ports : BitVec 32) (s : State) : Outcome :=
  .next (s.takeWhole ⟨tag, 0x07, byte4 ports.toNat⟩)

/-- PORT_RELEASE (R53). -/
def execPortRelease (tag : Byte) (ports : BitVec 32) (s : State) : Outcome :=
  .next (s.takeWhole ⟨tag, 0x08, byte4 ports.toNat⟩)

/-- LANE_EQ (R96) with a setting: action 0 (log entry 17). -/
def execLaneEq (tag lane setting : Byte) (s : State) : Outcome := .next (s.takeWhole ⟨tag, 0x09, [lane, 0, setting]⟩)

/-- LANE_EQ (R96) with "clear": action 1. -/
def execLaneEqClear (tag lane : Byte) (s : State) : Outcome := .next (s.takeWhole ⟨tag, 0x09, [lane, 1, 0]⟩)

/-- MONITOR_SETUP (R112): lane, offset, low limit, high limit. -/
def execMonitorSetup (tag lane offset : Byte) (low high : BitVec 16) (s : State) : Outcome :=
  .next (s.takeWhole ⟨tag, 0x0A, [lane, offset] ++ byte2 low.toNat ++ byte2 high.toNat⟩)

/-- MONITOR_SCAN (R107): lane mask and pass count. -/
def execMonitorScan (tag : Byte) (lanes : BitVec 128) (passes : Byte) (s : State) : Outcome :=
  .next (s.takeWhole ⟨tag, 0x0B, numberBytes 16 lanes.toNat ++ [passes]⟩)

/-- MONITOR_CANCEL (R108). -/
def execMonitorCancel (tag job : Byte) (s : State) : Outcome := .next (s.takeWhole ⟨tag, 0x0C, [job]⟩)

/-- MONITOR_READ RESULTS (R113): selector 0. -/
def execMonitorReadResults (tag start count : Byte) (s : State) : Outcome :=
  .next (s.takeWhole ⟨tag, 0x0D, [0, start, count]⟩)

/-- MONITOR_READ JOBS (R113): selector 1, its other two bytes 0. -/
def execMonitorReadJobs (tag : Byte) (s : State) : Outcome := .next (s.takeWhole ⟨tag, 0x0D, [1, 0, 0]⟩)

/-- PORT_TRIM (R140). -/
def execPortTrim (tag port : Byte) (trim : BitVec 16) (s : State) : Outcome :=
  .next (s.takeWhole ⟨tag, 0x0E, port :: byte2 trim.toNat⟩)

/-- IDENTIFY (R182). -/
def execIdentify (tag : Byte) (s : State) : Outcome := .next (s.takeWhole ⟨tag, 0x0F, []⟩)

/-- CONFIG_SET (R180). -/
def execConfigSet (tag : Byte) (pairs : List (Byte × BitVec 48)) (s : State) : Outcome :=
  .next (s.takeWhole ⟨tag, 0x10, pairs.flatMap pairBytes⟩)

/-- CONFIG_GET (R181). -/
def execConfigGet (tag : Byte) (ids : List Byte) (s : State) : Outcome := .next (s.takeWhole ⟨tag, 0x11, ids⟩)

/-- DEVICE_RESET (R184). -/
def execDeviceReset (tag : Byte) (s : State) : Outcome := .next (s.takeWhole ⟨tag, 0x12, []⟩)

/-- NOTICE_CONTROL (R183) ENABLE without flush. -/
def execNoticeControlEnable (tag : Byte) (s : State) : Outcome := .next (s.takeWhole ⟨tag, 0x13, [0, 0]⟩)

/-- NOTICE_CONTROL (R183) DISABLE without flush. -/
def execNoticeControlDisable (tag : Byte) (s : State) : Outcome := .next (s.takeWhole ⟨tag, 0x13, [1, 0]⟩)

/-- NOTICE_CONTROL (R183) KEEP without flush. -/
def execNoticeControlKeep (tag : Byte) (s : State) : Outcome := .next (s.takeWhole ⟨tag, 0x13, [2, 0]⟩)

/-- NOTICE_CONTROL (R183, R195) with the flush flag. -/
def execNoticeFlush (tag action : Byte) (s : State) : Outcome := .next (s.takeWhole ⟨tag, 0x13, [action, 1]⟩)

/-- PORT_STATUS (R186). -/
def execPortStatus (tag port : Byte) (s : State) : Outcome := .next (s.takeWhole ⟨tag, 0x14, [port]⟩)

/-- NEIGHBOR_READ (R187). -/
def execNeighborRead (tag start count : Byte) (s : State) : Outcome := .next (s.takeWhole ⟨tag, 0x15, [start, count]⟩)

/-- FIND (R188). -/
def execFind (tag start direction limit selector comparison : Byte) (key : BitVec 48) (s : State) : Outcome :=
  .next (s.takeWhole ⟨tag, 0x16, [start, direction, limit, selector, comparison] ++ byte6 key.toNat⟩)

/-- COUNTERS (R192) with the clear flag 0. -/
def execCounters (tag port : Byte) (s : State) : Outcome := .next (s.takeWhole ⟨tag, 0x17, [port, 0]⟩)

/-- COUNTERS (R192) with the clear flag 1. -/
def execCountersClear (tag port : Byte) (s : State) : Outcome := .next (s.takeWhole ⟨tag, 0x17, [port, 1]⟩)

end Sys2Proof.Machine
end

