-- ==== Sys2Proof/Machine/Dispatch.lean ====
section
/-! DEFINITION. One arm per command. -/

namespace Sys2Proof.Machine

def exec (i : Instr) (s : State) : Host.Outcome State Fault Refusal :=
  match i with
  | .powerOnReset => Sys2Proof.Machine.execPowerOnReset s
  | .managementFrameArrival tag kind payload => Sys2Proof.Machine.execManagementFrameArrival tag kind payload s
  | .managementFrameError => Sys2Proof.Machine.execManagementFrameError s
  | .framerGapTimeout => Sys2Proof.Machine.execFramerGapTimeout s
  | .lineBreak => Sys2Proof.Machine.execLineBreak s
  | .managementFrameSent => Sys2Proof.Machine.execManagementFrameSent s
  | .planBegin tag mode => Sys2Proof.Machine.execPlanBegin tag mode s
  | .planEntry tag address entry => Sys2Proof.Machine.execPlanEntry tag address entry s
  | .planEntryClear tag address => Sys2Proof.Machine.execPlanEntryClear tag address s
  | .planOverrideAppend tag fields => Sys2Proof.Machine.execPlanOverrideAppend tag fields s
  | .planOverrideDelete tag position => Sys2Proof.Machine.execPlanOverrideDelete tag position s
  | .planEnd tag generation => Sys2Proof.Machine.execPlanEnd tag generation s
  | .planReadEntries tag start count => Sys2Proof.Machine.execPlanReadEntries tag start count s
  | .planReadEffective tag start count => Sys2Proof.Machine.execPlanReadEffective tag start count s
  | .planReadOverrides tag start count => Sys2Proof.Machine.execPlanReadOverrides tag start count s
  | .portControl tag ports clear set => Sys2Proof.Machine.execPortControl tag ports clear set s
  | .portRestart tag ports => Sys2Proof.Machine.execPortRestart tag ports s
  | .portRelease tag ports => Sys2Proof.Machine.execPortRelease tag ports s
  | .laneEq tag lane setting => Sys2Proof.Machine.execLaneEq tag lane setting s
  | .laneEqClear tag lane => Sys2Proof.Machine.execLaneEqClear tag lane s
  | .monitorSetup tag lane offset low high => Sys2Proof.Machine.execMonitorSetup tag lane offset low high s
  | .monitorScan tag lanes passes => Sys2Proof.Machine.execMonitorScan tag lanes passes s
  | .monitorCancel tag job => Sys2Proof.Machine.execMonitorCancel tag job s
  | .monitorReadResults tag start count => Sys2Proof.Machine.execMonitorReadResults tag start count s
  | .monitorReadJobs tag => Sys2Proof.Machine.execMonitorReadJobs tag s
  | .portTrim tag port trim => Sys2Proof.Machine.execPortTrim tag port trim s
  | .identify tag => Sys2Proof.Machine.execIdentify tag s
  | .configSet tag pairs => Sys2Proof.Machine.execConfigSet tag pairs s
  | .configGet tag ids => Sys2Proof.Machine.execConfigGet tag ids s
  | .deviceReset tag => Sys2Proof.Machine.execDeviceReset tag s
  | .noticeControlEnable tag => Sys2Proof.Machine.execNoticeControlEnable tag s
  | .noticeControlDisable tag => Sys2Proof.Machine.execNoticeControlDisable tag s
  | .noticeControlKeep tag => Sys2Proof.Machine.execNoticeControlKeep tag s
  | .noticeFlush tag action => Sys2Proof.Machine.execNoticeFlush tag action s
  | .portStatus tag port => Sys2Proof.Machine.execPortStatus tag port s
  | .neighborRead tag start count => Sys2Proof.Machine.execNeighborRead tag start count s
  | .find tag start direction limit selector comparison key => Sys2Proof.Machine.execFind tag start direction limit selector comparison key s
  | .counters tag port => Sys2Proof.Machine.execCounters tag port s
  | .countersClear tag port => Sys2Proof.Machine.execCountersClear tag port s
  | .presentNChange port low => Sys2Proof.Machine.execPresentNChange port low s
  | .presenceSettledAsserted port => Sys2Proof.Machine.execPresenceSettledAsserted port s
  | .presenceSettledDeasserted port => Sys2Proof.Machine.execPresenceSettledDeasserted port s
  | .stageTimerExpiry port => Sys2Proof.Machine.execStageTimerExpiry port s
  | .backoffTimerExpiry port => Sys2Proof.Machine.execBackoffTimerExpiry port s
  | .silenceTimerExpiry port => Sys2Proof.Machine.execSilenceTimerExpiry port s
  | .beaconTimerExpiry port => Sys2Proof.Machine.execBeaconTimerExpiry port s
  | .sidebandFrameEnd port => Sys2Proof.Machine.execSidebandFrameEnd port s
  | .beaconReceived port frame => Sys2Proof.Machine.execBeaconReceived port frame s
  | .probeReceived port frame => Sys2Proof.Machine.execProbeReceived port frame s
  | .echoReceived port frame lag => Sys2Proof.Machine.execEchoReceived port frame lag s
  | .sidebandFrameRejected port => Sys2Proof.Machine.execSidebandFrameRejected port s
  | .scheduleTimerExpiry port => Sys2Proof.Machine.execScheduleTimerExpiry port s
  | .probeTimeoutExpiry port probe => Sys2Proof.Machine.execProbeTimeoutExpiry port probe s
  | .lockAcquired port lane => Sys2Proof.Machine.execLockAcquired port lane s
  | .lockTimerExpiry port lane => Sys2Proof.Machine.execLockTimerExpiry port lane s
  | .lossOfLock port lanes => Sys2Proof.Machine.execLossOfLock port lanes s
  | .measurementComplete raw => Sys2Proof.Machine.execMeasurementComplete raw s
  | .markerDecoded port lane lineInverted logical sequence age => Sys2Proof.Machine.execMarkerDecoded port lane lineInverted logical sequence age s
  | .markerWaitExpiry port => Sys2Proof.Machine.execMarkerWaitExpiry port s
  | .collectionClose port => Sys2Proof.Machine.execCollectionClose port s
  | .managementByteReceived byte stopHigh => Sys2Proof.Machine.execManagementByteReceived byte stopHigh s
  | .syncSequenceFound port => Sys2Proof.Machine.execSyncSequenceFound port s

end Sys2Proof.Machine
end

