-- ==== Sys2Proof/Safety.lean ====
section
/-! DEFINITION. What statements about the machine are made of: the conditions that every state meets between two commands, the
laws of the manual that hold of the whole part, and the shapes in which a command's outcome is told. -/

namespace Sys2Proof.Machine

/-! ## Conditions that hold between two commands -/

/-- A transmitter with nothing to start: it sends, or nothing waits (R63). -/
def SidebandTx.settled (tx : SidebandTx) : Bool :=
  tx.sending.isSome || (tx.echoes.isEmpty && tx.probeWaiting.isNone && !tx.beaconWaiting)

/-- No sideband transmitter is free while a frame waits (R63). -/
abbrev State.sidebandSettled (s : State) : Prop := ∀ p : Fin 32, (s.port p).tx.settled = true

/-- The outbound transmitter starts a waiting frame, and a head request that can be dispatched is dispatched, at the event that
makes it so (R176, R178). -/
abbrev State.linkSettled (s : State) : Prop :=
  (s.mli.sending ≠ none ∨ s.mli.replies = [] ∧ (s.notices = [] ∨ s.mli.notify = false)) ∧ s.dispatchable = false

/-- No port waits in PLAN_WAIT under a CLOSED plan: its verdict is made, or it goes on, at the event that closes the plan (R38). -/
abbrev State.noneDue (s : State) : Prop := ∀ p : Fin 32, s.verdictDue p = false

/-- Everything that an event has to finish is finished. -/
abbrev State.settled (s : State) : Prop := s.sidebandSettled ∧ s.linkSettled ∧ s.noneDue

/-- The management link is idle: no request waits, no reply waits or is being sent, and no reset is to come. -/
abbrev State.linkIdle (s : State) : Prop :=
  s.mli.queue = [] ∧ s.mli.replies = [] ∧ s.mli.sending = none ∧ s.mli.resetPending = false

/-- A request can be answered at its arrival and the ports stand as an event leaves them. -/
abbrev State.ready (s : State) : Prop := s.linkIdle ∧ s.sidebandSettled ∧ s.noneDue

/-! ## Shapes of outcomes -/

/-- The state in which the reply to a request is being sent: its status and content, and nothing else changed but the framer,
which is HUNTING. -/
def State.replying (s : State) (tag kind : Byte) (st : Status) (content : List Byte) : State :=
  { s with mli := { s.mli with
      framer := .hunting
      gapTimer := .stopped
      sending := some ⟨⟨tag, replyKind kind st, st.code :: content⟩, false⟩ } }

/-- Two ports that differ at most in what their Sideband Units hold to send. -/
abbrev Port.sameButTx (before after : Port) : Prop := { after with tx := before.tx } = before

/-- The parts of the state that no event at a port touches. -/
abbrev State.sameDevice (before after : State) : Prop :=
  after.plan = before.plan ∧ after.mli.params = before.mli.params ∧ after.mli.device = before.mli.device
    ∧ after.mli.queue = before.mli.queue ∧ after.mli.framer = before.mli.framer
    ∧ after.mli.resetPending = before.mli.resetPending ∧ after.mli.notify = before.mli.notify
    ∧ after.monitor.setups = before.monitor.setups ∧ after.frameErrors = before.frameErrors
    ∧ after.timestamp = before.timestamp ∧ after.pending = before.pending

/-- The ports other than `p` that hold no verdict-bearing state are as before. -/
abbrev State.otherPortsKept (before after : State) (p : Fin 32) : Prop :=
  ∀ q : Fin 32, q ≠ p → (before.port q).state.bearing = false → after.port q = before.port q

/-- The state after a failure at a port: BACKOFF or FAULT by the recovery of the cached record, with the retry count and the
backoff wait that go with it (R44, R46). -/
abbrev Port.recovered (base : BaseFields) (pr : Params) (p : Fin 32) (before after : Port) : Prop :=
  match base.recovery with
  | .manual => after.state = .fault ∧ after.retryCount = before.retryCount
  | .auto =>
    if before.retryCount < base.retryLimit then
      after.state = .backoff ∧ after.retryCount = before.retryCount + 1
        ∧ after.backoffTimer = .running (backoffWait pr p (before.retryCount + 1))
    else after.state = .fault ∧ after.retryCount = before.retryCount

/-- Every lane rests by its fence flag, its lock timer stopped (log entry 47), and the Deskew Unit and the burst record hold
nothing (R33). -/
abbrev Port.leftStages (after : Port) : Prop :=
  (∀ l : Fin 4, (after.lane l).state = (if after.fence l then .fenced else .idle) ∧ (after.lane l).lockTimer = .stopped)
    ∧ after.deskew.phase = .idle ∧ after.deskew.keptMask = 0 ∧ after.burst.running = false

/-- What a failure leaves at its port (R44). -/
abbrev State.failed (before after : State) (p : Fin 32) (cause : Cause) (stage : Nat) (lane : Option (Fin 4)) : Prop :=
  Port.recovered (before.expected p).base before.params p (before.port p) (after.port p)
    ∧ (after.port p).lastFailure = some ⟨cause, stage, lane, (before.port p).attempt⟩
    ∧ (after.port p).leftStages
    ∧ (after.port p).neighbor.status ≠ .current
    ∧ (after.port p).ready = false ∧ (after.port p).stageTimer = .stopped ∧ (after.port p).silence = .stopped
    ∧ (after.port p).attempt = (before.port p).attempt ∧ (after.port p).flags = (before.port p).flags
    ∧ (after.port p).counters.linkLosses =
        (if (before.port p).state = .active then bump (before.port p).counters.linkLosses
         else (before.port p).counters.linkLosses)
    ∧ (∀ r ∈ after.monitor.queue, lanePort r.lane ≠ p)

/-! ## Laws of the whole part -/

/-- The capacities of the management link: four requests, four refusals, one dispatched reply (R175, R176, R178). -/
abbrev State.linkBounds (s : State) : Prop :=
  s.mli.queue.length ≤ 4 ∧ (s.mli.replies.filter (·.refusal)).length ≤ 4
    ∧ (s.mli.replies.filter fun r => !r.refusal).length ≤ 1

/-- No two queued notices have the same kind and subject (R193). -/
abbrev distinctNotices (queue : List Notice) : Prop := queue.Pairwise fun a b => a.sameSubject b = false

/-- A port's retry count never exceeds the retry limit of its cached record, and under MANUAL recovery it is 0 (R45). -/
abbrev State.retryLaw (s : State) : Prop :=
  ∀ p : Fin 32, (s.port p).retryCount ≤
    match (s.expected p).base.recovery with
    | .auto => (s.expected p).base.retryLimit
    | .manual => 0

/-- Every verdict-bearing port holds a PASS or WARN verdict, READY is set exactly in READY_WAIT and ACTIVE, and a pending flag is set
only at a verdict-bearing port while the plan is not CLOSED (R152, R164, R165). -/
abbrev State.bearingLaw (s : State) : Prop :=
  ∀ p : Fin 32,
    ((s.port p).state.bearing = true → (s.port p).verdict.cls = .pass ∨ (s.port p).verdict.cls = .warn)
      ∧ ((s.port p).ready = true ↔ (s.port p).state = .verify .readyWait ∨ (s.port p).state = .active)
      ∧ ((s.port p).verdict.pending = true → (s.port p).state.bearing = true ∧ s.plan.state ≠ .closed)

/-- Fields of a plan record are in range (R1, R3). -/
abbrev BaseFields.inRange (b : BaseFields) : Prop :=
  b.retryLimit ≤ 15 ∧ (∀ l ∈ b.label, 1 ≤ l.length ∧ l.length ≤ 16)
    ∧ (∀ n ∈ b.skewLimit, 16 ≤ n ∧ n ≤ 480)
    ∧ (∀ w ∈ b.window, w.low ≤ w.high ∧ w.high ≤ 65535)

/-- A written entry names a peer exactly when it is PLANNED, never on chassis 0, and its fields are in range (R1, R3). -/
abbrev PlanEntry.inRange (e : PlanEntry) : Prop :=
  e.base.inRange ∧ (e.expectation = .planned ↔ e.peer.isSome)
    ∧ (∀ i ∈ e.peer, i.chassis ≠ 0)

/-- The fields of a stored override are in range (Table 1-7, R4). -/
abbrev Override.inRange (o : Override) : Prop :=
  1 ≤ o.count ∧ o.localStart.val + o.count ≤ 32 ∧ o.chassis ≠ 0 ∧ o.portStart.val + o.count ≤ 32

/-- What the Plan Table holds is in range (R3, R4, R5, R12). -/
abbrev Plan.inRange (pl : Plan) : Prop :=
  pl.cursor ≤ 32 ∧ pl.overrides.length ≤ 16 ∧ (∀ o ∈ pl.overrides, o.inRange)
    ∧ (∀ p : Fin 32, ∀ e ∈ pl.entries.get p, e.inRange)
    ∧ (∀ p : Fin 32, (pl.cache.get p).base.inRange ∧ (pl.cache.get p).accepted.length ≤ 2
        ∧ (pl.cache.get p).accepted.Nodup)

/-- Every parameter is in the range of Table 9-2, and the backoff cap is not below the base (R180). -/
abbrev Params.inRange (pr : Params) : Prop :=
  (1 ≤ pr.beaconInterval ∧ pr.beaconInterval ≤ 255) ∧ (2 ≤ pr.silenceLimit ∧ pr.silenceLimit ≤ 15)
    ∧ (20 ≤ pr.sidebandTimeout ∧ pr.sidebandTimeout ≤ 2000) ∧ (1 ≤ pr.laneLockTimeout ∧ pr.laneLockTimeout ≤ 100)
    ∧ (5 ≤ pr.alignTimeout ∧ pr.alignTimeout ≤ 500) ∧ (50 ≤ pr.verifyTimeout ∧ pr.verifyTimeout ≤ 5000)
    ∧ (10 ≤ pr.presenceDebounce ∧ pr.presenceDebounce ≤ 500) ∧ (1 ≤ pr.backoffBase ∧ pr.backoffBase ≤ 1000)
    ∧ (pr.backoffBase ≤ pr.backoffCap ∧ pr.backoffCap ≤ 60000) ∧ (20 ≤ pr.eqPassMv ∧ pr.eqPassMv ≤ 600)
    ∧ (1 ≤ pr.eqMinWindow ∧ pr.eqMinWindow ≤ 16)
    ∧ ∀ k : Fin 8, 3000 ≤ pr.cableDelays.get k ∧ pr.cableDelays.get k ≤ 6000

/-- The device is RUNNING exactly while it has a chassis identifier (R179). -/
abbrev State.deviceLaw (s : State) : Prop := s.mli.device = .running ↔ s.mli.params.chassisId ≠ 0

/-- A port is DISABLED exactly when its ADMIN_ENABLE is clear or the device is not RUNNING; a port in WAIT_CABLE has no settled
cable and a port in a sending state has one (R27 to R30). -/
abbrev State.presenceLaw (s : State) : Prop :=
  ∀ p : Fin 32,
    ((s.port p).state = .disabled ↔ (s.port p).adminEnable = false ∨ s.mli.device = .unconfigured)
      ∧ ((s.port p).state = .waitCable → (s.port p).present = false)
      ∧ ((s.port p).state.sending = true → (s.port p).present = true)

/-- The neighbor record is CURRENT in LANE_LOCK through ACTIVE and in HELD, and never CURRENT in DISABLED, WAIT_CABLE, BACKOFF
and FAULT; a record that is not EMPTY has an identity on a chassis other than 0 (R69 to R74). -/
abbrev State.neighborLaw (s : State) : Prop :=
  ∀ p : Fin 32,
    ((s.port p).state.engaged = true → (s.port p).neighbor.status = .current)
      ∧ ((s.port p).neighbor.status = .current → (s.port p).state.engaged = true ∨ (s.port p).state = .sideband)
      ∧ ((s.port p).neighbor.status = .empty ↔ (s.port p).neighbor.identity = none)

/-- The port of a state that sends no frames has nothing waiting to be sent and no timer running but the debounce timer (R28, R29,
R60, R62, R63). -/
abbrev State.silentLaw (s : State) : Prop :=
  ∀ p : Fin 32, (s.port p).state.sending = false →
    (s.port p).tx.beaconTimer = .stopped ∧ (s.port p).tx.beaconWaiting = false ∧ (s.port p).tx.probeWaiting = none
      ∧ (s.port p).tx.echoes = [] ∧ (s.port p).stageTimer = .stopped ∧ (s.port p).backoffTimer = .stopped
      ∧ (s.port p).silence = .stopped ∧ (s.port p).rx = none

/-- The states that follow ALIGN: VERIFY, HELD at ALIGN or VERIFY, and ACTIVE. -/
def PortState.afterAlign : PortState → Bool
  | .verify _ | .held .align _ | .held .verify _ | .active => true
  | .disabled | .waitCable | .sideband | .laneLock | .align | .held .sideband _ | .backoff | .fault => false

/-- An alignment is in progress exactly in ALIGN; a kept mask is fixed only in VERIFY, in HELD at ALIGN or VERIFY and in ACTIVE;
a burst runs exactly in RANGING (R33, R37, R39, R116, R133). -/
abbrev State.stageLaw (s : State) : Prop :=
  ∀ p : Fin 32,
    ((s.port p).state = .align ↔ (s.port p).deskew.phase = .markerWait ∨ (s.port p).deskew.phase = .collecting)
      ∧ ((s.port p).deskew.phase = .fixed → (s.port p).state.afterAlign = true)
      ∧ ((s.port p).burst.running = true ↔ (s.port p).state = .verify .ranging)

/-- No two verdict-bearing ports hold CURRENT records that name the same peer (R155). -/
abbrev State.distinctPeers (s : State) : Prop :=
  ∀ p q : Fin 32, p ≠ q → (s.port p).state.bearing = true → (s.port q).state.bearing = true →
    s.currentPeer p ≠ none → s.currentPeer p ≠ s.currentPeer q

end Sys2Proof.Machine
end

