-- ==== Sys2Proof/Certificates/Slice0/Obligations.lean ====
section
/-! DEFINITION. The statements for the provers, one Prop each, in the order of OBLIGATIONS.json. -/

open Sys2Proof Sys2Proof.Machine

/-- For every command and every state, a step of the state with that command at the front of its queue is exec of the command on
the state with the queue's rest. The queue of commands is the model's own (log entry 31). -/
def Obligations.FrontCommandIsTaken : Prop :=
  ∀ (c : Instr) (rest : List Instr) (s : State),
    step { s with pending := c :: rest } = exec c { s with pending := rest }

/-- With an empty queue a step answers a next state in which the timestamp counter is one higher and every marker stamp counter 8
higher; every running timer (a port's stage, backoff, debounce, silence and beacon timers, its lanes' lock timers, its marker
wait and close, its burst's schedule and probe timeouts, the framer's gap timer and the measurement in service) has one TU
less left and stays at 0, stopped and paused timers stay as they are; a port's markers are 819 TU apart with sequence numbers
that rise by one; and nothing else of the part changes that this names. That a step on an empty queue is one TU is the model's
choice (log entry 1); that no timer expires by itself is the model's choice too (log entry 2); so is the markers' free-running
count (log entry 29). -/
def Obligations.IdleStepLetsOneUnitPass : Prop :=
  ∀ s : State, s.pending = [] →
    let tick : Timer → Timer := fun x => match x with
      | .running n => .running (n - 1)
      | .stopped => .stopped
      | .paused n => .paused n
    ∃ t, step s = .next t ∧ t.timestamp = s.timestamp + 1 ∧ t.pending = [] ∧ t.plan = s.plan ∧ t.notices = s.notices
      ∧ t.frameErrors = s.frameErrors ∧ t.mli = { s.mli with gapTimer := tick s.mli.gapTimer }
      ∧ t.monitor = { s.monitor with engine := s.monitor.engine.map fun m => { m with left := tick m.left } }
      ∧ ∀ p : Fin 32, (t.port p).deskew.stampCounter = (s.port p).deskew.stampCounter + 8
        ∧ (t.port p).state = (s.port p).state ∧ (t.port p).verdict = (s.port p).verdict
        ∧ (t.port p).neighbor = (s.port p).neighbor ∧ (t.port p).counters = (s.port p).counters
        ∧ ((s.port p).markers.since < 818 → (t.port p).markers = ⟨(s.port p).markers.since + 1, (s.port p).markers.sequence⟩)
        ∧ ((s.port p).markers.since = 818 → (t.port p).markers = ⟨0, (s.port p).markers.sequence + 1⟩)
        ∧ (t.port p).stageTimer = tick (s.port p).stageTimer ∧ (t.port p).backoffTimer = tick (s.port p).backoffTimer
        ∧ (t.port p).debounce = tick (s.port p).debounce ∧ (t.port p).silence = tick (s.port p).silence
        ∧ (t.port p).tx = { (s.port p).tx with beaconTimer := tick (s.port p).tx.beaconTimer }
        ∧ (∀ l : Fin 4, (t.port p).lane l = { (s.port p).lane l with lockTimer := tick ((s.port p).lane l).lockTimer })
        ∧ (t.port p).deskew.waitTimer = tick (s.port p).deskew.waitTimer
        ∧ (t.port p).deskew.closeTimer = tick (s.port p).deskew.closeTimer
        ∧ (t.port p).deskew.lanes = (s.port p).deskew.lanes ∧ (t.port p).deskew.phase = (s.port p).deskew.phase
        ∧ (t.port p).burst.running = (s.port p).burst.running ∧ (t.port p).burst.requested = (s.port p).burst.requested
        ∧ (t.port p).burst.schedule = tick (s.port p).burst.schedule
        ∧ (∀ k : Fin 8, (t.port p).burst.probes.get k =
            { (s.port p).burst.probes.get k with timeout := tick ((s.port p).burst.probes.get k).timeout })

/-- After power-on reset the plan is EMPTY with nothing written and generation and epoch 0, the device UNCONFIGURED with default
parameters and notices disabled, every port DISABLED with clear flags, no attempt, no last failure, an EMPTY neighbor record,
a NONE verdict, lanes at setting 16, an IDLE alignment, trim 0 and counters 0; the Lane Monitor, the queues and the frame-
error counter are empty. This state meets every law that the invariants below keep. Values the manual does not state are not
in this statement, those of log entry 45 (the other fields of an EMPTY record) among them. -/
def Obligations.ResetStateIsAsStated : Prop :=
  (State.reset.plan.state = .empty ∧ State.reset.plan.overrides = [] ∧ State.reset.plan.cursor = 0
      ∧ State.reset.plan.generation = 0 ∧ State.reset.plan.epoch = 0
      ∧ ∀ p : Fin 32, State.reset.plan.entries.get p = none ∧ State.reset.plan.changed.get p = false
        ∧ State.reset.plan.cache.get p = absentEffective)
    ∧ (State.reset.mli.device = .unconfigured ∧ State.reset.mli.notify = false ∧ State.reset.mli.framer = .hunting
      ∧ State.reset.mli.queue = [] ∧ State.reset.mli.replies = [] ∧ State.reset.mli.sending = none
      ∧ State.reset.mli.params.chassisId = 0 ∧ State.reset.mli.params.beaconInterval = 5
      ∧ State.reset.mli.params.silenceLimit = 4 ∧ State.reset.mli.params.sidebandTimeout = 200
      ∧ State.reset.mli.params.laneLockTimeout = 20 ∧ State.reset.mli.params.alignTimeout = 50
      ∧ State.reset.mli.params.verifyTimeout = 500 ∧ State.reset.mli.params.presenceDebounce = 50
      ∧ State.reset.mli.params.backoffBase = 10 ∧ State.reset.mli.params.backoffCap = 1280
      ∧ State.reset.mli.params.eqMethod = .hold ∧ State.reset.mli.params.eqPassMv = 120
      ∧ State.reset.mli.params.eqMinWindow = 4 ∧ State.reset.mli.params.holdPoint = .none
      ∧ State.reset.mli.params.cableDelays.cells = [4350, 4450, 4900, 5000, 5000, 5000, 5000, 5000])
    ∧ (∀ p : Fin 32, (State.reset.port p).state = .disabled ∧ (State.reset.port p).flags = 0
      ∧ (State.reset.port p).retryCount = 0 ∧ (State.reset.port p).attempt = 0 ∧ (State.reset.port p).highMark = 0
      ∧ (State.reset.port p).ready = false ∧ (State.reset.port p).present = false
      ∧ (State.reset.port p).lastFailure = none ∧ (State.reset.port p).stageTimer = .stopped
      ∧ (State.reset.port p).backoffTimer = .stopped ∧ (State.reset.port p).silence = .stopped
      ∧ (State.reset.port p).neighbor.status = .empty ∧ (State.reset.port p).neighbor.identity = none
      ∧ (State.reset.port p).neighbor.expected = none ∧ (State.reset.port p).neighbor.kept = none
      ∧ (State.reset.port p).neighbor.ready = false ∧ (State.reset.port p).neighbor.length = none
      ∧ (State.reset.port p).neighbor.unmeasured = false ∧ (State.reset.port p).neighbor.suspect = false
      ∧ (State.reset.port p).neighbor.captureAttempt = 0 ∧ (State.reset.port p).verdict.cls = .none
      ∧ (State.reset.port p).verdict.codes = [] ∧ (State.reset.port p).deskew.phase = .idle
      ∧ (State.reset.port p).deskew.keptMask = 0 ∧ (State.reset.port p).trim = 0
      ∧ (State.reset.port p).burst = Burst.reset ∧ (State.reset.port p).summary = RangingSummary.reset
      ∧ (State.reset.port p).counters.values = [0, 0, 0, 0, 0, 0, 0, 0, 0]
      ∧ ∀ l : Fin 4, ((State.reset.port p).lane l).state = .idle ∧ ((State.reset.port p).lane l).current = 16
        ∧ ((State.reset.port p).lane l).previous = 16 ∧ ((State.reset.port p).lane l).forced = none
        ∧ ((State.reset.port p).lane l).marker = .none)
    ∧ (State.reset.monitor.engine = none ∧ State.reset.monitor.queue = [] ∧ State.reset.monitor.jobs = []
      ∧ State.reset.monitor.runCount = 0 ∧ State.reset.monitor.sequence = 0 ∧ State.reset.notices = []
      ∧ State.reset.frameErrors = 0 ∧ State.reset.timestamp = 0)
    ∧ State.reset.settled ∧ State.reset.linkBounds ∧ distinctNotices State.reset.notices ∧ State.reset.retryLaw
    ∧ State.reset.bearingLaw ∧ State.reset.plan.inRange ∧ State.reset.params.inRange ∧ State.reset.deviceLaw
    ∧ State.reset.presenceLaw ∧ State.reset.silentLaw ∧ State.reset.neighborLaw ∧ State.reset.distinctPeers
    ∧ State.reset.stageLaw

/-- Every step keeps this: no sideband transmitter is free while an ECHO, a PROBE or a beacon waits; the outbound transmitter is
not free while a reply waits, or a notice with transmission enabled; the head request waits only while it cannot be
dispatched; and no port waits in PLAN_WAIT under a CLOSED plan. -/
def Obligations.EventsFinishWhatTheyMakeDue : Prop :=
  ∀ s t : State, s.settled → step s = .next t → t.settled

/-- Every step keeps this: at most 4 requests wait, at most 4 QUEUE_FULL replies and at most one reply to a dispatched request
wait, and no two queued notices have the same kind and subject. -/
def Obligations.QueuesKeepTheirBounds : Prop :=
  ∀ s t : State, (s.linkBounds ∧ distinctNotices s.notices) → step s = .next t → (t.linkBounds ∧ distinctNotices t.notices)

/-- Every step keeps this: a port's retry count never exceeds the retry limit of its cached effective expectation, and under
MANUAL recovery it is 0. Failures, plan closes that lower a limit and resets are among the steps. -/
def Obligations.RetryCountStaysWithinItsLimit : Prop :=
  ∀ s t : State, s.retryLaw → step s = .next t → t.retryLaw

/-- Every step keeps this: each port in READY_WAIT, in HELD at VERIFY or in ACTIVE (so each port whose TRAFFIC_EN is asserted)
holds a verdict of class PASS or WARN, a port's READY flag is set exactly in READY_WAIT and in ACTIVE, and a pending flag is
set only at a verdict-bearing port while the plan is not CLOSED. -/
def Obligations.ReadyPortsHoldAPassingVerdict : Prop :=
  ∀ s t : State, s.bearingLaw → step s = .next t → t.bearingLaw

/-- Every step keeps this: the load cursor is at most 32, at most 16 overrides are held, every written entry, override and cached
record holds fields in the ranges of Tables 1-6 and 1-7, a label of 1 to 16 bytes among them (no refused value is ever
stored), every parameter lies in its range of Table 9-2 with the backoff cap at or above the base, and the device is RUNNING
exactly while its chassis_id is not 0. -/
def Obligations.StoredValuesStayInRange : Prop :=
  ∀ s t : State, (s.plan.inRange ∧ s.params.inRange ∧ s.deviceLaw) → step s = .next t → (t.plan.inRange ∧ t.params.inRange ∧ t.deviceLaw)

/-- Every step keeps this: a port is DISABLED exactly when its ADMIN_ENABLE is clear or the device is not RUNNING; a port in
WAIT_CABLE has no settled cable and a port that sends frames has one; and in DISABLED and WAIT_CABLE no frame waits, the
receiver is off and no stage, backoff, silence or beacon timer runs. -/
def Obligations.PortsFollowEnableAndPresence : Prop :=
  ∀ s t : State, (s.presenceLaw ∧ s.silentLaw) → step s = .next t → (t.presenceLaw ∧ t.silentLaw)

/-- Every step keeps this: the neighbor record of a port in LANE_LOCK through ACTIVE or in HELD is CURRENT, a CURRENT record
belongs to such a port or to one in SIDEBAND, a record has an identity exactly when it is not EMPTY, and no two ports in
READY_WAIT, HELD at VERIFY or ACTIVE (so no two ACTIVE ports) have CURRENT records naming the same peer chassis and peer port. -/
def Obligations.BearingPortsHaveDistinctPeers : Prop :=
  ∀ s t : State, (s.neighborLaw ∧ s.distinctPeers) → step s = .next t → (t.neighborLaw ∧ t.distinctPeers)

/-- Every step keeps this: a Deskew Unit waits for markers or collects exactly while its port is in ALIGN, its kept mask is fixed
only while its port is in VERIFY, in HELD at ALIGN or VERIFY or in ACTIVE, and a probe burst runs exactly while its port is in
RANGING. -/
def Obligations.StagesOwnTheirUnits : Prop :=
  ∀ s t : State, s.stageLaw → step s = .next t → t.stageLaw

/-- For every plan entry with a 16-byte label, every override, every list of parameter pairs, and every number that fits its
field, reading the payload bytes that the request lays out gives the operand back. For every kind and fields of a sideband
frame, reading its 32 bytes gives them back, its line starts with 0x3C and 0xE1 and has 272 bits; flag bits 2 to 7 and byte 29
are ignored; and 32 bytes make the command of their kind exactly when the CRC checks, the kind is 1, 2 or 3, the sender
chassis is not 0 and the sender port is 31 or less, and a rejected frame otherwise. A frame whose sender stops early is
completed with ones. For every frame of at most 248 payload bytes and every state whose framer is HUNTING: receiving the bytes
that the frame has on the line one after another, each with its stop bit high, ends in the state of MANAGEMENT_FRAME_ARRIVAL
of that frame. The framer so finds the length, collects to the last CRC byte, checks the CRC and hands on tag, kind and
payload unchanged. That the byte row itself completes the frame is the model's reading (log entry 6). -/
def Obligations.BytesSpellWhatTheyCarry : Prop :=
  ((∀ (a : Byte) (e : RawPlanEntry), e.label.length = 16 → readPlanEntry (a :: 1 :: rawEntryBytes e) = e)
      ∧ (∀ o : RawOverride, readOverride (0 :: rawOverrideBytes o) = o)
      ∧ (∀ pairs : List (Byte × BitVec 48),
          readPairs ((pairs.flatMap pairBytes).length / 7) (pairs.flatMap pairBytes) = pairs)
      ∧ (∀ len n : Nat, n < 256 ^ len → readNumber (numberBytes len n) = n ∧ (numberBytes len n).length = len)
      ∧ (∀ (kind : FrameKind) (f : SidebandFrame), readSideband (sidebandBytes kind f) = some (kind, f)
          ∧ (sidebandBytes kind f).length = 32 ∧ (sidebandLineBits kind f).length = 272
          ∧ (sidebandLineBytes kind f).take 2 = [0x3C, 0xE1] ∧ (sidebandLineBits kind f).take 8 =
            [false, false, true, true, true, true, false, false])
      ∧ (∀ (bytes : List Byte) (x : Byte), readFrame (bytes.set 29 x) = readFrame bytes
          ∧ (x.getLsbD 0 = (byteAt bytes 1).getLsbD 0 → x.getLsbD 1 = (byteAt bytes 1).getLsbD 1 →
            readFrame (bytes.set 1 x) = readFrame bytes))
      ∧ (∀ (p : Fin 32) (lag : Fin 126) (bytes : List Byte), bytes.length = 32 →
          let f := readFrame bytes
          let valid := crc16 (bytes.take 30) = byteAt bytes 30 ++ byteAt bytes 31 ∧ f.senderChassis ≠ 0 ∧ f.senderPort.toNat ≤ 31
          (valid → byteAt bytes 0 = 1 → sidebandCommand p lag bytes = .beaconReceived p f)
          ∧ (valid → byteAt bytes 0 = 2 → sidebandCommand p lag bytes = .probeReceived p f)
          ∧ (valid → byteAt bytes 0 = 3 → sidebandCommand p lag bytes = .echoReceived p f lag)
          ∧ (¬ valid ∨ byteAt bytes 0 = 0 ∨ 3 < (byteAt bytes 0).toNat → sidebandCommand p lag bytes = .sidebandFrameRejected p)
          ∧ ∀ n : Nat, n ≤ 32 → sidebandCommand p lag (bytes.take n)
              = sidebandCommand p lag (bytes.take n ++ List.replicate (32 - n) 0xFF)))
  ∧ (∀ (s : State) (f : Frame), f.payload.length ≤ 248 → s.mli.framer = .hunting →
      .next (f.lineBytes.foldl (fun t b => t.receiveByte b true) s)
        = exec (.managementFrameArrival f.tag f.kind f.payload) s)

/-- At an idle link, a frame whose kind is not one of 0x01 to 0x17 is answered with kind 0xFF and status UNKNOWN_KIND, and a frame
of a request kind whose payload length is not allowed for it is answered BAD_LENGTH; in both cases nothing else changes. While
the transmitter sends and a dispatched reply waits, an arriving frame joins the tail of the queue if fewer than 4 wait; with 4
waiting it is answered QUEUE_FULL with its own tag and, for a request kind, that kind plus 0x80; and if 4 QUEUE_FULL replies
wait already it is discarded and the frame-error counter increments. The frame is not examined before its dispatch. -/
def Obligations.ArrivalsAreRefusedOrWait : Prop :=
  (∀ (s : State) (tag kind : Byte) (payload : List Byte), s.ready →
      (kind = 0 ∨ 0x17 < kind.toNat → exec (.managementFrameArrival tag kind payload) s =
          .next (s.replying tag kind .unknownKind []))
      ∧ (1 ≤ kind.toNat → kind.toNat ≤ 0x17 → lengthAllowed kind payload.length = false →
          exec (.managementFrameArrival tag kind payload) s = .next (s.replying tag kind .badLength [])))
  ∧ (∀ (s : State) (f : Frame), s.mli.sending ≠ none → (∃ r ∈ s.mli.replies, r.refusal = false) →
      (s.mli.queue.length < 4 → exec (.managementFrameArrival f.tag f.kind f.payload) s =
          .next { s with mli := { s.mli with framer := .hunting, gapTimer := .stopped, queue := s.mli.queue ++ [f] } })
      ∧ (4 ≤ s.mli.queue.length → (s.mli.replies.filter (·.refusal)).length < 4 → isRequestKind f.kind = true →
          exec (.managementFrameArrival f.tag f.kind f.payload) s =
            .next { s with mli := { s.mli with
              framer := .hunting
              gapTimer := .stopped
              replies := s.mli.replies ++ [⟨⟨f.tag, f.kind + 0x80, [0x07]⟩, true, false⟩] } })
      ∧ (4 ≤ s.mli.queue.length → 4 ≤ (s.mli.replies.filter (·.refusal)).length →
          exec (.managementFrameArrival f.tag f.kind f.payload) s =
            .next { s with
              mli := { s.mli with framer := .hunting, gapTimer := .stopped }
              frameErrors := bump s.frameErrors }))

/-- At an idle link PLAN_BEGIN answers WRONG_STATE while the plan is LOADING and ARG_RANGE for a mode other than REPLACE (0) and
AMEND (1), changing nothing. Otherwise the plan is LOADING with cursor 0; REPLACE makes every entry absent and the override
list empty, AMEND keeps them; generation, epoch, changed flags and cache are kept; a PLAN_STATE notice is handed; the reply is
OK with the cursor 0. No port changes but in what its Sideband Unit holds to send, and nothing else of the part changes. -/
def Obligations.PlanBeginOpensALoad : Prop :=
  ∀ (s : State) (tag mode : Byte), s.ready →
    (s.plan.state = .loading → exec (.planBegin tag mode) s = .next (s.replying tag 0x01 .wrongState []))
    ∧ (s.plan.state ≠ .loading → 1 < mode.toNat → exec (.planBegin tag mode) s = .next (s.replying tag 0x01 .argRange []))
    ∧ (s.plan.state ≠ .loading → mode.toNat ≤ 1 →
        ∃ t, exec (.planBegin tag mode) s = .next t
          ∧ t.plan = { s.plan with
              state := .loading
              cursor := 0
              entries := if mode = 0 then .replicate 32 none else s.plan.entries
              overrides := if mode = 0 then [] else s.plan.overrides }
          ∧ t.notices = handNotice (.planState .loading s.plan.generation s.plan.epoch 0) s.notices
          ∧ t.mli = (s.replying tag 0x01 .ok [0]).mli
          ∧ (∀ p : Fin 32, (s.port p).sameButTx (t.port p)) ∧ t.monitor = s.monitor
          ∧ t.frameErrors = s.frameErrors ∧ t.timestamp = s.timestamp ∧ t.pending = s.pending)

/-- At an idle link PLAN_ENTRY, with an entry or clear, answers WRONG_STATE unless the plan is LOADING; ARG_RANGE for an explicit
index from 32 to 254; TABLE_FULL for "next" (255) with the cursor at 32. Otherwise the index is the explicit one, or the
cursor for "next": an entry that fails a check is answered ARG_RANGE with nothing changed, one that passes replaces the whole
entry, clear makes the entry absent; the cursor becomes that index + 1 and the reply carries status, index and cursor. Nothing
else changes. At an idle link PLAN_OVERRIDE DELETE of position i answers WRONG_STATE unless the plan is LOADING and ARG_RANGE
when i is not below the count, changing nothing. Otherwise the override at i is gone, those before it keep their positions,
those after it move up one, and the reply carries the new count. Nothing else changes. -/
def Obligations.PlanEditsChangeTheirItem : Prop :=
  (∀ (s : State) (tag address : Byte) (e : RawPlanEntry), s.ready → e.label.length = 16 →
      (s.plan.state ≠ .loading → exec (.planEntry tag address e) s = .next (s.replying tag 0x02 .wrongState [])
        ∧ exec (.planEntryClear tag address) s = .next (s.replying tag 0x02 .wrongState []))
      ∧ (s.plan.state = .loading → 31 < address.toNat → address.toNat < 255 →
          exec (.planEntry tag address e) s = .next (s.replying tag 0x02 .argRange [])
            ∧ exec (.planEntryClear tag address) s = .next (s.replying tag 0x02 .argRange []))
      ∧ (s.plan.state = .loading → address = 0xFF → 32 ≤ s.plan.cursor →
          exec (.planEntry tag address e) s = .next (s.replying tag 0x02 .tableFull [])
            ∧ exec (.planEntryClear tag address) s = .next (s.replying tag 0x02 .tableFull []))
      ∧ (∀ i : Fin 32, s.plan.state = .loading → (address.toNat = i.val ∨ address = 0xFF ∧ s.plan.cursor = i.val) →
          (checkEntry e = none → exec (.planEntry tag address e) s = .next (s.replying tag 0x02 .argRange []))
          ∧ (∀ c, checkEntry e = some c → exec (.planEntry tag address e) s =
              .next (State.replying
                { s with plan := { s.plan with entries := s.plan.entries.set i (some c.entry), cursor := i.val + 1 } }
                tag 0x02 (if c.clamped then .okClamped else .ok) [BitVec.ofNat 8 i.val, BitVec.ofNat 8 (i.val + 1)]))
          ∧ exec (.planEntryClear tag address) s =
              .next (State.replying
                { s with plan := { s.plan with entries := s.plan.entries.set i none, cursor := i.val + 1 } }
                tag 0x02 .ok [BitVec.ofNat 8 i.val, BitVec.ofNat 8 (i.val + 1)])))
  ∧ (∀ (s : State) (tag i : Byte), s.ready →
      (s.plan.state ≠ .loading → exec (.planOverrideDelete tag i) s = .next (s.replying tag 0x03 .wrongState []))
      ∧ (s.plan.state = .loading → s.plan.overrides.length ≤ i.toNat →
          exec (.planOverrideDelete tag i) s = .next (s.replying tag 0x03 .argRange []))
      ∧ (∀ before o after, s.plan.state = .loading → s.plan.overrides = before ++ o :: after → before.length = i.toNat →
          exec (.planOverrideDelete tag i) s =
            .next (State.replying { s with plan := { s.plan with overrides := before ++ after } } tag 0x03 .ok
              [BitVec.ofNat 8 (before.length + after.length)])))

/-- The check of a PLAN_ENTRY's entry refuses it exactly for: an expectation code above 2; PLANNED with peer chassis 0 or peer
port above 31; a cable kind above 7; a present window whose minimum exceeds its maximum; a policy code above 2; a minimum
width other than 1, 2 or 4; a recovery code above 1; a label length above 16. A stored entry holds its peer exactly when
PLANNED, its skew limit held in 16 to 480, its retry limit in 0 to 15, and its label's bytes; the clamped mark is set exactly
when a limit was changed. -/
def Obligations.EntryFieldsAreCheckedThenClamped : Prop :=
  ∀ e : RawPlanEntry,
    (checkEntry e = none ↔
      2 < e.expectation.toNat ∨ (e.expectation = 0 ∧ (e.peerChassis = 0 ∨ 31 < e.peerPort.toNat)) ∨ 7 < e.cableKind.toNat
        ∨ (e.presence.getLsbD 0 = true ∧ e.windowMax.toNat < e.windowMin.toNat) ∨ 2 < e.lanePolicy.toNat
        ∨ (e.minWidth ≠ 1 ∧ e.minWidth ≠ 2 ∧ e.minWidth ≠ 4) ∨ 1 < e.recovery.toNat ∨ 16 < e.labelLength.toNat)
    ∧ ∀ c, checkEntry e = some c →
        (c.entry.expectation = .planned ↔ e.expectation = 0) ∧ (c.entry.expectation = .unused ↔ e.expectation = 1)
        ∧ (∀ i, c.entry.peer = some i ↔
            e.expectation = 0 ∧ i.chassis = e.peerChassis ∧ i.port.val = e.peerPort.toNat)
        ∧ c.entry.base.cableKind.val = e.cableKind.toNat
        ∧ c.entry.base.window = (if e.presence.getLsbD 0 then some ⟨e.windowMin.toNat, e.windowMax.toNat⟩ else none)
        ∧ c.entry.base.skewLimit =
            (if e.presence.getLsbD 1 then some (max 16 (min 480 e.skewLimit.toNat)) else none)
        ∧ c.entry.base.minWidth.lanes = e.minWidth.toNat
        ∧ (c.entry.base.policy = .strict ↔ e.lanePolicy = 0) ∧ (c.entry.base.policy = .reversalOk ↔ e.lanePolicy = 1)
        ∧ (c.entry.base.recovery = .auto ↔ e.recovery = 0)
        ∧ c.entry.base.retryLimit = min 15 e.retryLimit.toNat
        ∧ c.entry.base.label = (if e.labelLength = 0 then none else some (e.label.take e.labelLength.toNat))
        ∧ (c.clamped = true ↔ 15 < e.retryLimit.toNat
            ∨ (e.presence.getLsbD 1 = true ∧ (e.skewLimit.toNat < 16 ∨ 480 < e.skewLimit.toNat)))

/-- At an idle link, in LOADING, a PLAN_OVERRIDE APPEND is answered ARG_RANGE with nothing changed in each of the seven cases of
the rule (a start above 31, a count of 0 or above 32, a range past 32, a chassis of 0, a peer start above 31, a peer range
past 32, a mode other than REPLACE 0 and EITHER 1). In no other case is it refused for its fields: it is stored at the end of
the list with exactly the fields carried (the local chassis included), or answered TABLE_FULL with 16 stored. Outside LOADING
it is answered WRONG_STATE. (Stated: R4.) -/
def Obligations.OverrideAppendIsCheckedAgainstItsTable : Prop :=
  ∀ (s : State) (tag : Byte) (o : RawOverride), s.ready →
    let bad := 31 < o.localStart.toNat ∨ o.count.toNat = 0 ∨ 32 < o.count.toNat ∨ 32 < o.localStart.toNat + o.count.toNat
      ∨ o.chassis = 0 ∨ 31 < o.portStart.toNat ∨ 32 < o.portStart.toNat + o.count.toNat ∨ 1 < o.mode.toNat
    (s.plan.state ≠ .loading → exec (.planOverrideAppend tag o) s = .next (s.replying tag 0x03 .wrongState []))
    ∧ (s.plan.state = .loading → bad → exec (.planOverrideAppend tag o) s = .next (s.replying tag 0x03 .argRange []))
    ∧ (s.plan.state = .loading → ¬ bad → 16 ≤ s.plan.overrides.length →
        exec (.planOverrideAppend tag o) s = .next (s.replying tag 0x03 .tableFull []))
    ∧ (s.plan.state = .loading → ¬ bad → s.plan.overrides.length < 16 →
        ∃ r : Override, r.localStart.val = o.localStart.toNat ∧ r.count = o.count.toNat ∧ r.chassis = o.chassis
          ∧ r.portStart.val = o.portStart.toNat ∧ (r.mode = .replace ↔ o.mode = 0) ∧ (r.mode = .either ↔ o.mode = 1)
          ∧ exec (.planOverrideAppend tag o) s =
            .next (State.replying { s with plan := { s.plan with overrides := s.plan.overrides ++ [r] } } tag 0x03 .ok
              [BitVec.ofNat 8 s.plan.overrides.length, BitVec.ofNat 8 (s.plan.overrides.length + 1)]))

/-- At an idle link PLAN_END answers WRONG_STATE unless LOADING and ARG_RANGE for generation 0, changing nothing. Otherwise the
plan is CLOSED with the generation carried and the epoch one higher, each cached record is the effective expectation of the
working contents, each changed flag tells whether the record changed, entries, overrides and cursor are kept, a PLAN_STATE
notice is handed first, and the reply carries generation, epoch and the count of changed ports. A port outside PLAN_WAIT and
the verdict-bearing states changes in its retry count alone, clamped to its new record, up to what its Sideband Unit holds to
send; a port that waited in PLAN_WAIT without a peer kept mask, not UNUSED, goes to MASK_WAIT, and with one held its burst
starts in RANGING. What becomes of the others is stated of verdicts at a close. -/
def Obligations.PlanEndClosesThePlan : Prop :=
  ∀ (s : State) (tag : Byte) (generation : BitVec 16), s.ready →
    (s.plan.state ≠ .loading → exec (.planEnd tag generation) s = .next (s.replying tag 0x04 .wrongState []))
    ∧ (s.plan.state = .loading → generation = 0 →
        exec (.planEnd tag generation) s = .next (s.replying tag 0x04 .argRange []))
    ∧ (s.plan.state = .loading → generation ≠ 0 →
        ∃ t handed, exec (.planEnd tag generation) s = .next t
          ∧ t.plan.state = .closed ∧ t.plan.generation = generation ∧ t.plan.epoch = s.plan.epoch + 1
          ∧ t.plan.entries = s.plan.entries ∧ t.plan.overrides = s.plan.overrides ∧ t.plan.cursor = s.plan.cursor
          ∧ (∀ p : Fin 32, t.plan.cache.get p = effectiveOf (s.plan.entries.get p) s.plan.overrides p
            ∧ t.plan.changed.get p = recordChanged (s.plan.cache.get p) (t.plan.cache.get p))
          ∧ t.notices =
              handNotices handed (handNotice (.planState .closed generation (s.plan.epoch + 1) 0) s.notices)
          ∧ t.mli = (s.replying tag 0x04 .ok (byte2 generation.toNat ++ byte4 (s.plan.epoch + 1).toNat
              ++ byte1 (allPorts.filter t.plan.changed.get).length)).mli
          ∧ (∀ p : Fin 32, (s.port p).state.bearing = false → (∀ taken, (s.port p).state ≠ .verify (.planWait taken)) →
              Port.sameButTx { s.port p with retryCount := clampRetry (t.plan.cache.get p).base (s.port p).retryCount }
                (t.port p))
          ∧ (∀ p : Fin 32, (s.port p).state = .verify (.planWait false) → (t.plan.cache.get p).kind ≠ .unused →
              (s.port p).neighbor.kept = none → (t.port p).state = .verify .maskWait
                ∧ (t.port p).stageTimer = (s.port p).stageTimer.resume)
          ∧ (∀ p : Fin 32, (s.port p).state = .verify (.planWait false) → (t.plan.cache.get p).kind ≠ .unused →
              (s.port p).neighbor.kept ≠ none → (t.port p).state = .verify .ranging
                ∧ (t.port p).stageTimer = (s.port p).stageTimer.resume ∧ (t.port p).burst.running = true
                ∧ (t.port p).neighbor.kept = (s.port p).neighbor.kept))

/-- The base fields of an effective expectation are the entry's, or those of an absent entry. Where no override's local range
contains the port, its kind is the entry's expectation (UNUSED when absent), and the accepted set and advertised peer are the
peer of a PLANNED entry, else empty and none. The first override that contains it makes it PLANNED with that override
recorded: REPLACE accepts and advertises the alternate peer alone; EITHER accepts it and the peer of a PLANNED entry, each
once, and advertises none. The alternate peer's port is the override's port start plus the offset. A record has changed
exactly when kind, accepted set (as a set) or base fields differ. MANUAL recovery clamps a retry count to 0, AUTO to its
limit. -/
def Obligations.EffectiveExpectationsFollowTheOverrides : Prop :=
  (∀ (entry : Option PlanEntry) (overrides : List Override) (p : Fin 32),
    let covers := fun o : Override => o.localStart.val ≤ p.val ∧ p.val < o.localStart.val + o.count
    let own := fun i : PeerId => ∃ x, entry = some x ∧ x.expectation = .planned ∧ x.peer = some i
    let e := effectiveOf entry overrides p
    (∀ x, entry = some x → e.base = x.base) ∧ (entry = none → e.base = absentBase)
    ∧ ((∀ o ∈ overrides, ¬ covers o) → e.matched = none ∧ (∀ i, i ∈ e.accepted ↔ own i)
        ∧ (∀ i, e.advertised = some i ↔ own i)
        ∧ (∀ x, entry = some x → e.kind = x.expectation) ∧ (entry = none → e.kind = .unused))
    ∧ ∀ before o after (alternate : PeerId), overrides = before ++ o :: after → (∀ x ∈ before, ¬ covers x) → covers o →
        alternate.chassis = o.chassis → alternate.port.val = o.portStart.val + (p.val - o.localStart.val) →
        e.kind = .planned ∧ e.matched = some before.length ∧ e.accepted.Nodup
        ∧ (o.mode = .replace → (∀ i, i ∈ e.accepted ↔ i = alternate) ∧ e.advertised = some alternate)
        ∧ (o.mode = .either → (∀ i, i ∈ e.accepted ↔ i = alternate ∨ own i) ∧ e.advertised = none))
  ∧ (∀ before after : Effective, recordChanged before after = true ↔
      before.kind ≠ after.kind ∨ before.base ≠ after.base ∨ ∃ i, ¬ (i ∈ before.accepted ↔ i ∈ after.accepted))
  ∧ ∀ (base : BaseFields) (n : Nat), (base.recovery = .manual → clampRetry base n = 0)
      ∧ (base.recovery = .auto → n ≤ base.retryLimit → clampRetry base n = n)
      ∧ (base.recovery = .auto → base.retryLimit < n → clampRetry base n = base.retryLimit)

/-- At an idle link PLAN_READ ENTRIES and EFFECTIVE answer ARG_RANGE for a start above 31 and OVERRIDES for a start above 15.
Otherwise each answers the plan header and as many whole records as fit of the range asked for, reduced to the 32 indexes or
to the overrides there are, OK_CLAMPED if it was reduced; a start at or past the override count answers no overrides with OK.
Nothing of the part changes. That a count of 0 is taken as 1 is the model's choice (log entry 19), and so are record layouts
(log entry 18). At an idle link MONITOR_READ RESULTS answers ARG_RANGE for a start above 127 and otherwise the monitor header
and as many whole records as fit of the lanes asked for, each with the lane's setup, OK_CLAMPED when the count was reduced to
fit; JOBS answers the header and every job in list order. Nothing of the part changes. That a count of 0 is taken as 1 (log
entry 19) and the layouts of records (log entry 18) are the model's readings. -/
def Obligations.PlanAndMonitorReadsChangeNothing : Prop :=
  (∀ (s : State) (tag start count : Byte), s.ready →
      let n := fitCount start.toNat count.toNat 32
      let m := fitCount start.toNat count.toNat s.plan.overrides.length
      (31 < start.toNat →
          exec (.planReadEntries tag start count) s = .next (s.replying tag 0x05 .argRange [])
            ∧ exec (.planReadEffective tag start count) s = .next (s.replying tag 0x05 .argRange []))
      ∧ (15 < start.toNat → exec (.planReadOverrides tag start count) s = .next (s.replying tag 0x05 .argRange []))
      ∧ (start.toNat ≤ 31 →
          exec (.planReadEntries tag start count) s =
            .next (s.replying tag 0x05 (if n = count.toNat then .ok else .okClamped) (s.plan.header ++ recordBytes 11
              (portRange start.toNat n fun p => optionBytes 37 PlanEntry.bytes (s.plan.entries.get p))))
            ∧ exec (.planReadEffective tag start count) s =
              .next (s.replying tag 0x05 (if n = count.toNat then .ok else .okClamped) (s.plan.header ++ recordBytes 11
                (portRange start.toNat n fun p => (s.plan.cache.get p).bytes (s.plan.changed.get p)))))
      ∧ (start.toNat ≤ 15 → start.toNat < s.plan.overrides.length →
          exec (.planReadOverrides tag start count) s =
            .next (s.replying tag 0x05 (if m = count.toNat then .ok else .okClamped) (s.plan.header ++ recordBytes 11
              (((s.plan.overrides.drop start.toNat).take m).map Override.bytes))))
      ∧ (start.toNat ≤ 15 → s.plan.overrides.length ≤ start.toNat →
          exec (.planReadOverrides tag start count) s =
            .next (s.replying tag 0x05 .ok (s.plan.header ++ recordBytes 11 []))))
  ∧ (∀ (s : State) (tag start count : Byte), s.ready →
      let n := fitCount start.toNat count.toNat 128
      (127 < start.toNat → exec (.monitorReadResults tag start count) s = .next (s.replying tag 0x0D .argRange []))
      ∧ (start.toNat ≤ 127 → exec (.monitorReadResults tag start count) s =
          .next (s.replying tag 0x0D (if n = count.toNat then .ok else .okClamped) (s.monitor.header ++ recordBytes 9
            ((((List.finRange 128).drop start.toNat).take n).map fun g =>
              (s.monitor.results.get g).bytes (s.monitor.setups.get g)))))
      ∧ exec (.monitorReadJobs tag) s =
          .next (s.replying tag 0x0D .ok (s.monitor.header ++ recordBytes 9 (s.monitor.jobs.map ScanJob.bytes))))

/-- At an idle link PORT_CONTROL with a mask above 63 answers ARG_RANGE and changes nothing. Otherwise each selected port's flags
are its old ones without the clear bits and with the set bits; a port whose ADMIN_ENABLE ends clear is DISABLED; a DISABLED
port whose ADMIN_ENABLE becomes set while the device is RUNNING is in SIDEBAND if its cable is seated and in WAIT_CABLE if
not; a fence change on an enabled port in the lane stages that leaves a lane unfenced puts it in LANE_LOCK with a new attempt
number, fenced lanes FENCED and the others LOCKING, and one that leaves all four fenced is, with the new attempt number, the
failure NO_LANES with stage code 2; a fence change on an enabled port outside the lane stages (WAIT_CABLE, SIDEBAND, HELD at
SIDEBAND, BACKOFF, FAULT, DISABLED in an UNCONFIGURED device, and a VERIFY reached straight from SIDEBAND) moves its lanes to
IDLE or FENCED by their new flags and changes nothing else of it but what it has to send; lanes of a port that is DISABLED
before or after it rest by the new flags too. The reply carries the selected ports whose state changed. A port not selected
and not verdict-bearing is unchanged, and so are the plan, the parameters, the result table and the setups. -/
def Obligations.PortControlSetsFlags : Prop :=
  ∀ (s : State) (tag : Byte) (ports : BitVec 32) (clear set : Byte), s.ready →
    (63 < clear.toNat ∨ 63 < set.toNat →
        exec (.portControl tag ports clear set) s = .next (s.replying tag 0x06 .argRange []))
    ∧ (clear.toNat ≤ 63 → set.toNat ≤ 63 →
        ∃ t changed, exec (.portControl tag ports clear set) s = .next t
          ∧ t.mli = (s.replying tag 0x06 .ok (byte4 (changed : BitVec 32).toNat)).mli
          ∧ t.plan = s.plan ∧ t.monitor.results = s.monitor.results ∧ t.monitor.setups = s.monitor.setups
          ∧ ∀ p : Fin 32,
            changed.getLsbD p.val = (ports.getLsbD p.val && decide ((s.port p).state.name ≠ (t.port p).state.name))
            ∧ (t.port p).flags = (if ports.getLsbD p.val then
                ((s.port p).flags &&& ~~~(clear.setWidth 6)) ||| set.setWidth 6 else (s.port p).flags)
            ∧ (ports.getLsbD p.val = false → (s.port p).state.bearing = false → t.port p = s.port p)
            ∧ (ports.getLsbD p.val = true → (t.port p).adminEnable = false → (t.port p).state = .disabled)
            ∧ (ports.getLsbD p.val = true → (s.port p).adminEnable = false → (t.port p).adminEnable = true →
                s.mli.device = .running → (s.port p).state = .disabled →
                (t.port p).state = (if (s.port p).present then .sideband else .waitCable))
            ∧ (ports.getLsbD p.val = true → (s.port p).adminEnable = true → (t.port p).adminEnable = true →
                (s.port p).fenceMask ≠ (t.port p).fenceMask → (s.port p).inLaneStages = true →
                (t.port p).fenceMask ≠ 15 →
                (t.port p).state = .laneLock ∧ (t.port p).attempt = (s.port p).attempt + 1
                  ∧ (t.port p).retryCount = (s.port p).retryCount ∧ (t.port p).neighbor = (s.port p).neighbor
                  ∧ (t.port p).highMark = (s.port p).highMark ∧ (t.port p).ready = false
                  ∧ ∀ l : Fin 4, ((t.port p).lane l).state = (if (t.port p).fence l then .fenced else .locking))
            ∧ (ports.getLsbD p.val = true → (s.port p).adminEnable = true → (t.port p).adminEnable = true →
                (s.port p).fenceMask ≠ (t.port p).fenceMask → (s.port p).inLaneStages = true → (t.port p).fenceMask = 15 →
                (s.modPort p fun pt => { pt with flags := (t.port p).flags, attempt := pt.attempt + 1 }).failed t p
                  .noLanes 2 none)
            ∧ (ports.getLsbD p.val = true → (s.port p).adminEnable = true → (t.port p).adminEnable = true →
                (s.port p).fenceMask ≠ (t.port p).fenceMask → (s.port p).inLaneStages = false →
                (s.port p).state.bearing = false →
                Port.sameButTx { s.port p with
                  flags := (t.port p).flags
                  lanes := (s.port p).lanes.mapFin fun l ln =>
                    { ln with state := if (t.port p).fence l then .fenced else .idle } } (t.port p))
            ∧ (ports.getLsbD p.val = true → (s.port p).fenceMask ≠ (t.port p).fenceMask →
                (s.port p).state = .disabled ∨ (t.port p).adminEnable = false →
                ∀ l : Fin 4, ((t.port p).lane l).state = (if (t.port p).fence l then .fenced else .idle)))

/-- At an idle link PORT_RESTART is taken in every state. Each selected port that is not DISABLED is in SIDEBAND with the next
attempt number if its debounced presence is PRESENT and in WAIT_CABLE otherwise; its verdict record is that of a reset, its
retry count 0, its neighbor record not CURRENT, its backoff timer stopped, its lane stages left (log entry 47 on lock timers),
its waiting monitor requests withdrawn, and its last failure, flags, trim and link-loss count are kept. The reply carries the
ports restarted. Every other port that is not verdict-bearing is unchanged, and so are the plan, the parameters, the result
table and the setups. -/
def Obligations.PortRestartStartsAfresh : Prop :=
  ∀ (s : State) (tag : Byte) (ports : BitVec 32), s.ready →
    ∃ t restarted, exec (.portRestart tag ports) s = .next t
      ∧ t.mli = (s.replying tag 0x07 .ok (byte4 (restarted : BitVec 32).toNat)).mli
      ∧ t.plan = s.plan ∧ t.monitor.results = s.monitor.results ∧ t.monitor.setups = s.monitor.setups
      ∧ ∀ p : Fin 32,
        restarted.getLsbD p.val = (ports.getLsbD p.val && decide ((s.port p).state ≠ .disabled))
        ∧ (restarted.getLsbD p.val = false → (s.port p).state.bearing = false → t.port p = s.port p)
        ∧ (restarted.getLsbD p.val = true →
            (t.port p).state = (if (s.port p).present then .sideband else .waitCable)
            ∧ (t.port p).attempt = (if (s.port p).present then (s.port p).attempt + 1 else (s.port p).attempt)
            ∧ (t.port p).stageTimer =
                (if (s.port p).present then armMs s.params.sidebandTimeout else .stopped)
            ∧ (t.port p).backoffTimer = .stopped ∧ (t.port p).verdict = Verdict.reset ∧ (t.port p).retryCount = 0
            ∧ (t.port p).ready = false ∧ (t.port p).neighbor.status ≠ .current ∧ (t.port p).leftStages
            ∧ (∀ r ∈ t.monitor.queue, lanePort r.lane ≠ p)
            ∧ (t.port p).lastFailure = (s.port p).lastFailure ∧ (t.port p).flags = (s.port p).flags
            ∧ (t.port p).trim = (s.port p).trim
            ∧ (t.port p).counters.linkLosses = (s.port p).counters.linkLosses)

/-- At an idle link PORT_RELEASE with no selected port HELD answers OK with an empty mask and changes nothing. With one selected
port HELD, the reply names it, every other port that is not verdict-bearing is unchanged (every other port, where the released
one does not fail), and the port goes on: from VERIFY to READY_WAIT with READY set and the verify timer at full length, or
straight to ACTIVE when the peer's READY is recorded; from ALIGN, while the plan is not CLOSED, to PLAN_WAIT with the verify
timer paused at full length; under a CLOSED plan to MASK_WAIT, or to RANGING with probe 1 WAITING when the record holds a kept
mask, with the verify timer at full length. From SIDEBAND it takes the step of the plan state at the release, whatever step
was recorded: to LANE_LOCK, or with all four lanes fenced to the failure NO_LANES with stage code 2. Where the plan is CLOSED
and the expectation UNUSED the step from ALIGN and from SIDEBAND is VERIFY and its first verdict: the failure VERDICT_FAIL
with stage code 4 and that verdict, UNPLANNED in it. -/
def Obligations.PortReleaseGoesOn : Prop :=
  ∀ (s : State) (tag : Byte) (ports : BitVec 32), s.ready →
    ((∀ p : Fin 32, ports.getLsbD p.val = true → (s.port p).state.name ≠ .held) →
        exec (.portRelease tag ports) s = .next (s.replying tag 0x08 .ok [0, 0, 0, 0]))
    ∧ ∀ p : Fin 32, ports.getLsbD p.val = true →
        (∀ q : Fin 32, q ≠ p → ports.getLsbD q.val = true → (s.port q).state.name ≠ .held) →
        (∀ next, (s.port p).state = .held .verify next →
          ∃ t, exec (.portRelease tag ports) s = .next t
            ∧ t.mli = (s.replying tag 0x08 .ok (byte4 (2 ^ p.val))).mli
            ∧ (t.port p).state = (if (s.port p).neighbor.ready then .active else .verify .readyWait)
            ∧ (t.port p).ready = true ∧ (t.port p).verdict = (s.port p).verdict
            ∧ (t.port p).stageTimer =
                (if (s.port p).neighbor.ready then .stopped else armMs s.params.verifyTimeout)
            ∧ (∀ q : Fin 32, q ≠ p → t.port q = s.port q) ∧ t.plan = s.plan ∧ t.monitor = s.monitor)
        ∧ (∀ next, (s.port p).state = .held .align next → s.plan.state ≠ .closed →
          ∃ t, exec (.portRelease tag ports) s = .next t
            ∧ t.mli = (s.replying tag 0x08 .ok (byte4 (2 ^ p.val))).mli
            ∧ (t.port p).state = .verify (.planWait false)
            ∧ (t.port p).stageTimer = .paused (s.params.verifyTimeout * Config.tuPerMs)
            ∧ (t.port p).deskew = (s.port p).deskew ∧ (t.port p).lanes = (s.port p).lanes
            ∧ (∀ q : Fin 32, q ≠ p → t.port q = s.port q) ∧ t.plan = s.plan ∧ t.monitor = s.monitor)
        ∧ (∀ next, (s.port p).state = .held .align next → s.plan.state = .closed → (s.expected p).kind ≠ .unused →
          ∃ t, exec (.portRelease tag ports) s = .next t
            ∧ t.mli = (s.replying tag 0x08 .ok (byte4 (2 ^ p.val))).mli
            ∧ ((s.port p).neighbor.kept = none →
                (t.port p).state = .verify .maskWait ∧ (t.port p).neighbor = (s.port p).neighbor)
            ∧ ((s.port p).neighbor.kept ≠ none → (t.port p).state = .verify .ranging
                ∧ (t.port p).neighbor = { (s.port p).neighbor with length := none, unmeasured := false, suspect := false }
                ∧ (t.port p).burst.running = true ∧ (t.port p).burst.requested = 1
                ∧ (t.port p).burst.schedule = .running 125000
                ∧ ∀ k : Fin 8, (t.port p).burst.probes.get k =
                    { Probe.reset with status := if k = 0 then .waiting else .unrequested })
            ∧ (t.port p).stageTimer = armMs s.params.verifyTimeout
            ∧ (t.port p).deskew = (s.port p).deskew ∧ (t.port p).lanes = (s.port p).lanes
            ∧ (∀ q : Fin 32, q ≠ p → t.port q = s.port q) ∧ t.plan = s.plan ∧ t.monitor = s.monitor)
        ∧ (∀ next, (s.port p).state = .held .align next ∨ (s.port p).state = .held .sideband next →
          s.plan.state = .closed → (s.expected p).kind = .unused →
          ∃ t, exec (.portRelease tag ports) s = .next t
            ∧ t.mli = (s.replying tag 0x08 .ok (byte4 (2 ^ p.val))).mli ∧ s.failed t p .verdictFail 4 none
            ∧ (t.port p).verdict = s.judge p (s.port p).heldNow (s.port p).attempt
            ∧ .unplanned ∈ (t.port p).verdict.codes ∧ s.otherPortsKept t p ∧ t.plan = s.plan)
        ∧ (∀ next, (s.port p).state = .held .sideband next → ¬ (s.plan.state = .closed ∧ (s.expected p).kind = .unused) →
          (s.port p).fenceMask = 15 →
          ∃ t, exec (.portRelease tag ports) s = .next t
            ∧ t.mli = (s.replying tag 0x08 .ok (byte4 (2 ^ p.val))).mli ∧ s.failed t p .noLanes 2 none
            ∧ s.otherPortsKept t p ∧ t.plan = s.plan)
        ∧ (∀ next, (s.port p).state = .held .sideband next → ¬ (s.plan.state = .closed ∧ (s.expected p).kind = .unused) →
          (s.port p).fenceMask ≠ 15 →
          ∃ t, exec (.portRelease tag ports) s = .next t
            ∧ t.mli = (s.replying tag 0x08 .ok (byte4 (2 ^ p.val))).mli
            ∧ (t.port p).state = .laneLock
            ∧ (∀ l : Fin 4, ((t.port p).lane l).state = (if (s.port p).fence l then .fenced else .locking))
            ∧ (∀ q : Fin 32, q ≠ p → t.port q = s.port q) ∧ t.plan = s.plan ∧ t.monitor = s.monitor)

/-- At an idle link LANE_EQ answers ARG_RANGE for a lane above 127. Otherwise a setting becomes the lane's forced setting, 32 to
255 taken as 31 and answered OK_CLAMPED, and clear removes it; the reply carries the lane and the forced setting now held or
none. Current setting, lane state and everything else are unchanged. The action codes on the line are the model's choice (log
entry 17). At an idle link MONITOR_SETUP answers ARG_RANGE for a lane above 127 or a low limit above the high limit as
carried, changing nothing. Otherwise the lane's offset becomes the one carried held in -64 to +63 and its limits those carried
held to 1023, OK_CLAMPED exactly when a value was held, and the reply carries lane, offset and limits as stored. Nothing else
changes. At an idle link PORT_TRIM answers ARG_RANGE for a port above 31. Otherwise the port's trim is the value carried, or
255 with OK_CLAMPED for a value above it, and the reply carries port and trim. Nothing else changes, and no beacon is made to
wait. -/
def Obligations.LaneAndPortSettingsAreStored : Prop :=
  (∀ (s : State) (tag lane setting : Byte), s.ready →
      (127 < lane.toNat → exec (.laneEq tag lane setting) s = .next (s.replying tag 0x09 .argRange [])
        ∧ exec (.laneEqClear tag lane) s = .next (s.replying tag 0x09 .argRange []))
      ∧ ∀ (p : Fin 32) (l : Fin 4), lane.toNat = 4 * p.val + l.val →
          (∀ x : Fin 32, x.val = min 31 setting.toNat → exec (.laneEq tag lane setting) s =
            .next (State.replying (s.modPort p fun pt => pt.modLane l fun ln => { ln with forced := some x }) tag 0x09
              (if setting.toNat ≤ 31 then .ok else .okClamped) [lane, 1, BitVec.ofNat 8 x.val]))
          ∧ exec (.laneEqClear tag lane) s =
            .next (State.replying (s.modPort p fun pt => pt.modLane l fun ln => { ln with forced := none }) tag 0x09 .ok
              [lane, 0, 0]))
  ∧ (∀ (s : State) (tag lane offset : Byte) (low high : BitVec 16), s.ready →
      (127 < lane.toNat ∨ high.toNat < low.toNat →
          exec (.monitorSetup tag lane offset low high) s = .next (s.replying tag 0x0A .argRange []))
      ∧ ∀ g : Fin 128, lane.toNat = g.val → low.toNat ≤ high.toNat →
          let held : MonitorSetup := ⟨max (-64) (min 63 offset.toInt), min 1023 low.toNat, min 1023 high.toNat⟩
          exec (.monitorSetup tag lane offset low high) s =
            .next (State.replying { s with monitor := { s.monitor with setups := s.monitor.setups.set g held } } tag 0x0A
              (if -64 ≤ offset.toInt ∧ offset.toInt ≤ 63 ∧ low.toNat ≤ 1023 ∧ high.toNat ≤ 1023 then .ok else .okClamped)
              ([lane] ++ signedBytes 1 held.offset ++ byte2 held.low ++ byte2 held.high)))
  ∧ (∀ (s : State) (tag port : Byte) (trim : BitVec 16), s.ready →
      (31 < port.toNat → exec (.portTrim tag port trim) s = .next (s.replying tag 0x0E .argRange []))
      ∧ ∀ p : Fin 32, port.toNat = p.val → exec (.portTrim tag port trim) s =
          .next (State.replying (s.modPort p fun pt => { pt with trim := min 255 trim.toNat }) tag 0x0E
            (if trim.toNat ≤ 255 then .ok else .okClamped) [port, BitVec.ofNat 8 (min 255 trim.toNat)]))

/-- At an idle link MONITOR_SCAN answers ARG_RANGE for an empty lane mask and QUEUE_FULL with 4 jobs. Otherwise a job with the
lowest free id joins the tail, its pass count held in 1 to 16, OK_CLAMPED if that changed it, current pass 1, next lane 0,
none made. While the engine is busy nothing else changes. With the engine free and no request and no job waiting, the lowest
lane of the mask that is not FENCED is being measured for the job at its current setting, the job's next lane is the one after
it, and the run count is 0. At an idle link MONITOR_CANCEL answers ARG_RANGE for an id that no job holds. Otherwise that job
is gone, the others keep their order, a MONITOR_DONE notice with status CANCELLED is handed for the id, the reply carries the
id and the measurements made, and a measurement of the job in service goes on as one that counts towards no job. Nothing else
changes and nothing is selected. -/
def Obligations.ScanJobsAreCreatedAndCancelled : Prop :=
  (∀ (s : State) (tag : Byte) (lanes : BitVec 128) (passes : Byte), s.ready →
      (lanes = 0 → exec (.monitorScan tag lanes passes) s = .next (s.replying tag 0x0B .argRange []))
      ∧ (lanes ≠ 0 → 4 ≤ s.monitor.jobs.length →
          exec (.monitorScan tag lanes passes) s = .next (s.replying tag 0x0B .queueFull []))
      ∧ ∀ id : Fin 4, lanes ≠ 0 → s.monitor.jobs.length < 4 → (∀ j ∈ s.monitor.jobs, j.id ≠ id) →
          (∀ k : Fin 4, k < id → ∃ j ∈ s.monitor.jobs, j.id = k) →
          let count := max 1 (min 16 passes.toNat)
          let status : Status := if count = passes.toNat then .ok else .okClamped
          (s.monitor.engine ≠ none → exec (.monitorScan tag lanes passes) s =
            .next (State.replying
              { s with monitor := { s.monitor with jobs := s.monitor.jobs ++ [⟨id, lanes, count, 1, 0, 0⟩] } }
              tag 0x0B status [BitVec.ofNat 8 id.val, BitVec.ofNat 8 count]))
          ∧ (∀ g : Fin 128, s.monitor.engine = none → s.monitor.queue = [] → s.monitor.jobs = [] →
              lanes.getLsbD g.val = true → s.laneFenced g = false →
              (∀ h : Fin 128, h < g → lanes.getLsbD h.val = true → s.laneFenced h = true) →
              exec (.monitorScan tag lanes passes) s =
                .next (State.replying
                  { s with monitor := { s.monitor with
                      jobs := [⟨id, lanes, count, 1, g.val + 1, 0⟩]
                      runCount := 0
                      engine := some ⟨g, .scan (some id), (s.lane g).current, .running 50000⟩ } }
                  tag 0x0B status [BitVec.ofNat 8 id.val, BitVec.ofNat 8 count])))
  ∧ (∀ (s : State) (tag id : Byte), s.ready →
      ((∀ j ∈ s.monitor.jobs, j.id.val ≠ id.toNat) →
          exec (.monitorCancel tag id) s = .next (s.replying tag 0x0C .argRange []))
      ∧ ∀ before j after, s.monitor.jobs = before ++ j :: after → j.id.val = id.toNat →
          (∀ k ∈ before ++ after, k.id ≠ j.id) →
          exec (.monitorCancel tag id) s =
            .next (State.replying
              { s with
                monitor := { s.monitor with
                  jobs := before ++ after
                  engine := s.monitor.engine.map fun m =>
                    if m.source = .scan (some j.id) then { m with source := .scan none } else m }
                notices := handNotice (.monitorDone j.id .cancelled 0) s.notices }
              tag 0x0C .ok ([id] ++ byte2 j.made)))

/-- At an idle link IDENTIFY answers vendor, part and revision, the capacities, device state and chassis_id, plan state,
generation and epoch, counts of entries and overrides, the cable-kind table and the notice flag; CONFIG_GET answers the pairs
asked for, all 22 in order for an empty list, and ARG_RANGE if an identifier names no parameter; PORT_STATUS answers the
port's view, NEIGHBOR_READ the records of the ports asked for, each ARG_RANGE for a port above 31. Nothing changes. These
points are the model's choices and not the manual's: 6 bytes for the value of every CONFIG_GET pair, which departs from the
smallest width that log entry 18 takes elsewhere (log entry 40); the layouts of the PORT_STATUS view and of the neighbor
records (log entries 16, 18, 37, 41, 42, 45, 46, 51 and 53); that a value PORT_STATUS sends once is the verdict record's copy
(log entry 52); the order and widths of the IDENTIFY reply (log entry 18); and that a count of 0 is taken as 1 (log entry 19). -/
def Obligations.ViewsReportAndChangeNothing : Prop :=
  ∀ (s : State) (tag : Byte), s.ready →
    (exec (.identify tag) s = .next (s.replying tag 0x0F .ok
        ([0x0B, 0x7E, 0x32, 0x04, 1, 32, 4, 32, 16] ++ byte1 s.mli.device.code ++ byte6 s.params.chassisId.toNat
          ++ byte1 s.plan.state.code ++ byte2 s.plan.generation.toNat ++ byte4 s.plan.epoch.toNat
          ++ byte1 s.plan.writtenCount ++ byte1 s.plan.overrides.length ++ s.params.cableDelays.cells.flatMap byte2
          ++ flagByte s.mli.notify)))
    ∧ (∀ ids : List Byte, ids.length ≤ 30 →
        ((∃ id ∈ ids, id ∉ parameterIds) →
          exec (.configGet tag ids) s = .next (s.replying tag 0x11 .argRange []))
        ∧ ((∀ id ∈ ids, id ∈ parameterIds) → ids ≠ [] →
          exec (.configGet tag ids) s = .next (s.replying tag 0x11 .ok
            (byte1 ids.length ++ ids.flatMap fun id => id :: byte6 (s.params.value id)))))
    ∧ exec (.configGet tag []) s = .next (s.replying tag 0x11 .ok
        (22 :: parameterIds.flatMap fun id => id :: byte6 (s.params.value id)))
    ∧ (∀ port : Byte,
        (31 < port.toNat → exec (.portStatus tag port) s = .next (s.replying tag 0x14 .argRange []))
        ∧ ∀ p : Fin 32, port.toNat = p.val → exec (.portStatus tag port) s =
            .next (s.replying tag 0x14 .ok ((s.port p).view (s.expected p).base.label)))
    ∧ (∀ start count : Byte,
        (31 < start.toNat → exec (.neighborRead tag start count) s = .next (s.replying tag 0x15 .argRange []))
        ∧ (start.toNat ≤ 31 → exec (.neighborRead tag start count) s =
            .next (s.replying tag 0x15
              (if fitCount start.toNat count.toNat 32 = count.toNat then .ok else .okClamped)
              (recordBytes 1 (portRange start.toNat (fitCount start.toNat count.toNat 32) fun p =>
                byte1 p.val ++ (s.port p).neighbor.bytes)))))

/-- At an idle link CONFIG_SET with a failing pair (unknown identifier, eq_method above 1, hold_point above 3, chassis_id 0)
answers ARG_RANGE with the first failing identifier and applies nothing; one that passes but would change chassis_id while a
port is not DISABLED answers BUSY_PORTS. Otherwise every pair is applied in order, with identifiers of clamped values in the
reply. In RUNNING nothing but the parameters changes. In UNCONFIGURED likewise without a chassis_id pair; with one the device
is RUNNING, and every port with ADMIN_ENABLE set leaves DISABLED for SIDEBAND or WAIT_CABLE by its presence, the others
staying as they are. -/
def Obligations.ConfigSetAppliesItsPairs : Prop :=
  ∀ (s : State) (tag : Byte) (pairs : List (Byte × BitVec 48)), s.ready → 1 ≤ pairs.length → pairs.length ≤ 30 →
    let fails : Byte × BitVec 48 → Prop := fun x => x.1 ∉ parameterIds ∨ x.1 = 11 ∧ 1 < x.2.toNat % 65536
      ∨ x.1 = 14 ∧ 3 < x.2.toNat % 65536 ∨ x.1 = 1 ∧ x.2 = 0
    let changes : Prop := ∃ x ∈ pairs, x.1 = 1 ∧ x.2 ≠ s.params.chassisId
    let applied := pairs.foldl applyPair (s.params, [])
    let status : Status := if applied.2 = [] then .ok else .okClamped
    let content := if applied.2 = [] then [] else byte1 applied.2.length ++ applied.2
    (∀ before x after, pairs = before ++ x :: after → (∀ y ∈ before, ¬ fails y) → fails x →
        exec (.configSet tag pairs) s = .next (s.replying tag 0x10 .argRange [x.1]))
    ∧ ((∀ x ∈ pairs, ¬ fails x) → changes → (∃ p : Fin 32, (s.port p).state ≠ .disabled) →
        exec (.configSet tag pairs) s = .next (s.replying tag 0x10 .busyPorts [1]))
    ∧ ((∀ x ∈ pairs, ¬ fails x) → (changes → ∀ p : Fin 32, (s.port p).state = .disabled) → s.mli.device = .running →
        exec (.configSet tag pairs) s =
          .next (State.replying { s with mli := { s.mli with params := applied.1 } } tag 0x10 status content))
    ∧ ((∀ x ∈ pairs, ¬ fails x) → (∀ x ∈ pairs, x.1 ≠ 1) → s.mli.device = .unconfigured → s.deviceLaw →
        exec (.configSet tag pairs) s =
          .next (State.replying { s with mli := { s.mli with params := applied.1 } } tag 0x10 status content))
    ∧ ((∀ x ∈ pairs, ¬ fails x) → (∃ x ∈ pairs, x.1 = 1) → s.mli.device = .unconfigured → s.deviceLaw → s.presenceLaw →
        ∃ t, exec (.configSet tag pairs) s = .next t ∧ t.mli.device = .running ∧ t.mli.params = applied.1
          ∧ t.mli.sending = (s.replying tag 0x10 status content).mli.sending ∧ t.plan = s.plan ∧ t.monitor = s.monitor
          ∧ ∀ p : Fin 32, (t.port p).state =
              (if (s.port p).adminEnable then (if (s.port p).present then .sideband else .waitCable) else .disabled)
            ∧ ((s.port p).adminEnable = false → t.port p = s.port p))

/-- Applied to parameters in range, a pair that has passed its checks stores, for each numeric parameter of Table 9-2, the value
carried held in its range, where the lower bound of backoff_cap_ms is the base in force; chassis_id takes the whole 48 bits,
eq_method and hold_point the code's setting. A new backoff base above the cap raises the cap to it, and no other parameter
changes. The identifier joins the clamped ones exactly when its value was changed by its range, and identifier 10 when the cap
was raised, each once and at the end. The parameters stay in range. -/
def Obligations.ParametersTakeTheirValues : Prop :=
  ∀ (pr : Params) (ids : List Byte) (id : Byte) (v : BitVec 48), pr.inRange → id ∈ parameterIds →
    (id = 11 → v.toNat % 65536 ≤ 1) → (id = 14 → v.toNat % 65536 ≤ 3) →
    let r := applyPair (pr, ids) (id, v)
    let n := v.toNat % 65536
    let numeric : List (Byte × Nat × Nat) := [(2, 1, 255), (3, 2, 15), (4, 20, 2000), (5, 1, 100), (6, 5, 500), (7, 50, 5000),
      (8, 10, 500), (9, 1, 1000), (10, pr.backoffBase, 60000), (12, 20, 600), (13, 1, 16), (16, 3000, 6000), (17, 3000, 6000),
      (18, 3000, 6000), (19, 3000, 6000), (20, 3000, 6000), (21, 3000, 6000), (22, 3000, 6000), (23, 3000, 6000)]
    let raised := id = 9 ∧ pr.backoffCap < r.1.backoffBase
    (∀ row ∈ numeric, id = row.1 → r.1.value id = max row.2.1 (min row.2.2 n))
    ∧ (id = 1 → r.1.chassisId = v)
    ∧ (id = 11 → r.1.eqMethod = if n = 0 then .midpoint else .hold)
    ∧ (id = 14 → r.1.holdPoint = if n = 0 then .none else if n = 1 then .sideband else if n = 2 then .align else .verify)
    ∧ (∀ other ∈ parameterIds, other ≠ id → ¬ (raised ∧ other = 10) → r.1.value other = pr.value other)
    ∧ (raised → r.1.backoffCap = r.1.backoffBase) ∧ r.1.inRange
    ∧ (∃ new, r.2 = ids ++ new ∧ new.Nodup ∧ ∀ x : Byte, x ∈ new ↔
        x ∉ ids ∧ (x = id ∧ (∃ row ∈ numeric, id = row.1) ∧ r.1.value id ≠ n ∨ x = 10 ∧ raised))

/-- At an idle link DEVICE_RESET changes nothing but that its OK reply is being sent and a reset is to come. MANAGEMENT_FRAME_SENT
at the end of that reply takes the reset: the Plan Table is as it was, every other block is as after power-on reset with the
PRESENT_N pins as they stand (a low pin arms the debounce timer), and requests, replies and notices are gone. POWER_ON_RESET
answers, from every state, the state after power-on reset: plan EMPTY, device UNCONFIGURED, every port as after reset with its
pin as it stands, a low pin arming the debounce timer with the default of 50 ms, and everything else as after reset. The
commands still waiting are the sender's (log entry 31). -/
def Obligations.ResetsLeaveWhatTheyKeep : Prop :=
  ((∀ (s : State) (tag : Byte), s.ready → exec (.deviceReset tag) s =
        .next { s with mli := { s.mli with
          framer := .hunting
          gapTimer := .stopped
          sending := some ⟨⟨tag, 0x92, [0]⟩, true⟩
          resetPending := true } })
      ∧ ∀ (s : State) (f : Frame), s.mli.sending = some ⟨f, true⟩ →
          ∃ t, exec .managementFrameSent s = .next t ∧ t.plan = s.plan ∧ t.mli = State.reset.mli
            ∧ t.monitor = State.reset.monitor ∧ t.notices = [] ∧ t.frameErrors = 0 ∧ t.timestamp = 0 ∧ t.pending = s.pending
            ∧ ∀ p : Fin 32, t.port p = { State.reset.port p with
                rawPresent := (s.port p).rawPresent
                debounce := if (s.port p).rawPresent then .running 62500000 else .stopped })
  ∧ (∀ s : State, ∃ t, exec .powerOnReset s = .next t ∧ t.plan = State.reset.plan ∧ t.mli = State.reset.mli
      ∧ t.monitor = State.reset.monitor ∧ t.notices = [] ∧ t.frameErrors = 0 ∧ t.timestamp = 0 ∧ t.pending = s.pending
      ∧ ∀ p : Fin 32, t.port p = { State.reset.port p with
          rawPresent := (s.port p).rawPresent
          debounce := if (s.port p).rawPresent then .running 62500000 else .stopped })

/-- At an idle link NOTICE_CONTROL with ENABLE, DISABLE or KEEP and no flush leaves the flag set, clear or as it was, with every
queued notice kept, and answers the flag and 0. With the flush flag every queued notice is removed and their number answered;
an action other than 0, 1 and 2 then answers ARG_RANGE and changes nothing. Nothing else changes. -/
def Obligations.NoticeControlFlushesThenSets : Prop :=
  ∀ (s : State) (tag action : Byte), s.ready →
    exec (.noticeControlEnable tag) s =
        .next (State.replying { s with mli := { s.mli with notify := true } } tag 0x13 .ok [1, 0])
    ∧ exec (.noticeControlDisable tag) s =
        .next (State.replying { s with mli := { s.mli with notify := false } } tag 0x13 .ok [0, 0])
    ∧ exec (.noticeControlKeep tag) s =
        .next (s.replying tag 0x13 .ok [if s.mli.notify then 1 else 0, 0])
    ∧ (2 < action.toNat → exec (.noticeFlush tag action) s = .next (s.replying tag 0x13 .argRange []))
    ∧ (action.toNat ≤ 2 →
        let flag := if action = 0 then true else if action = 1 then false else s.mli.notify
        exec (.noticeFlush tag action) s =
          .next (State.replying { s with notices := [], mli := { s.mli with notify := flag } } tag 0x13 .ok
            [if flag then 1 else 0, BitVec.ofNat 8 s.notices.length]))

/-- At an idle link FIND answers ARG_RANGE for a start above 31, a direction above 1, a selector above 6 or a comparison above 5.
Otherwise it walks from the start in the direction given over at most limit ports (0 taken as 1, above 32 as 32, then
OK_CLAMPED): at the first port that matches it answers found, that port, how many it examined and the next port; if none
matches it answers not found, how many it examined and the port after the last one, with no next port at the end of the range.
A walk lists the ports from its start to 31 ascending for UP, and to 0 descending for DOWN. Nothing of the part changes. -/
def Obligations.FindStopsAtTheFirstMatch : Prop :=
  (∀ p q : Fin 32, (q ∈ walk p true ↔ p ≤ q) ∧ (q ∈ walk p false ↔ q ≤ p))
  ∧ (∀ p : Fin 32, (walk p true).Pairwise (fun a b => a < b) ∧ (walk p false).Pairwise (fun a b => b < a))
  ∧ ∀ (s : State) (tag start direction limit sel cmp : Byte) (key : BitVec 48), s.ready →
    (31 < start.toNat ∨ 1 < direction.toNat ∨ 6 < sel.toNat ∨ 5 < cmp.toNat →
        exec (.find tag start direction limit sel cmp key) s = .next (s.replying tag 0x16 .argRange []))
    ∧ ∀ (p : Fin 32) (selector : Selector) (comparison : Comparison), start.toNat = p.val → direction.toNat ≤ 1 →
        selectorOf sel = some selector → comparisonOf cmp = some comparison →
        let up := decide (direction = 0)
        let ports := (walk p up).take (max 1 (min 32 limit.toNat))
        let test : Fin 32 → Bool := fun q => (s.port q).matchesKey selector comparison key
        let status : Status := if 1 ≤ limit.toNat ∧ limit.toNat ≤ 32 then .ok else .okClamped
        let next : Fin 32 → List Byte := fun q =>
          if up ∧ q.val < 31 then [1, BitVec.ofNat 8 (q.val + 1)]
          else if ¬ up ∧ 0 < q.val then [1, BitVec.ofNat 8 (q.val - 1)] else [0, 0]
        (∀ before q after, ports = before ++ q :: after → (∀ r ∈ before, test r = false) → test q = true →
            exec (.find tag start direction limit sel cmp key) s = .next (s.replying tag 0x16 status
              ([1, BitVec.ofNat 8 q.val, BitVec.ofNat 8 (before.length + 1)] ++ next q)))
        ∧ (∀ before q, ports = before ++ [q] → (∀ r ∈ ports, test r = false) →
            exec (.find tag start direction limit sel cmp key) s = .next (s.replying tag 0x16 status
              ([0, 0, BitVec.ofNat 8 ports.length] ++ next q)))

/-- At an idle link COUNTERS for a port from 0 to 31 answers that port's nine counters in the order of Table 10-2, for 255 the
device frame-error counter, and for any other port number ARG_RANGE. With the clear flag the counters answered, and no other,
are then 0. Nothing else changes. -/
def Obligations.CountersAreCapturedThenCleared : Prop :=
  ∀ (s : State) (tag port : Byte), s.ready →
    (31 < port.toNat → port.toNat < 255 →
        exec (.counters tag port) s = .next (s.replying tag 0x17 .argRange [])
          ∧ exec (.countersClear tag port) s = .next (s.replying tag 0x17 .argRange []))
    ∧ (∀ p : Fin 32, port.toNat = p.val →
        let c := (s.port p).counters
        let values := [c.attempts, c.successes, c.linkLosses, c.stageTimeouts, c.validFrames, c.rejectedFrames,
          c.peerRestarts, c.polarityCorrections, c.measurements].flatMap byte4
        exec (.counters tag port) s = .next (s.replying tag 0x17 .ok ([port, 0] ++ values))
          ∧ exec (.countersClear tag port) s =
            .next (State.replying (s.modPort p fun pt => { pt with counters := ⟨0, 0, 0, 0, 0, 0, 0, 0, 0⟩ }) tag 0x17 .ok
              ([port, 1] ++ values)))
    ∧ (port = 0xFF →
        exec (.counters tag port) s = .next (s.replying tag 0x17 .ok ([port, 0] ++ byte4 s.frameErrors))
          ∧ exec (.countersClear tag port) s =
            .next (State.replying { s with frameErrors := 0 } tag 0x17 .ok ([port, 1] ++ byte4 s.frameErrors)))

/-- MANAGEMENT_FRAME_ERROR and, while the gap timer runs, FRAMER_GAP_TIMEOUT return a COLLECTING framer to HUNTING, stop its gap
timer and increment the frame-error counter; LINE_BREAK returns it to HUNTING and counts nothing. A byte in HUNTING is ignored
unless it is 0xA6 with its stop bit high, which starts a frame; in COLLECTING a byte whose stop bit is low, or a length byte
outside 2 to 250, is a discard that is counted, and a byte before the end is collected and arms the 200 us gap timer; the last
CRC byte discards and counts a frame whose CRC does not check, and of one that does it makes the arrival (log entry 6).
Nothing else changes in any of these. That an error in HUNTING (log entry 5) and a gap expiry with no gap timer running (log
entry 3) change nothing is the model's choice. -/
def Obligations.FramerCountsEachDiscard : Prop :=
  ∀ (s : State) (held : List Byte) (b length : Byte),
    let hunting := { s with mli := { s.mli with framer := .hunting, gapTimer := .stopped } }
    let counted := { hunting with frameErrors := bump s.frameErrors }
    exec .lineBreak s = .next hunting
    ∧ (s.mli.framer = .collecting held → exec .managementFrameError s = .next counted)
    ∧ (s.mli.framer = .hunting → exec .managementFrameError s = .next s)
    ∧ (s.mli.framer = .collecting held → s.mli.gapTimer.isRunning = true → exec .framerGapTimeout s = .next counted)
    ∧ (s.mli.gapTimer.isRunning = false → exec .framerGapTimeout s = .next s)
    ∧ (s.mli.framer = .hunting → exec (.managementByteReceived 0xA6 true) s =
        .next { s with mli := { s.mli with framer := .collecting [], gapTimer := .running 250000 } })
    ∧ (s.mli.framer = .hunting → b ≠ 0xA6 → exec (.managementByteReceived b true) s = .next s)
    ∧ (s.mli.framer = .hunting → exec (.managementByteReceived b false) s = .next s)
    ∧ (s.mli.framer = .collecting held → exec (.managementByteReceived b false) s = .next counted)
    ∧ (s.mli.framer = .collecting [] → b.toNat < 2 ∨ 250 < b.toNat →
        exec (.managementByteReceived b true) s = .next counted)
    ∧ (s.mli.framer = .collecting [] → 2 ≤ b.toNat → b.toNat ≤ 250 → exec (.managementByteReceived b true) s =
        .next { s with mli := { s.mli with framer := .collecting [b], gapTimer := .running 250000 } })
    ∧ (s.mli.framer = .collecting (length :: held) → 2 ≤ length.toNat → length.toNat ≤ 250 →
        held.length + 2 < length.toNat + 3 → exec (.managementByteReceived b true) s =
          .next { s with mli := { s.mli with
            framer := .collecting (length :: held ++ [b])
            gapTimer := .running 250000 } })
    ∧ ∀ (tag kind high : Byte) (payload : List Byte), payload.length ≤ 248 → length.toNat = payload.length + 2 →
        s.mli.framer = .collecting (length :: tag :: kind :: payload ++ [high]) →
        (crc16 (length :: tag :: kind :: payload) ≠ high ++ b → exec (.managementByteReceived b true) s = .next counted)
        ∧ (crc16 (length :: tag :: kind :: payload) = high ++ b →
          exec (.managementByteReceived b true) s = exec (.managementFrameArrival tag kind payload) s)

/-- With no request waiting, MANAGEMENT_FRAME_SENT at the end of a frame other than the DEVICE_RESET reply starts the oldest
waiting reply; with no reply waiting and transmission enabled it takes the head notice out of the queue and starts it with tag
0, its kind and its content; otherwise the transmitter is free. Nothing else changes. With requests waiting, no reset to come
and the oldest reply the dispatched one, that reply starts and the head request is dispatched at the same event: it leaves the
queue, is answered in the state so made, and its reply joins the reply list; where a refusal is the oldest and the dispatched
reply still waits, or a reset is to come, only the oldest reply starts. With no frame in transmission the command changes
nothing (the model's reading, log entry 3). -/
def Obligations.RepliesGoBeforeNotices : Prop :=
  ∀ (s : State) (f : Frame),
    (s.mli.queue = [] → s.mli.sending = none → exec .managementFrameSent s = .next s)
    ∧ (∀ r rest, s.mli.queue = [] → s.mli.sending = some ⟨f, false⟩ → s.mli.replies = r :: rest →
        exec .managementFrameSent s =
          .next { s with mli := { s.mli with replies := rest, sending := some ⟨r.frame, r.reset⟩ } })
    ∧ (∀ n rest, s.mli.queue = [] → s.mli.sending = some ⟨f, false⟩ → s.mli.replies = [] → s.mli.notify = true → s.notices = n :: rest →
        exec .managementFrameSent s =
          .next { s with notices := rest, mli := { s.mli with sending := some ⟨n.frame, false⟩ } })
    ∧ (s.mli.queue = [] → s.mli.sending = some ⟨f, false⟩ → s.mli.replies = [] →
        (s.mli.notify = false ∨ s.notices = []) →
        exec .managementFrameSent s = .next { s with mli := { s.mli with sending := none } })
    ∧ (∀ r rest, s.mli.sending = some ⟨f, false⟩ → s.mli.replies = r :: rest →
        (s.mli.resetPending = true ∨ ∃ x ∈ rest, x.refusal = false) →
        exec .managementFrameSent s =
          .next { s with mli := { s.mli with replies := rest, sending := some ⟨r.frame, r.reset⟩ } })
    ∧ (∀ r rest g waiting, s.mli.sending = some ⟨f, false⟩ → s.mli.replies = r :: rest → r.refusal = false →
        (∀ x ∈ rest, x.refusal = true) → s.mli.resetPending = false → s.mli.queue = g :: waiting →
        let u := { s with mli := { s.mli with
          queue := waiting, replies := rest, sending := some ⟨r.frame, r.reset⟩ } }
        let a := (u.answer g).answer
        ∃ t, exec .managementFrameSent s = .next t
          ∧ t.mli.queue = waiting ∧ t.mli.sending = some ⟨r.frame, r.reset⟩
          ∧ t.mli.replies = rest ++ [⟨⟨g.tag, replyKind g.kind a.status, a.status.code :: a.content⟩, false, a.reset⟩]
          ∧ t.mli.resetPending = a.reset ∧ t.plan = (u.answer g).state.plan ∧ t.monitor = (u.answer g).state.monitor
          ∧ t.mli.params = (u.answer g).state.mli.params ∧ t.mli.device = (u.answer g).state.mli.device
          ∧ t.mli.notify = (u.answer g).state.mli.notify ∧ t.mli.framer = s.mli.framer
          ∧ (∀ p : Fin 32, (t.port p).state = ((u.answer g).state.port p).state)
          ∧ t.timestamp = s.timestamp ∧ t.pending = s.pending)

/-- PRESENT_N_CHANGE records the raw level. A level equal to the debounced presence stops the debounce timer; a level that differs
from it arms the timer with presence_debounce_ms unless it runs already. Nothing else changes. When the debounce timer runs
and the raw level stands against the debounced presence, its expiry settles the presence. PRESENT takes a port in WAIT_CABLE
to SIDEBAND with the next attempt number, retry count 0, high mark 0, READY clear and the sideband timer armed; other ports
are unchanged. ABSENT takes a port in a sending state to WAIT_CABLE with CABLE_REMOVED, the stage code it advertised and its
attempt number recorded, retry count 0, lane stages left (log entry 47 on lock timers), nothing waiting to be sent, timers
stopped, a record not CURRENT, and one link loss from ACTIVE. In other states only presence and timer change; without such a
timer the command changes nothing. That an expiry without such a timer changes nothing is log entry 3's reading. -/
def Obligations.PresenceIsFilteredAndMovesThePort : Prop :=
  (∀ (s : State) (p : Fin 32) (low : Bool), s.settled →
      exec (.presentNChange p low) s = .next (s.modPort p fun pt =>
        { pt with
          rawPresent := low
          debounce := if low = pt.present then .stopped
            else match pt.debounce with
              | .running left => .running left
              | .stopped => .running (s.params.presenceDebounce * 1250000)
              | .paused _ => .running (s.params.presenceDebounce * 1250000) }))
  ∧ (∀ (s : State) (p : Fin 32), s.settled →
      (((s.port p).debounce.isRunning = false ∨ (s.port p).rawPresent = false ∨ (s.port p).present = true) →
          exec (.presenceSettledAsserted p) s = .next s)
      ∧ (((s.port p).debounce.isRunning = false ∨ (s.port p).rawPresent = true ∨ (s.port p).present = false) →
          exec (.presenceSettledDeasserted p) s = .next s)
      ∧ ((s.port p).debounce.isRunning = true → (s.port p).rawPresent = true → (s.port p).present = false →
          ((s.port p).state ≠ .waitCable → exec (.presenceSettledAsserted p) s =
            .next (s.modPort p fun pt => { pt with debounce := .stopped, present := true }))
          ∧ ((s.port p).state = .waitCable → ∃ t, exec (.presenceSettledAsserted p) s = .next t
            ∧ (t.port p).state = .sideband ∧ (t.port p).present = true ∧ (t.port p).debounce = .stopped
            ∧ (t.port p).attempt = (s.port p).attempt + 1 ∧ (t.port p).retryCount = 0 ∧ (t.port p).highMark = 0
            ∧ (t.port p).ready = false ∧ (t.port p).stageTimer = armMs s.params.sidebandTimeout
            ∧ (t.port p).counters.attempts = bump (s.port p).counters.attempts
            ∧ (t.port p).neighbor = (s.port p).neighbor ∧ (t.port p).flags = (s.port p).flags
            ∧ (∀ q : Fin 32, q ≠ p → t.port q = s.port q) ∧ s.sameDevice t ∧ t.monitor = s.monitor))
      ∧ ((s.port p).debounce.isRunning = true → (s.port p).rawPresent = false → (s.port p).present = true →
          ((s.port p).state.sending = false → exec (.presenceSettledDeasserted p) s =
            .next (s.modPort p fun pt => { pt with debounce := .stopped, present := false }))
          ∧ ((s.port p).state.sending = true → ∃ t, exec (.presenceSettledDeasserted p) s = .next t
            ∧ (t.port p).state = .waitCable ∧ (t.port p).present = false ∧ (t.port p).debounce = .stopped
            ∧ (t.port p).lastFailure = some ⟨.cableRemoved, (s.port p).state.stageCode, none, (s.port p).attempt⟩
            ∧ (t.port p).retryCount = 0 ∧ (t.port p).ready = false ∧ (t.port p).leftStages
            ∧ (t.port p).neighbor.status ≠ .current ∧ (t.port p).stageTimer = .stopped
            ∧ (t.port p).backoffTimer = .stopped ∧ (t.port p).silence = .stopped
            ∧ (t.port p).tx.beaconTimer = .stopped ∧ (t.port p).tx.beaconWaiting = false
            ∧ (t.port p).tx.probeWaiting = none ∧ (t.port p).tx.echoes = []
            ∧ (t.port p).counters.linkLosses = (if (s.port p).state = .active then bump (s.port p).counters.linkLosses
                else (s.port p).counters.linkLosses)
            ∧ (∀ r ∈ t.monitor.queue, lanePort r.lane ≠ p) ∧ s.otherPortsKept t p ∧ s.sameDevice t)))

/-- STAGE_TIMER_EXPIRY of a running stage timer in SIDEBAND, ALIGN or VERIFY is a failure: cause STAGE_TIMEOUT, stage code 1, 3 or
4, no failing lane and the attempt number recorded, the port in BACKOFF or FAULT by the recovery, retry count and limit of its
cached record, the lane stages left (log entry 47 on lock timers), the neighbor record not CURRENT, READY clear, its waiting
monitor requests withdrawn, and the stage timeouts counter one higher. Ports that are not verdict-bearing are unchanged. In
every other state, or with no timer running, it changes nothing. BACKOFF_TIMER_EXPIRY of a running backoff timer in BACKOFF
takes the port to SIDEBAND: attempt number and attempts counter one higher, retry count, neighbor record, flags and last
failure kept, high mark 0, READY clear, the sideband timer armed. Every other port and the Lane Monitor are unchanged. With no
timer running, or in another state, it changes nothing. SILENCE_TIMER_EXPIRY of a running silence timer is the failure
PEER_LOST in LANE_LOCK, ALIGN, VERIFY, HELD and ACTIVE, with the stage code the port advertised and no failing lane; in every
other state the timer stops and nothing else changes. With no silence timer running it changes nothing. That an expiry of a
stopped timer changes nothing is log entry 3's reading. -/
def Obligations.PortTimersEndStagesAndWaits : Prop :=
  (∀ (s : State) (p : Fin 32), s.settled →
      ((s.port p).stageTimer.isRunning = false → exec (.stageTimerExpiry p) s = .next s)
      ∧ ((s.port p).state.name ≠ .sideband → (s.port p).state.name ≠ .align → (s.port p).state.name ≠ .verify →
          exec (.stageTimerExpiry p) s = .next s)
      ∧ ∀ stage : Nat, (s.port p).stageTimer.isRunning = true →
          ((s.port p).state = .sideband ∧ stage = 1 ∨ (s.port p).state = .align ∧ stage = 3
            ∨ (s.port p).state.name = .verify ∧ stage = 4) →
          ∃ t, exec (.stageTimerExpiry p) s = .next t ∧ s.failed t p .stageTimeout stage none
            ∧ (t.port p).counters.stageTimeouts = bump (s.port p).counters.stageTimeouts
            ∧ s.otherPortsKept t p ∧ s.sameDevice t)
  ∧ (∀ (s : State) (p : Fin 32), s.settled →
      ((s.port p).backoffTimer.isRunning = false ∨ (s.port p).state ≠ .backoff →
          exec (.backoffTimerExpiry p) s = .next s)
      ∧ ((s.port p).backoffTimer.isRunning = true → (s.port p).state = .backoff →
          ∃ t, exec (.backoffTimerExpiry p) s = .next t
            ∧ (t.port p).state = .sideband ∧ (t.port p).backoffTimer = .stopped
            ∧ (t.port p).attempt = (s.port p).attempt + 1
            ∧ (t.port p).counters.attempts = bump (s.port p).counters.attempts
            ∧ (t.port p).retryCount = (s.port p).retryCount ∧ (t.port p).neighbor = (s.port p).neighbor
            ∧ (t.port p).flags = (s.port p).flags ∧ (t.port p).lastFailure = (s.port p).lastFailure
            ∧ (t.port p).highMark = 0 ∧ (t.port p).ready = false
            ∧ (t.port p).stageTimer = armMs s.params.sidebandTimeout
            ∧ (∀ q : Fin 32, q ≠ p → t.port q = s.port q) ∧ s.sameDevice t ∧ t.monitor = s.monitor))
  ∧ (∀ (s : State) (p : Fin 32), s.settled →
      ((s.port p).silence.isRunning = false → exec (.silenceTimerExpiry p) s = .next s)
      ∧ ((s.port p).silence.isRunning = true → (s.port p).state.engaged = false →
          exec (.silenceTimerExpiry p) s = .next (s.modPort p fun pt => { pt with silence := .stopped }))
      ∧ ((s.port p).silence.isRunning = true → (s.port p).state.engaged = true →
          ∃ t, exec (.silenceTimerExpiry p) s = .next t
            ∧ s.failed t p .peerLost (s.port p).state.stageCode none ∧ s.otherPortsKept t p ∧ s.sameDevice t))

/-- BEACON_TIMER_EXPIRY makes a beacon wait while a frame is sent, and starts it, re-arming the timer, when the line is free; with
no timer running it changes nothing. SIDEBAND_FRAME_END ends the frame in transmission, hands a burst's PROBE its T1, and
starts the oldest waiting ECHO with T1 and turnaround, else the waiting PROBE with its stamp, else the waiting beacon, each
with the fields as they stand; with nothing in transmission it changes nothing. Nothing else changes. A WAITING probe of a
running burst whose PROBE ended is OUTSTANDING with that T1, and its timeout runs to 1,250,000 TU after T1. That stamps lead
the start by 2,000 and 34,000 TU (log entry 10), and that the expiry of a stopped timer and the end of a frame with none in
transmission change nothing (log entry 3), are the model's readings. -/
def Obligations.TransmitterServesEchoesThenProbesThenBeacons : Prop :=
  ∀ (s : State) (p : Fin 32), s.settled →
    let ended := fun (f : SendingFrame) (b : Burst) => match f.probe with
      | some k =>
        if b.running = true ∧ (b.probes.get k).status = .waiting then
          { b with probes := b.probes.modify k fun pr => { pr with
              status := .outstanding
              t1 := some f.frame.probeStamp
              timeout := .running (1250000 + (f.frame.probeStamp - s.timestamp).toInt : Int).toNat } }
        else b
      | none => b
    ((s.port p).tx.beaconTimer.isRunning = false → exec (.beaconTimerExpiry p) s = .next s)
    ∧ ((s.port p).tx.beaconTimer.isRunning = true → (s.port p).tx.sending ≠ none → exec (.beaconTimerExpiry p) s =
        .next (s.modPort p fun pt => { pt with tx := { pt.tx with beaconTimer := .stopped, beaconWaiting := true } }))
    ∧ ((s.port p).tx.beaconTimer.isRunning = true → (s.port p).tx.sending = none → exec (.beaconTimerExpiry p) s =
        .next (s.modPort p fun pt => { pt with tx := { pt.tx with
          beaconTimer := armMs s.params.beaconInterval
          sending := some ⟨.beacon, s.frameFields p, none⟩ } }))
    ∧ ((s.port p).tx.sending = none → exec (.sidebandFrameEnd p) s = .next s)
    ∧ (∀ f e rest, (s.port p).tx.sending = some f → (s.port p).tx.echoes = e :: rest → exec (.sidebandFrameEnd p) s =
        .next (s.modPort p fun pt => { pt with
          burst := ended f pt.burst
          tx := { pt.tx with
            echoes := rest
            sending := some ⟨.echo, { s.frameFields p with
              probeStamp := e.t1
              turnaround := BitVec.ofNat 16 (min 65535 (s.timestamp + 2000 - e.received).toNat) }, none⟩ } }))
    ∧ (∀ f k, (s.port p).tx.sending = some f → (s.port p).tx.echoes = [] → (s.port p).tx.probeWaiting = some k →
        exec (.sidebandFrameEnd p) s = .next (s.modPort p fun pt => { pt with
          burst := ended f pt.burst
          tx := { pt.tx with
            probeWaiting := none
            sending := some ⟨.probe, { s.frameFields p with probeStamp := s.timestamp + 34000 }, some k⟩ } }))
    ∧ (∀ f, (s.port p).tx.sending = some f → (s.port p).tx.echoes = [] → (s.port p).tx.probeWaiting = none →
        exec (.sidebandFrameEnd p) s = .next (s.modPort p fun pt => { pt with
          burst := ended f pt.burst
          tx := if pt.tx.beaconWaiting then
              { pt.tx with
                beaconWaiting := false
                beaconTimer := armMs s.params.beaconInterval
                sending := some ⟨.beacon, s.frameFields p, none⟩ }
            else { pt.tx with sending := none } }))

/-- In a sending state a hunting receiver collects from SYNC_SEQUENCE_FOUND, with the timestamp of that event held; a receiver
that collects already is not disturbed by it. While it collects, SIDEBAND_FRAME_REJECTED, and a frame whose sender chassis is
0 or sender port above 31, ends the collection and increments the port's frames rejected counter, with no other effect. While
it hunts, and in DISABLED and WAIT_CABLE, where it is off, rejections and frames change nothing. -/
def Obligations.ReceiverIsOnWhereFramesAreSent : Prop :=
  ∀ (s : State) (p : Fin 32), s.settled →
    ((s.port p).state.sending = true → (s.port p).rx = none →
        exec (.syncSequenceFound p) s = .next (s.modPort p fun pt => { pt with rx := some s.timestamp }))
    ∧ ((s.port p).state.sending = false ∨ (s.port p).rx ≠ none → exec (.syncSequenceFound p) s = .next s)
    ∧ ((s.port p).state.sending = true → (s.port p).rx ≠ none →
        let rejected := s.modPort p fun pt => { pt with
          rx := none
          counters := { pt.counters with rejectedFrames := bump pt.counters.rejectedFrames } }
        exec (.sidebandFrameRejected p) s = .next rejected
        ∧ ∀ (f : SidebandFrame) (lag : Fin 126), f.senderChassis = 0 ∨ 31 < f.senderPort.toNat → exec (.beaconReceived p f) s = .next rejected
          ∧ exec (.probeReceived p f) s = .next rejected ∧ exec (.echoReceived p f lag) s = .next rejected)
    ∧ ((s.port p).state.sending = false ∨ (s.port p).rx = none → exec (.sidebandFrameRejected p) s = .next s
        ∧ ∀ (f : SidebandFrame) (lag : Fin 126), exec (.beaconReceived p f) s = .next s
          ∧ exec (.probeReceived p f) s = .next s ∧ exec (.echoReceived p f lag) s = .next s)

/-- A valid frame of any kind taken in SIDEBAND sets the record CURRENT with the sender's identity and the peer fields of the
frame after substitutions. From another sender than a CURRENT record's, or with the record EMPTY or STALE, it builds the
record afresh: no length, both flags clear, the current attempt number, the summary none; from the CURRENT peer it keeps
these. The silence timer is armed, the valid frames counter one higher. With stage code 0, or above 5, the port stays in
SIDEBAND. With stage code 1 to 5 it is HELD at SIDEBAND where the hold point and its HOLD_ENABLE say so; else, with a lane
unfenced, and the plan not CLOSED or the expectation not UNUSED, it enters LANE_LOCK with the stage timer stopped and its
unfenced lanes LOCKING; with every lane fenced it is the failure NO_LANES with stage code 2; under a CLOSED plan with an
UNUSED expectation it is the failure VERDICT_FAIL with stage code 4 and UNPLANNED. Other ports that are not verdict-bearing
are unchanged, and no request joins the queue of the Lane Monitor. -/
def Obligations.FirstFrameCapturesThePeer : Prop :=
  ∀ (s : State) (p : Fin 32) (f : SidebandFrame) (lag : Fin 126) (sender : PeerId),
    ∀ c ∈ [Instr.beaconReceived p f, .probeReceived p f, .echoReceived p f lag], s.settled → (s.port p).state = .sideband →
    (s.port p).rx ≠ none → f.senderChassis ≠ 0 → sender.chassis = f.senderChassis → sender.port.val = f.senderPort.toNat →
    let stage := if 5 < f.stage.toNat then 0 else f.stage.toNat
    let old := (s.port p).neighbor
    let same := old.status = .current ∧ old.identity = some sender
    let record : Neighbor :=
      { status := .current
        identity := some sender
        expected := expectedTaken f.expectedChassis f.expectedPort
        generation := f.generation
        trim := f.trim.toNat
        interval := f.interval.toNat
        fence := f.fenceMask
        stage := stage
        kept := if f.keptValid then some f.keptMask else none
        cls := classTaken f.verdictClass
        ready := f.ready
        length := if same then old.length else none
        unmeasured := if same then old.unmeasured else false
        suspect := if same then old.suspect else false
        captureAttempt := if same then old.captureAttempt else (s.port p).attempt }
    let held := s.params.holdPoint = .sideband ∧ (s.port p).holdEnable = true
    let unused := s.plan.state = .closed ∧ (s.expected p).kind = .unused
    let captured := fun t : State => (t.port p).neighbor = record
      ∧ (t.port p).summary = (if same then (s.port p).summary else RangingSummary.reset)
      ∧ (t.port p).silence = armMs (s.params.beaconInterval * s.params.silenceLimit)
      ∧ (t.port p).counters.validFrames = bump (s.port p).counters.validFrames ∧ (t.port p).rx = none
      ∧ (t.port p).highMark = max (s.port p).highMark stage ∧ (t.port p).attempt = (s.port p).attempt
      ∧ (t.port p).retryCount = (s.port p).retryCount ∧ s.otherPortsKept t p ∧ s.sameDevice t
      ∧ ∀ r ∈ t.monitor.queue, r ∈ s.monitor.queue
    (stage = 0 → ∃ t, exec c s = .next t ∧ captured t
        ∧ (t.port p).state = .sideband ∧ (t.port p).stageTimer = (s.port p).stageTimer
        ∧ (t.port p).lanes = (s.port p).lanes)
    ∧ (1 ≤ stage → held → ∃ t, exec c s = .next t ∧ captured t
        ∧ (t.port p).state = .held .sideband (if unused then .verify else .laneLock)
        ∧ (t.port p).stageTimer = .stopped ∧ (t.port p).lanes = (s.port p).lanes)
    ∧ (1 ≤ stage → ¬ held → ¬ unused → (s.port p).fenceMask = 15 → ∃ t, exec c s = .next t
        ∧ s.failed t p .noLanes 2 none ∧ (t.port p).neighbor = { record with status := .stale })
    ∧ (1 ≤ stage → ¬ held → unused → ∃ t, exec c s = .next t
        ∧ s.failed t p .verdictFail 4 none ∧ (t.port p).neighbor = { record with status := .stale }
        ∧ (t.port p).verdict.cls = .fail ∧ .unplanned ∈ (t.port p).verdict.codes
        ∧ (t.port p).verdict.attempt = (s.port p).attempt)
    ∧ (1 ≤ stage → ¬ held → ¬ unused → (s.port p).fenceMask ≠ 15 →
        ∃ t, exec c s = .next t ∧ captured t
          ∧ (t.port p).state = .laneLock ∧ (t.port p).stageTimer = .stopped
          ∧ ∀ l : Fin 4, (s.port p).fence l = false →
            ((t.port p).lane l).state = .locking ∧ ((t.port p).lane l).lockLosses = 0
            ∧ ((t.port p).lane l).current = (match ((s.port p).lane l).forced with
              | some x => x
              | none => ((s.port p).lane l).previous)
            ∧ ((t.port p).lane l).lockTimer = armMs s.params.laneLockTimeout)

/-- A valid frame of any kind from the CURRENT peer, with class and expected peer as recorded, that meets a condition of Table 2-3
for the port's state (stage code 0; stage code 1 with high mark 2 or more; KEPT_VALID clear once the peer mask was taken; in
ACTIVE stage code 0 to 3, or 4 without READY) takes the port to SIDEBAND: attempt number, attempts and peer restarts one
higher, high mark 0, READY clear, PEER_RESTARTED recorded with the stage code advertised and the attempt that ended, the lane
stages left (log entry 47 on lock timers), the record CURRENT, the retry count kept, one link loss from ACTIVE, the sideband
timer armed. An ECHO among them answers no probe of the burst first (the model's choice, log entry 50). Every other port is
unchanged. A valid frame of any kind from the CURRENT peer, with class and expected peer as recorded, READY and KEPT_VALID set
and stage code 2 to 5, takes a port in READY_WAIT to ACTIVE: TRAFFIC_EN asserted, stage timer stopped, retry count 0,
successes one higher, READY, verdict, lanes and kept mask as they were. Every other port and the Lane Monitor are unchanged. -/
def Obligations.PeerFramesRestartOrFinishThePort : Prop :=
  (∀ (s : State) (p : Fin 32) (f : SidebandFrame) (lag : Fin 126) (sender : PeerId),
      ∀ c ∈ [Instr.beaconReceived p f, .probeReceived p f, .echoReceived p f lag], s.settled → f.senderChassis ≠ 0 →
      sender.chassis = f.senderChassis → sender.port.val = f.senderPort.toNat → (s.port p).rx ≠ none →
      (s.port p).neighbor.status = .current → (s.port p).neighbor.identity = some sender →
      (s.port p).neighbor.cls = classTaken f.verdictClass →
      (s.port p).neighbor.expected = expectedTaken f.expectedChassis f.expectedPort →
      let stage := if 5 < f.stage.toNat then 0 else f.stage.toNat
      let before := s.port p
      (before.state = .active ∧ (stage ≤ 3 ∨ stage = 4 ∧ f.ready = false)
        ∨ before.state.engaged = true ∧ before.state ≠ .active ∧ (stage = 0 ∨ stage = 1 ∧ 2 ≤ before.highMark)
        ∨ (before.state = .verify .ranging ∨ before.state = .verify .readyWait ∨ before.state = .verify (.planWait true)
            ∨ ∃ next, before.state = .held .verify next) ∧ f.keptValid = false) →
      ∃ t, exec c s = .next t
        ∧ (t.port p).state = .sideband ∧ (t.port p).attempt = before.attempt + 1 ∧ (t.port p).highMark = 0
        ∧ (t.port p).ready = false ∧ (t.port p).retryCount = before.retryCount
        ∧ (t.port p).lastFailure = some ⟨.peerRestarted, before.state.stageCode, none, before.attempt⟩
        ∧ (t.port p).leftStages ∧ (t.port p).neighbor.status = .current ∧ (t.port p).neighbor.identity = some sender
        ∧ (t.port p).stageTimer = armMs s.params.sidebandTimeout
        ∧ (t.port p).counters.attempts = bump before.counters.attempts
        ∧ (t.port p).counters.peerRestarts = bump before.counters.peerRestarts
        ∧ (t.port p).counters.linkLosses =
            (if before.state = .active then bump before.counters.linkLosses else before.counters.linkLosses)
        ∧ (∀ r ∈ t.monitor.queue, lanePort r.lane ≠ p)
        ∧ (∀ q : Fin 32, q ≠ p → t.port q = s.port q) ∧ s.sameDevice t)
  ∧ (∀ (s : State) (p : Fin 32) (f : SidebandFrame) (lag : Fin 126) (sender : PeerId),
      ∀ c ∈ [Instr.beaconReceived p f, .probeReceived p f, .echoReceived p f lag], s.settled → f.senderChassis ≠ 0 →
      sender.chassis = f.senderChassis → sender.port.val = f.senderPort.toNat → (s.port p).rx ≠ none →
      (s.port p).neighbor.status = .current → (s.port p).neighbor.identity = some sender →
      (s.port p).neighbor.cls = classTaken f.verdictClass →
      (s.port p).neighbor.expected = expectedTaken f.expectedChassis f.expectedPort →
      (s.port p).state = .verify .readyWait → f.ready = true → f.keptValid = true → 2 ≤ f.stage.toNat → f.stage.toNat ≤ 5 →
      ∃ t, exec c s = .next t
        ∧ (t.port p).state = .active ∧ (t.port p).trafficEnable = true ∧ (t.port p).stageTimer = .stopped
        ∧ (t.port p).retryCount = 0 ∧ (t.port p).counters.successes = bump (s.port p).counters.successes
        ∧ (t.port p).ready = (s.port p).ready ∧ (t.port p).verdict = (s.port p).verdict
        ∧ (t.port p).lanes = (s.port p).lanes ∧ (t.port p).deskew = (s.port p).deskew
        ∧ (t.port p).attempt = (s.port p).attempt
        ∧ (∀ q : Fin 32, q ≠ p → t.port q = s.port q) ∧ s.sameDevice t ∧ t.monitor = s.monitor)

/-- A valid frame of any kind whose sender is not the CURRENT record's peer takes a port in LANE_LOCK through ACTIVE or in HELD to
SIDEBAND as a peer restart, its record rebuilt from the frame with the new attempt number (log entry 21); in SIDEBAND, with
stage code 0 or above 5, it rebuilds the record and the port stays. In BACKOFF and FAULT a frame of the stored peer updates a
STALE record's peer fields, one of another sender rebuilds it, STALE and with no length; an EMPTY record stays (the model's
reading, log entry 13); nothing else happens there but the valid frames counter, the high mark and the receiver's hunting,
and, by a PROBE, its echo in the transmitter. In MASK_WAIT a frame of the CURRENT peer with KEPT_VALID set, stage code 2 to 5,
with class and expected peer as recorded, starts the burst: RANGING with the kept mask held, no length, probe 1 WAITING and
the 100 us timer armed, also under a record made UNUSED since (the model's choice, log entry 49). -/
def Obligations.FramesFromOthersAndOutsideTheStages : Prop :=
  ∀ (s : State) (p : Fin 32) (f : SidebandFrame) (lag : Fin 126) (sender : PeerId),
    ∀ c ∈ [Instr.beaconReceived p f, .probeReceived p f, .echoReceived p f lag], s.settled → f.senderChassis ≠ 0 →
    sender.chassis = f.senderChassis → sender.port.val = f.senderPort.toNat → (s.port p).rx ≠ none →
    let before := s.port p
    let stage := if 5 < f.stage.toNat then 0 else f.stage.toNat
    let rebuilt := fun (status : NeighborStatus) (attempt : BitVec 32) =>
      ({ status := status
         identity := some sender
         expected := expectedTaken f.expectedChassis f.expectedPort
         generation := f.generation
         trim := f.trim.toNat
         interval := f.interval.toNat
         fence := f.fenceMask
         stage := stage
         kept := if f.keptValid then some f.keptMask else none
         cls := classTaken f.verdictClass
         ready := f.ready
         length := none
         unmeasured := false
         suspect := false
         captureAttempt := attempt } : Neighbor)
    let refreshed := { rebuilt before.neighbor.status before.neighbor.captureAttempt with
      length := before.neighbor.length, unmeasured := before.neighbor.unmeasured, suspect := before.neighbor.suspect }
    let taken := fun (n : Neighbor) (summary : RangingSummary) => s.modPort p fun pt => { pt with
      neighbor := n
      summary := summary
      rx := none
      highMark := max pt.highMark stage
      counters := { pt.counters with validFrames := bump pt.counters.validFrames } }
    let leaves := fun u : State => exec (.beaconReceived p f) s = .next u
      ∧ (before.burst.running = false → ∃ t, exec c s = .next t ∧ Port.sameButTx (u.port p) (t.port p)
        ∧ (∀ q : Fin 32, q ≠ p → t.port q = s.port q) ∧ s.sameDevice t ∧ t.monitor = s.monitor)
    (before.neighbor.status = .current → before.neighbor.identity ≠ some sender → before.state.engaged = true →
      ∃ t, exec c s = .next t
        ∧ (t.port p).state = .sideband ∧ (t.port p).attempt = before.attempt + 1 ∧ (t.port p).highMark = 0
        ∧ (t.port p).neighbor = rebuilt .current (before.attempt + 1) ∧ (t.port p).summary = RangingSummary.reset
        ∧ (t.port p).silence = armMs (s.params.beaconInterval * s.params.silenceLimit)
        ∧ (t.port p).lastFailure = some ⟨.peerRestarted, before.state.stageCode, none, before.attempt⟩
        ∧ (t.port p).ready = false ∧ (t.port p).leftStages ∧ (t.port p).retryCount = before.retryCount
        ∧ (t.port p).counters.peerRestarts = bump before.counters.peerRestarts
        ∧ s.otherPortsKept t p ∧ s.sameDevice t)
    ∧ (before.neighbor.status = .current → before.neighbor.identity ≠ some sender → before.state = .sideband → stage = 0 →
      ∃ t, exec c s = .next t ∧ (t.port p).state = .sideband ∧ (t.port p).attempt = before.attempt
        ∧ (t.port p).neighbor = rebuilt .current before.attempt ∧ (t.port p).summary = RangingSummary.reset
        ∧ (t.port p).stageTimer = before.stageTimer ∧ s.otherPortsKept t p ∧ s.sameDevice t)
    ∧ (before.state = .backoff ∨ before.state = .fault →
      (before.neighbor.status = .stale → before.neighbor.identity = some sender → leaves (taken refreshed before.summary))
      ∧ (before.neighbor.status = .stale → before.neighbor.identity ≠ some sender →
        leaves (taken (rebuilt .stale before.attempt) RangingSummary.reset))
      ∧ (before.neighbor.status = .empty → leaves (taken before.neighbor before.summary)))
    ∧ (before.state = .verify .maskWait → before.neighbor.status = .current → before.neighbor.identity = some sender →
      before.neighbor.cls = classTaken f.verdictClass →
      before.neighbor.expected = expectedTaken f.expectedChassis f.expectedPort → f.keptValid = true →
      2 ≤ f.stage.toNat → f.stage.toNat ≤ 5 → before.tx.sending ≠ none →
      ∃ t, exec c s = .next t ∧ (t.port p).state = .verify .ranging
        ∧ (t.port p).neighbor = { refreshed with length := none, unmeasured := false, suspect := false }
        ∧ (t.port p).neighbor.kept = some f.keptMask ∧ (t.port p).summary = RangingSummary.reset
        ∧ (t.port p).burst.running = true ∧ (t.port p).burst.requested = 1
        ∧ (t.port p).burst.schedule = .running 125000 ∧ (t.port p).tx.probeWaiting = some 0
        ∧ (∀ k : Fin 8, (t.port p).burst.probes.get k =
            { Probe.reset with status := if k = 0 then .waiting else .unrequested })
        ∧ (t.port p).stageTimer = before.stageTimer ∧ (∀ q : Fin 32, q ≠ p → t.port q = s.port q) ∧ s.sameDevice t)

/-- A valid frame of any kind of the CURRENT peer that changes the peer verdict class or the peer expected peer, taken by a
verdict-bearing port and meeting no condition of Table 2-3: while the plan is LOADING the port's pending flag is set and
nothing computed, even just before the close (the model's choice, log entry 54); under a CLOSED plan its verdict is recomputed
in place from the refreshed record, the held inputs and attempt kept: FAIL is the failure VERDICT_FAIL with the stage code
advertised, and the port then stands in BACKOFF or FAULT; PASS or WARN leaves it its new record. A frame with READY taken in
READY_WAIT then makes the port ACTIVE. At a port in LANE_LOCK, ALIGN, MASK_WAIT without KEPT_VALID or HELD at SIDEBAND or
ALIGN such a frame changes no verdict and no state. In every case but the failure the record holds the frame's values. -/
def Obligations.ReportedFieldsStartAPass : Prop :=
  ∀ (s : State) (p : Fin 32) (f : SidebandFrame) (lag : Fin 126) (sender : PeerId),
    ∀ c ∈ [Instr.beaconReceived p f, .probeReceived p f, .echoReceived p f lag], s.settled → f.senderChassis ≠ 0 →
    sender.chassis = f.senderChassis → sender.port.val = f.senderPort.toNat → (s.port p).rx ≠ none →
    (s.port p).neighbor.status = .current → (s.port p).neighbor.identity = some sender →
    ((s.port p).neighbor.cls ≠ classTaken f.verdictClass
      ∨ (s.port p).neighbor.expected ≠ expectedTaken f.expectedChassis f.expectedPort) →
    let before := s.port p
    let record := before.neighbor.refresh f
    let held := before.verdict
    let v := (s.modPort p fun pt => { pt with neighbor := record }).judge p held.held held.attempt
    let quiet := f.stage.toNat ≤ 5 ∧ 4 ≤ f.stage.toNat ∧ f.ready = true ∧ f.keptValid = true
    let next := if before.state = .verify .readyWait then PortState.active else before.state
    (before.state.bearing = true → quiet → s.plan.state ≠ .closed →
      ∃ t, exec c s = .next t ∧ (t.port p).verdict = { held with pending := true }
        ∧ (t.port p).neighbor = record ∧ (t.port p).state = next
        ∧ (t.port p).silence = armMs (s.params.beaconInterval * s.params.silenceLimit)
        ∧ (∀ q : Fin 32, q ≠ p → t.port q = s.port q) ∧ s.sameDevice t)
    ∧ (before.state.bearing = true → s.plan.state = .closed →
      (v.cls = .fail → ∃ t, exec c s = .next t ∧ (t.port p).verdict = v
        ∧ s.failed t p .verdictFail before.state.stageCode none ∧ (t.port p).neighbor = { record with status := .stale }
        ∧ s.sameDevice t)
      ∧ (v.cls ≠ .fail → quiet → ∃ t, exec c s = .next t ∧ (t.port p).verdict = v
        ∧ v.pending = false ∧ v.epoch = s.plan.epoch ∧ (t.port p).neighbor = record ∧ (t.port p).state = next
        ∧ (∀ q : Fin 32, q ≠ p → t.port q = s.port q) ∧ s.sameDevice t))
    ∧ ((before.state = .laneLock ∨ before.state = .align ∨ before.state = .verify .maskWait ∧ f.keptValid = false
        ∨ (∃ n, before.state = .held .sideband n) ∨ ∃ n, before.state = .held .align n) →
      2 ≤ f.stage.toNat → f.stage.toNat ≤ 5 →
      ∃ t, exec c s = .next t ∧ (t.port p).verdict = held ∧ (t.port p).neighbor = record
        ∧ (t.port p).state = before.state ∧ (t.port p).lanes = before.lanes
        ∧ (∀ q : Fin 32, q ≠ p → t.port q = s.port q) ∧ s.sameDevice t)

/-- A valid PROBE taken in a sending state while a frame is sent adds its T1 and receive stamp to the waiting echoes when fewer
than two wait, and adds none otherwise; the valid frames counter goes up. That its receive stamp is the timestamp at the event
is the model's reading (log entry 10). A valid ECHO from the CURRENT peer that shows no restart, in RANGING with another probe
still open, makes the OUTSTANDING probe whose T1 it carries ANSWERED, with turnaround, T4 (the timestamp at which its sync
sequence was found plus the operand, log entry 9) and net loop time (T4 - T1 mod 2^32) - turnaround and its timeout stopped;
an ECHO that matches no probe leaves the burst as it was. In both the port stays in RANGING. The ECHO that answers the last
open probe, with the plan not CLOSED, takes the port to PLAN_WAIT with its timer paused and the outcome that a burst so
completed gives. -/
def Obligations.ProbesAreEchoedAndEchoesMatched : Prop :=
  (∀ (s : State) (p : Fin 32) (f : SidebandFrame), s.settled → (s.port p).state.sending = true → (s.port p).rx ≠ none →
    f.senderChassis ≠ 0 → f.senderPort.toNat ≤ 31 → (s.port p).tx.sending ≠ none →
    ∃ t, exec (.probeReceived p f) s = .next t
      ∧ (t.port p).tx.echoes = (if (s.port p).tx.echoes.length < 2 then
          (s.port p).tx.echoes ++ [⟨f.probeStamp, s.timestamp⟩] else (s.port p).tx.echoes)
      ∧ (t.port p).counters.validFrames = bump (s.port p).counters.validFrames
      ∧ (t.port p).tx.sending ≠ none ∧ s.otherPortsKept t p ∧ s.sameDevice t)
    ∧ (∀ (s : State) (p : Fin 32) (f : SidebandFrame) (found : BitVec 32) (lag : Fin 126) (sender : PeerId), s.settled →
        (s.port p).rx = some found → f.senderChassis ≠ 0 → sender.chassis = f.senderChassis → sender.port.val = f.senderPort.toNat →
        (s.port p).neighbor.status = .current → (s.port p).neighbor.identity = some sender →
        (s.port p).neighbor.cls = classTaken f.verdictClass →
        (s.port p).neighbor.expected = expectedTaken f.expectedChassis f.expectedPort →
        (s.port p).state = .verify .ranging → f.keptValid = true → 2 ≤ f.stage.toNat → f.stage.toNat ≤ 5 →
        (s.port p).burst.running = true →
        let t4 : BitVec 32 := found + BitVec.ofNat 32 lag.val
        ((∀ k : Fin 8, ¬ (((s.port p).burst.probes.get k).status = .outstanding
            ∧ ((s.port p).burst.probes.get k).t1 = some f.probeStamp)) →
          ∃ t, exec (.echoReceived p f lag) s = .next t ∧ (t.port p).burst = (s.port p).burst
            ∧ (t.port p).state = .verify .ranging ∧ ∀ q : Fin 32, q ≠ p → t.port q = s.port q)
        ∧ (∀ k open_ : Fin 8, ((s.port p).burst.probes.get k).status = .outstanding →
          ((s.port p).burst.probes.get k).t1 = some f.probeStamp →
          (∀ j : Fin 8, j < k → ((s.port p).burst.probes.get j).t1 ≠ some f.probeStamp) → open_ ≠ k →
          ((s.port p).burst.probes.get open_).status ≠ .answered →
          ((s.port p).burst.probes.get open_).status ≠ .timedOut →
          ∃ t, exec (.echoReceived p f lag) s = .next t
            ∧ (t.port p).burst.probes.get k = { (s.port p).burst.probes.get k with
                status := .answered
                turnaround := some f.turnaround
                t4 := some t4
                net := some ((t4 - f.probeStamp).toNat - f.turnaround.toNat : Int)
                timeout := .stopped }
            ∧ (∀ j : Fin 8, j ≠ k → (t.port p).burst.probes.get j = (s.port p).burst.probes.get j)
            ∧ (t.port p).state = .verify .ranging ∧ ∀ q : Fin 32, q ≠ p → t.port q = s.port q)
        ∧ ∀ k : Fin 8, ((s.port p).burst.probes.get k).status = .outstanding →
          ((s.port p).burst.probes.get k).t1 = some f.probeStamp →
          (∀ j : Fin 8, j < k → ((s.port p).burst.probes.get j).t1 ≠ some f.probeStamp) →
          (∀ j : Fin 8, j ≠ k → ((s.port p).burst.probes.get j).status = .answered
            ∨ ((s.port p).burst.probes.get j).status = .timedOut) → s.plan.state ≠ .closed →
          let u := s.modPort p fun pt => { pt with
            neighbor := pt.neighbor.refresh f
            burst := { pt.burst with probes := pt.burst.probes.modify k fun pr => { pr with
              status := .answered
              turnaround := some f.turnaround
              t4 := some t4
              net := some ((t4 - f.probeStamp).toNat - f.turnaround.toNat : Int)
              timeout := .stopped } } }
          ∃ t, exec (.echoReceived p f lag) s = .next t ∧ (t.port p).state = .verify (.planWait true)
            ∧ (t.port p).stageTimer = (s.port p).stageTimer.pause ∧ (t.port p).burst = Burst.reset
            ∧ (t.port p).summary = ((u.completeBurst p).port p).summary
            ∧ (t.port p).neighbor = ((u.completeBurst p).port p).neighbor
            ∧ ∀ q : Fin 32, q ≠ p → t.port q = s.port q)

/-- In RANGING with a frame being sent, SCHEDULE_TIMER_EXPIRY makes the next probe WAITING and re-arms the 100 us timer, but not
after the eighth. PROBE_TIMEOUT_EXPIRY makes an OUTSTANDING probe TIMED_OUT; while another probe is open nothing else changes.
At the last probe, with the plan not CLOSED, the port waits in PLAN_WAIT with its timer paused and the record holds the
outcome: no length with LENGTH_UNMEASURED for fewer than 4 valid samples, otherwise R = N_min - 192 - both trims,
LENGTH_SUSPECT exactly when R is below 0, and the length min(65535, (R x 40,000 + v div 2) div v) for R taken as at least 0
and v the delay of the cable kind. That a stopped schedule timer, a port not in RANGING and a probe not OUTSTANDING take no
effect is the model's reading (log entry 3). -/
def Obligations.BurstAsksEightProbesAndEndsInALength : Prop :=
  ∀ (s : State) (p : Fin 32), s.settled →
    ((s.port p).burst.schedule.isRunning = false ∨ (s.port p).state ≠ .verify .ranging →
        exec (.scheduleTimerExpiry p) s = .next s)
    ∧ (∀ k : Fin 8, (s.port p).state = .verify .ranging → (s.port p).burst.schedule.isRunning = true →
        (s.port p).burst.requested = k.val → (s.port p).tx.sending ≠ none →
        exec (.scheduleTimerExpiry p) s = .next (s.modPort p fun pt => { pt with
          burst := { pt.burst with
            requested := k.val + 1
            probes := pt.burst.probes.modify k fun pr => { pr with status := .waiting }
            schedule := if k.val < 7 then .running 125000 else .stopped }
          tx := { pt.tx with probeWaiting := some k } }))
    ∧ ∀ k : Fin 8,
        (((s.port p).burst.probes.get k).status ≠ .outstanding
            ∨ ((s.port p).burst.probes.get k).timeout.isRunning = false →
          exec (.probeTimeoutExpiry p k) s = .next s)
        ∧ (((s.port p).burst.probes.get k).status = .outstanding →
          ((s.port p).burst.probes.get k).timeout.isRunning = true →
          let done := fun j : Fin 8 => ((s.port p).burst.probes.get j).status = .answered
            ∨ ((s.port p).burst.probes.get j).status = .timedOut
          ((∃ j : Fin 8, j ≠ k ∧ ¬ done j) → exec (.probeTimeoutExpiry p k) s =
            .next (s.modPort p fun pt => { pt with burst := { pt.burst with
              probes := pt.burst.probes.modify k fun pr => { pr with status := .timedOut, timeout := .stopped } } }))
          ∧ ((∀ j : Fin 8, j ≠ k → done j) → (s.port p).state = .verify .ranging → (s.port p).burst.running = true →
            s.plan.state ≠ .closed →
            ∃ t, exec (.probeTimeoutExpiry p k) s = .next t
              ∧ (t.port p).state = .verify (.planWait true) ∧ (t.port p).stageTimer = (s.port p).stageTimer.pause
              ∧ (t.port p).burst = Burst.reset ∧ (t.port p).verdict = (s.port p).verdict
              ∧ (∀ q : Fin 32, q ≠ p → t.port q = s.port q) ∧ s.sameDevice t ∧ t.monitor = s.monitor
              ∧ (t.port p).summary.validSamples = some (s.port p).burst.validSamples.length
              ∧ ((s.port p).burst.validSamples.length < 4 → (t.port p).neighbor =
                  { (s.port p).neighbor with length := none, unmeasured := true, suspect := false })
              ∧ ∀ low ∈ (s.port p).burst.validSamples, 4 ≤ (s.port p).burst.validSamples.length →
                  (∀ x ∈ (s.port p).burst.validSamples, low ≤ x) →
                  let r : Int := low - 192 - (s.port p).trim - (s.port p).neighbor.trim
                  let v := s.params.cableDelays.get (s.expected p).base.cableKind
                  (t.port p).neighbor = { (s.port p).neighbor with
                      length := some (min 65535 ((r.toNat * 40000 + v / 2) / v))
                      unmeasured := false
                      suspect := decide (r < 0) }))

/-- LOCK_ACQUIRED by a LOCKING lane with nothing outstanding makes it SEARCHING with the threshold and minimum window captured, by
FORCED at the forced setting if one is held, else by HOLD at the previous setting or MIDPOINT at 0 by eq_method; its current
setting is the step's and its request joins the tail of the bring-up queue with the port's attempt number, or is served at
once by a free engine; where a measurement of the lane abandoned before is still in service, the first step waits for it, no
request is placed and the current setting stays; nothing else changes. A lane that is not LOCKING is unchanged.
LOCK_TIMER_EXPIRY of a LOCKING lane makes it FAILED with NO_LOCK at its current setting: while another lane of the port has no
result nothing else changes, and when every unfenced lane has FAILED it is the failure NO_LANES with stage code 2. That a lane
that is neither LOCKING nor FAILED ignores both events is the model's reading (log entry 3). -/
def Obligations.LockStartsASearchOrFailsTheLane : Prop :=
  ∀ (s : State) (p : Fin 32) (l : Fin 4), s.settled →
    let ln := (s.port p).lane l
    (ln.state ≠ .locking → exec (.lockAcquired p l) s = .next s ∧ exec (.lockTimerExpiry p l) s = .next s)
    ∧ (∀ (method : SearchMethod) (setting : Fin 32), ln.state = .locking →
        (ln.forced = some setting ∧ method = .forced
          ∨ ln.forced = none ∧ s.params.eqMethod = .hold ∧ setting = ln.previous ∧ method = .hold
          ∨ ln.forced = none ∧ s.params.eqMethod = .midpoint ∧ setting = 0 ∧ method = .midpoint) →
        let searching := fun (current : Fin 32) (marker : Marker) => s.modPort p fun pt => pt.modLane l fun x => { x with
          state := .searching
          lockTimer := .stopped
          passMv := s.params.eqPassMv
          minWindow := s.params.eqMinWindow
          window := none
          currentRun := none
          bestRun := none
          method := method
          step := setting
          current := current
          marker := marker }
        (ln.marker = .none → s.monitor.engine ≠ none → exec (.lockAcquired p l) s =
          .next (State.withMonitor (searching setting .waiting)
            { s.monitor with queue := s.monitor.queue ++ [⟨globalLane p l, (s.port p).attempt⟩] }))
        ∧ (ln.marker = .none → s.monitor.engine = none → s.monitor.queue = [] → s.monitor.jobs = [] →
          exec (.lockAcquired p l) s = .next (State.withMonitor (searching setting .inService)
            { s.monitor with
              runCount := min 8 (s.monitor.runCount + 1)
              engine := some ⟨globalLane p l, .bringUp (s.port p).attempt, setting, .running 50000⟩ }))
        ∧ (ln.marker = .inService ∨ ln.marker = .abandoned → s.monitor.engine ≠ none →
          exec (.lockAcquired p l) s = .next (searching ln.current ln.marker)))
    ∧ (ln.state = .locking → ln.lockTimer.isRunning = true →
        ((s.port p).state ≠ .laneLock ∨ (∃ m : Fin 4, m ≠ l ∧ (((s.port p).lane m).state = .idle
            ∨ ((s.port p).lane m).state = .locking ∨ ((s.port p).lane m).state = .searching)) →
          exec (.lockTimerExpiry p l) s = .next (s.modPort p fun pt => pt.modLane l fun x =>
            { x with state := .failed .noLock, lockTimer := .stopped }))
        ∧ ((s.port p).state = .laneLock → (∀ m : Fin 4, m ≠ l → ((s.port p).lane m).state = .fenced
            ∨ ((s.port p).lane m).state.isFailed = true) →
          ∃ t, exec (.lockTimerExpiry p l) s = .next t ∧ s.failed t p .noLanes 2 none
            ∧ s.otherPortsKept t p ∧ s.sameDevice t))

/-- MEASUREMENT_COMPLETE of a bring-up measurement, with another lane of a port in LANE_LOCK still open and no scan job, is
delivered when its attempt number is the port's and the lane is SEARCHING with it in service. FORCED and HOLD make the lane
GOOD at the step's setting when the corrected value reaches the captured threshold; below it FORCED fails with FORCED_FAIL and
HOLD begins the sweep at 0. A MIDPOINT step extends or ends the current run, a longer run becomes the best, and the next
setting begins; after setting 31 the lane is GOOD at the middle of the best run, marginal when it is narrower than the
minimum, or FAILED with EQ_EMPTY without one. GOOD writes the previous setting, FAILED returns to it. Otherwise the marker
alone is cleared, and a SEARCHING lane begins its first step. A step begun sets the current setting and joins the tail of the
queue, whose head is then served. -/
def Obligations.DeliveredResultsDriveTheSearch : Prop :=
  ∀ (s : State) (raw : BitVec 10) (p : Fin 32) (l : Fin 4) (m : Measurement) (attempt : BitVec 32), s.settled →
    s.monitor.engine = some m → m.lane.val = 4 * p.val + l.val → m.source = .bringUp attempt → s.monitor.jobs = [] →
    (∀ r ∈ s.monitor.queue, r.lane ≠ m.lane) →
    ((s.port p).state ≠ .laneLock ∨ ∃ o : Fin 4, o ≠ l ∧ (((s.port p).lane o).state = .idle
      ∨ ((s.port p).lane o).state = .locking ∨ ((s.port p).lane o).state = .searching)) →
    let ln := (s.port p).lane l
    let v := (max 0 (min 1023 ((raw.toNat : Int) + (s.monitor.setups.get m.lane).offset))).toNat
    let live := attempt = (s.port p).attempt ∧ ln.marker = .inService ∧ ln.state = .searching
    ∃ t, exec (.measurementComplete raw) s = .next t ∧ (t.port p).state = (s.port p).state
      ∧ (let served := fun waiting : List BringUpRequest => t.monitor.queue = waiting.tail
          ∧ t.monitor.engine.map (fun e => (e.lane, e.source)) = waiting.head?.map fun r => (r.lane, .bringUp r.attempt)
         let ended := fun x : Lane => (t.port p).lane l = { x with marker := .none } ∧ served s.monitor.queue
         let begun := fun x : Lane =>
          (t.port p).lane l =
            { x with current := x.step, marker := if s.monitor.queue = [] then .inService else .waiting }
          ∧ served (s.monitor.queue ++ [⟨m.lane, (s.port p).attempt⟩])
         let reached := fun (setting : Fin 32) (window : Option Run) (marginal : Bool) (x : Lane) =>
          ended { x with state := .good marginal, current := setting, previous := setting, window := window }
         (¬ live → ln.state ≠ .searching → ended ln) ∧ (¬ live → ln.state = .searching → begun ln)
         ∧ (live → ln.method = .forced ∨ ln.method = .hold → ln.passMv ≤ v → reached ln.step none false ln)
         ∧ (live → ln.method = .forced → v < ln.passMv →
            ended { ln with state := .failed .forcedFail, current := ln.previous })
         ∧ (live → ln.method = .hold → v < ln.passMv →
            begun { ln with method := .midpoint, step := 0, currentRun := none, bestRun := none })
         ∧ (live → ln.method = .midpoint →
            let run : Option Run := if ln.passMv ≤ v then
                some ⟨(match ln.currentRun with
                  | some r => r.low
                  | none => ln.step), ln.step⟩
              else none
            let width : Option Run → Nat := fun o => match o with
              | some r => r.high.val - r.low.val + 1
              | none => 0
            let best := if width ln.bestRun < width run then run else ln.bestRun
            let swept := { ln with currentRun := run, bestRun := best }
            (∀ n : Fin 32, n.val = ln.step.val + 1 → begun { swept with step := n })
            ∧ (ln.step = 31 → best = none → ended { swept with state := .failed .eqEmpty, current := ln.previous })
            ∧ (ln.step = 31 → ∀ r (c : Fin 32), best = some r → c.val = (r.low.val + r.high.val) / 2 →
                reached c (some r) (decide (width best < ln.minWindow)) swept)))

/-- The last open lane of a port in LANE_LOCK ends by LOCK_TIMER_EXPIRY or its third LOSS_OF_LOCK (FAILED with NO_LOCK), or by
MEASUREMENT_COMPLETE of its step: GOOD by FORCED or HOLD at the threshold, GOOD at the middle of the best run or FAILED with
EQ_EMPTY by the step 31 of a MIDPOINT sweep, FAILED with FORCED_FAIL by FORCED below it. With that lane or another GOOD the
port enters ALIGN: the align timer armed, the marker wait of 13,104 TU running with collection 0, no lane seen, and every lane
NOT_ALIGNED with its items cleared; that lane holds its result, and the other lanes, the attempt number and the neighbor
record stay. With none GOOD it is the failure NO_LANES with stage code 2. MEASUREMENT_COMPLETE also gives the engine to what
the arbiter selects from the requests and scan jobs that wait (State.select, of which the statement on the arbiter tells); of
other ports (in a failure, of those not verdict-bearing) nothing changes but the marker of the lane so served. In a failure
the selection is stated where no other port is verdict-bearing. -/
def Obligations.LastLaneResultEndsLaneLock : Prop :=
  ∀ (s : State) (p : Fin 32) (l : Fin 4), s.settled → (s.port p).state = .laneLock →
    (∀ o : Fin 4, o ≠ l → ((s.port p).lane o).state = .fenced ∨ (s.port p).good o = true
      ∨ ((s.port p).lane o).state.isFailed = true) →
    (∀ r ∈ s.monitor.queue, lanePort r.lane = p → r.lane.val = 4 * p.val + l.val) →
    let ln := (s.port p).lane l
    let aligning := fun t : State => (t.port p).state = .align ∧ (t.port p).stageTimer = armMs s.params.alignTimeout
      ∧ (t.port p).deskew.phase = .markerWait ∧ (t.port p).deskew.collection = 0
      ∧ (t.port p).deskew.waitTimer = .running 13104 ∧ (t.port p).deskew.reference = none ∧ (t.port p).deskew.keptMask = 0
      ∧ (t.port p).deskew.mapClass = none ∧ (t.port p).deskew.skewExcess = false
      ∧ (∀ o : Fin 4, (t.port p).dlane o = DeskewLane.reset)
      ∧ (∀ o : Fin 4, o ≠ l → (t.port p).lane o = (s.port p).lane o) ∧ (t.port p).attempt = (s.port p).attempt
      ∧ (t.port p).neighbor = (s.port p).neighbor ∧ (t.port p).retryCount = (s.port p).retryCount
    let ends := fun (t : State) (result : Lane) (kept : Fin 32 → Prop) => s.sameDevice t
      ∧ (if result.state.isGood = true ∨ ∃ o : Fin 4, o ≠ l ∧ (s.port p).good o = true then
          aligning t ∧ (t.port p).lane l = result ∧ ∀ q : Fin 32, q ≠ p → kept q
        else s.failed t p .noLanes 2 none ∧ ∀ q : Fin 32, q ≠ p → (s.port q).state.bearing = false → kept q)
    (ln.state = .locking → ln.lockTimer.isRunning = true →
      ∃ t, exec (.lockTimerExpiry p l) s = .next t
        ∧ ends t { ln with state := .failed .noLock, lockTimer := .stopped } fun q => t.port q = s.port q)
    ∧ (∀ mask : BitVec 4, (∀ o : Fin 4, mask.getLsbD o.val = true ↔ o = l) → ln.state = .searching → 2 ≤ ln.lockLosses →
      ∃ t, exec (.lossOfLock p mask) s = .next t
        ∧ ends t { ln with
            state := .failed .noLock
            current := ln.previous
            lockLosses := ln.lockLosses + 1
            marker := if ln.marker = .inService ∨ ln.marker = .abandoned then .abandoned else .none }
          fun q => t.port q = s.port q)
    ∧ ∀ (raw : BitVec 10) (m : Measurement), s.monitor.engine = some m → m.lane.val = 4 * p.val + l.val →
        m.source = .bringUp (s.port p).attempt → ln.state = .searching → ln.marker = .inService →
        (∀ r ∈ s.monitor.queue, lanePort r.lane ≠ p) →
        let v := (max 0 (min 1023 ((raw.toNat : Int) + (s.monitor.setups.get m.lane).offset))).toNat
        let kept := fun (t : State) (q : Fin 32) => { t.port q with lanes := (s.port q).lanes } = s.port q
          ∧ ∀ o : Fin 4, (t.port q).lane o = (s.port q).lane o
            ∨ ((t.port q).lane o = { (s.port q).lane o with marker := .inService }
              ∧ ∃ r e, s.monitor.queue.head? = some r ∧ r.lane.val = 4 * q.val + o.val ∧ t.monitor.engine = some e
                ∧ e.lane = r.lane ∧ e.source = .bringUp r.attempt)
        let free := fun t : State => t.withMonitor { t.monitor with
          engine := none
          queue := s.monitor.queue
          jobs := s.monitor.jobs
          runCount := s.monitor.runCount }
        let results := fun x : Lane => ∃ t, exec (.measurementComplete raw) s = .next t
          ∧ ends t { x with marker := .none } (kept t)
          ∧ ((t.port p).state = .align ∨ (∀ q : Fin 32, q ≠ p → (s.port q).state.bearing = false) →
              t.monitor = (free t).select.state.monitor)
        let reached := fun (setting : Fin 32) (window : Option Run) (marginal : Bool) (x : Lane) =>
          results { x with state := .good marginal, current := setting, previous := setting, window := window }
        (ln.method = .forced ∨ ln.method = .hold → ln.passMv ≤ v → reached ln.step none false ln)
        ∧ (ln.method = .forced → v < ln.passMv → results { ln with state := .failed .forcedFail, current := ln.previous })
        ∧ (ln.method = .midpoint → ln.step = 31 →
            let run : Option Run := if ln.passMv ≤ v then
                some ⟨(match ln.currentRun with
                  | some r => r.low
                  | none => ln.step), ln.step⟩
              else none
            let width : Option Run → Nat := fun o => match o with
              | some r => r.high.val - r.low.val + 1
              | none => 0
            let best := if width ln.bestRun < width run then run else ln.bestRun
            let swept := { ln with currentRun := run, bestRun := best }
            (best = none → results { swept with state := .failed .eqEmpty, current := ln.previous })
            ∧ ∀ r (c : Fin 32), best = some r → c.val = (r.low.val + r.high.val) / 2 →
                reached c (some r) (decide (width best < ln.minWindow)) swept)

/-- LOSS_OF_LOCK at an ACTIVE port is the failure LANE_LOST with stage code 5 when a GOOD kept lane is among the lanes lost, and
the failing lane is the lowest such. When no GOOD lane lost is kept, the port stays ACTIVE and each GOOD lane lost is FAILED
with NO_LOCK at its setting, its alignment status NO_LOCK; nothing else changes. In DISABLED, WAIT_CABLE, SIDEBAND, HELD at
SIDEBAND, BACKOFF and FAULT it changes nothing. -/
def Obligations.LossOfLockCountsWhereItMatters : Prop :=
  ∀ (s : State) (p : Fin 32) (lanes : BitVec 4), s.settled →
    let lost := fun l : Fin 4 => lanes.getLsbD l.val && (s.port p).good l
    ((s.port p).state.sending = false ∨ (s.port p).state = .sideband ∨ (∃ n, (s.port p).state = .held .sideband n)
        ∨ (s.port p).state = .backoff ∨ (s.port p).state = .fault → exec (.lossOfLock p lanes) s = .next s)
    ∧ (∀ l : Fin 4, (s.port p).state = .active → lost l = true → (s.port p).keptLane l = true →
        (∀ m : Fin 4, m < l → lost m = true → (s.port p).keptLane m = false) →
        ∃ t, exec (.lossOfLock p lanes) s = .next t ∧ s.failed t p .laneLost 5 (some l)
          ∧ s.otherPortsKept t p ∧ s.sameDevice t)
    ∧ ((s.port p).state = .active → (∀ l : Fin 4, lost l = true → (s.port p).keptLane l = false) →
        exec (.lossOfLock p lanes) s = .next (s.modPort p fun pt => { pt with
          lanes := pt.lanes.mapFin fun l ln => if lost l then { ln with state := .failed .noLock } else ln
          deskew := { pt.deskew with
            lanes := pt.deskew.lanes.mapFin fun l dl => if lost l then { dl with status := .noLock } else dl } }))

/-- In LANE_LOCK, with a lane left open, each SEARCHING or GOOD lane that loses lock counts it and is LOCKING again at its forced
or previous setting with the lock timer armed, no window, its waiting request withdrawn and one in service abandoned; at the
third loss it is FAILED with NO_LOCK at its previous setting. In ALIGN each GOOD lane lost is FAILED with NO_LOCK and dropped:
status NO_LOCK, no marker seen, no logical lane, no stamps. With no GOOD lane left in the marker wait, or no collecting lane
left, that is NO_LANES with stage code 3; a reference lane lost gives its role to the lowest collecting lane and the
collection starts afresh with its number; otherwise the alignment goes on. In VERIFY and in HELD at ALIGN or VERIFY a kept
lane lost realigns the port over the lanes still GOOD, with the lanes lost NO_LOCK, no burst, READY clear and the align timer
armed, or is NO_LANES with stage code 3 when none is; lanes lost that are not kept only fail. That a lane dropped without a
marker takes NO_LOCK and an armed close runs on (log entry 22), and which statuses the other lanes take at a realignment (log
entry 23), are the model's readings. -/
def Obligations.LossOfLockBeforeActive : Prop :=
  ∀ (s : State) (p : Fin 32) (lanes : BitVec 4), s.settled →
    let before := s.port p
    let lost := fun l : Fin 4 => lanes.getLsbD l.val && before.good l
    let leftGood := ∃ l : Fin 4, before.good l = true ∧ lost l = false
    let failedLanes := fun t : State => ∀ l : Fin 4, (t.port p).lane l =
      if lost l then { before.lane l with state := .failed .noLock } else before.lane l
    let dropped := fun (l : Fin 4) (dl : DeskewLane) => if lost l then
      { dl with seen := false, logical := none, stamps := .replicate 4 none, status := .noLock } else dl
    (before.state = .laneLock →
      let relocks := fun l : Fin 4 => lanes.getLsbD l.val = true ∧ ((before.lane l).state = .searching ∨ before.good l = true)
      (∃ l : Fin 4, (before.lane l).state = .idle ∨ (before.lane l).state = .locking
          ∨ (before.lane l).state = .searching ∧ ¬ relocks l ∨ relocks l ∧ (before.lane l).lockLosses < 2) →
      ∃ t, exec (.lossOfLock p lanes) s = .next t ∧ (t.port p).state = .laneLock
        ∧ (∀ l : Fin 4, (t.port p).lane l =
            if relocks l then
              let x := { before.lane l with
                lockLosses := (before.lane l).lockLosses + 1
                marker := if (before.lane l).marker = Marker.inService ∨ (before.lane l).marker = Marker.abandoned
                  then .abandoned else .none }
              if (before.lane l).lockLosses < 2 then
                { x with
                  state := .locking
                  lockTimer := armMs s.params.laneLockTimeout
                  window := none
                  current := match x.forced with
                    | some setting => setting
                    | none => x.previous }
              else { x with state := .failed .noLock, current := x.previous }
            else before.lane l)
        ∧ (∀ r, r ∈ t.monitor.queue ↔ r ∈ s.monitor.queue ∧ ¬ ∃ l : Fin 4, r.lane.val = 4 * p.val + l.val
            ∧ lanes.getLsbD l.val = true ∧ (before.lane l).state = .searching)
        ∧ (∀ q : Fin 32, q ≠ p → t.port q = s.port q) ∧ s.sameDevice t)
    ∧ (before.state = .align →
      ((before.deskew.phase = .markerWait ∧ ¬ leftGood ∨ before.deskew.phase = .collecting
          ∧ ∀ l : Fin 4, before.collecting l = true → lost l = true) →
        ∃ t, exec (.lossOfLock p lanes) s = .next t ∧ s.failed t p .noLanes 3 none ∧ s.otherPortsKept t p ∧ s.sameDevice t)
      ∧ ((before.deskew.phase = .markerWait ∧ (∃ l : Fin 4, before.good l = true ∧ lost l = false
            ∧ (before.dlane l).seen = false)
          ∨ before.deskew.phase = .collecting ∧ (∃ l : Fin 4, before.collecting l = true ∧ lost l = false)
            ∧ ∀ r, before.deskew.reference = some r → lost r = false) →
        exec (.lossOfLock p lanes) s = .next (s.modPort p fun pt => { pt with
          lanes := pt.lanes.mapFin fun l ln => if lost l then { ln with state := .failed .noLock } else ln
          deskew := { pt.deskew with lanes := pt.deskew.lanes.mapFin dropped } }))
      ∧ (∀ r n : Fin 4, before.deskew.phase = .collecting → before.deskew.reference = some r → lost r = true →
          before.collecting n = true → lost n = false →
          (∀ l : Fin 4, l < n → before.collecting l = true → lost l = true) →
          ∃ t, exec (.lossOfLock p lanes) s = .next t ∧ (t.port p).state = .align ∧ failedLanes t
            ∧ (t.port p).deskew.phase = .collecting ∧ (t.port p).deskew.reference = some n
            ∧ (t.port p).deskew.collection = before.deskew.collection ∧ (t.port p).deskew.closeTimer = .stopped
            ∧ (∀ l : Fin 4, (t.port p).dlane l =
                if before.collecting l = true ∧ lost l = false then { before.dlane l with stamps := .replicate 4 none }
                else dropped l (before.dlane l))
            ∧ (∀ q : Fin 32, q ≠ p → t.port q = s.port q) ∧ s.sameDevice t))
    ∧ (before.state.name = .verify ∨ (∃ n, before.state = .held .align n) ∨ (∃ n, before.state = .held .verify n) →
      let keptLost := ∃ l : Fin 4, lost l = true ∧ before.keptLane l = true
      (keptLost → leftGood → ∃ t, exec (.lossOfLock p lanes) s = .next t ∧ (t.port p).state = .align ∧ failedLanes t
          ∧ (t.port p).stageTimer = armMs s.params.alignTimeout ∧ (t.port p).ready = false
          ∧ (t.port p).deskew.phase = .markerWait ∧ (t.port p).deskew.collection = 0
          ∧ (t.port p).deskew.waitTimer = .running 13104 ∧ (t.port p).keptValid = false
          ∧ (∀ l : Fin 4, (t.port p).dlane l =
              { DeskewLane.reset with status := if lost l then .noLock else .notAligned })
          ∧ (t.port p).burst = Burst.reset ∧ (t.port p).attempt = before.attempt ∧ (t.port p).highMark = before.highMark
          ∧ (t.port p).retryCount = before.retryCount ∧ (t.port p).neighbor = before.neighbor
          ∧ (∀ q : Fin 32, q ≠ p → t.port q = s.port q) ∧ s.sameDevice t)
      ∧ (keptLost → ¬ leftGood → ∃ t, exec (.lossOfLock p lanes) s = .next t ∧ s.failed t p .noLanes 3 none
          ∧ s.otherPortsKept t p ∧ s.sameDevice t)
      ∧ (¬ keptLost → exec (.lossOfLock p lanes) s = .next (s.modPort p fun pt => { pt with
          lanes := pt.lanes.mapFin fun l ln => if lost l then { ln with state := .failed .noLock } else ln
          deskew := { pt.deskew with
            lanes := pt.deskew.lanes.mapFin fun l dl => if lost l then { dl with status := .noLock } else dl } })))

/-- MEASUREMENT_COMPLETE with the engine busy writes the measured lane's record whole: the raw value plus offset held in 0 to
1023, the setting recorded at start, the source, BELOW, WITHIN or ABOVE by the lane's limits, and the next sequence number,
which goes from 65,535 to 1; every other record and every setup is kept, and the port's measurements counter goes up by one;
with no bring-up request waiting, other ports that are not verdict-bearing are unchanged. A scan measurement outside its
limits, with notices disabled and no scan job left in the list (its job was cancelled), hands LANE_LIMIT for its port and
lane; that of a running job is stated of the arbiter. With the engine free nothing changes (the model's reading, log entry 3). -/
def Obligations.CompletionsWriteTheResultTable : Prop :=
  ∀ (s : State) (raw : BitVec 10), s.settled →
    (s.monitor.engine = none → exec (.measurementComplete raw) s = .next s)
    ∧ ∀ m : Measurement, s.monitor.engine = some m →
        let setup := s.monitor.setups.get m.lane
        let v := (max 0 (min 1023 ((raw.toNat : Int) + setup.offset))).toNat
        let status : LimitStatus := if v < setup.low then .below else if setup.high < v then .above else .within
        let seq := if s.monitor.sequence < 65535 then s.monitor.sequence + 1 else 1
        let source : ResultSource := match m.source with
          | .bringUp _ => .bringUp
          | .scan _ => .scan
        ∃ t, exec (.measurementComplete raw) s = .next t
          ∧ t.monitor.results.get m.lane = ⟨v, m.setting, source, status, seq⟩ ∧ t.monitor.sequence = seq
          ∧ (∀ g : Fin 128, g ≠ m.lane → t.monitor.results.get g = s.monitor.results.get g)
          ∧ t.monitor.setups = s.monitor.setups
          ∧ (t.port (lanePort m.lane)).counters.measurements = bump (s.port (lanePort m.lane)).counters.measurements
          ∧ (s.monitor.queue = [] → s.otherPortsKept t (lanePort m.lane)) ∧ s.sameDevice t
          ∧ (∀ job, m.source = .scan job → s.monitor.jobs = [] → s.mli.notify = false →
              t.notices = (if status = .within then s.notices
                else handNotice (.laneLimit (lanePort m.lane) (1#4 <<< (lanePhysical m.lane).val) 0) s.notices))

/-- MEASUREMENT_COMPLETE of a scan measurement counts towards its job if that is in the list, and the engine is given on. The head
job's next lane is the lowest of its mask from its next lane on that is not FENCED, or, with none left in a pass that is not
the last, the lowest of the mask in the next pass. With both sides waiting the scan lane is served when the run count is 8,
with the run count then 0, and the head request otherwise, with the run count one higher, held at 8, and its lane's marker in
service; with only one side waiting that is served. Each measurement starts with the lane's current setting and 40 us left.
With notices disabled LANE_LIMIT is handed for a result outside its limits. A last job with no lane left in its last pass
leaves the list: MONITOR_DONE with COMPLETE is handed, after LANE_LIMIT. -/
def Obligations.ArbiterSharesTheEngine : Prop :=
  ∀ (s : State) (raw : BitVec 10) (m : Measurement) (job : Option (Fin 4)), s.settled → s.monitor.engine = some m →
    m.source = .scan job → s.mli.notify = false →
    let setup := s.monitor.setups.get m.lane
    let v := (max 0 (min 1023 ((raw.toNat : Int) + setup.offset))).toNat
    let limited := if setup.low ≤ v ∧ v ≤ setup.high then s.notices
      else handNotice (.laneLimit (lanePort m.lane) (1#4 <<< (lanePhysical m.lane).val) 0) s.notices
    let counted := s.monitor.jobs.map fun j => if job = some j.id then { j with made := j.made + 1 } else j
    let open_ := fun (j : ScanJob) (g : Fin 128) => j.mask.getLsbD g.val = true ∧ s.laneFenced g = false
    let finds := fun (j j' : ScanJob) (g : Fin 128) =>
      (j' = { j with next := g.val + 1 } ∧ open_ j g ∧ j.next ≤ g.val
          ∧ ∀ h : Fin 128, h < g → j.next ≤ h.val → ¬ open_ j h)
        ∨ (j' = { j with pass := j.pass + 1, next := g.val + 1 } ∧ j.pass < j.passes ∧ open_ j g
          ∧ (∀ h : Fin 128, j.next ≤ h.val → ¬ open_ j h) ∧ ∀ h : Fin 128, h < g → ¬ open_ j h)
    let starts := fun (t : State) (g : Fin 128) (source : MeasureSource) =>
      t.monitor.engine = some ⟨g, source, (s.lane g).current, .running 50000⟩
    let scans := fun (t : State) (j j' : ScanJob) (g : Fin 128) (rest : List ScanJob) =>
      starts t g (.scan (some j.id)) ∧ t.monitor.jobs = j' :: rest ∧ t.monitor.queue = s.monitor.queue
        ∧ t.monitor.runCount = 0 ∧ t.notices = limited
    let serves := fun (t : State) (r : BringUpRequest) (q : List BringUpRequest) =>
      starts t r.lane (.bringUp r.attempt) ∧ t.monitor.queue = q ∧ t.monitor.runCount = min 8 (s.monitor.runCount + 1)
        ∧ (t.lane r.lane).marker = .inService
    ∃ t, exec (.measurementComplete raw) s = .next t
      ∧ (∀ j j' g rest, counted = j :: rest → j.passes ≤ 16 → 1 ≤ j.pass → finds j j' g →
          (s.monitor.queue = [] → scans t j j' g rest)
          ∧ ∀ r q, s.monitor.queue = r :: q →
            (s.monitor.runCount = 8 → scans t j j' g rest) ∧ (s.monitor.runCount ≠ 8 → serves t r q ∧ t.notices = limited))
      ∧ (counted = [] → (s.monitor.queue = [] → t.monitor.engine = none ∧ t.monitor.jobs = [] ∧ t.notices = limited)
          ∧ ∀ r q, s.monitor.queue = r :: q → serves t r q)
      ∧ (∀ j, counted = [j] → j.passes ≤ j.pass → (∀ h : Fin 128, j.next ≤ h.val → ¬ open_ j h) →
          t.monitor.jobs = [] ∧ t.notices = handNotice (.monitorDone j.id .complete 0) limited
          ∧ (s.monitor.queue = [] → t.monitor.engine = none) ∧ ∀ r q, s.monitor.queue = r :: q → serves t r q)

/-- Outside ALIGN a decoded marker changes nothing. In the marker wait, while another GOOD lane has seen none, a true marker sets
a GOOD lane's marker-seen flag and logical lane, the first one only, and an inverted marker toggles its inversion and counts
one polarity correction in the attempt; true and inverted are as the marker stands after the lane's inversion, and either is
noted as decoded (log entry 27). MARKER_WAIT_EXPIRY with no GOOD lane that has seen a marker is the failure NO_LANES with
stage code 3; otherwise collection 1 starts with the lowest such lane as reference and every other GOOD lane gets status
NO_MARKER. With no marker wait it changes nothing (the model's reading, log entry 3). The wait's end by its last marker and
the markers of a collection are stated of collections. -/
def Obligations.MarkersAreSeenOrTheLaneIsDropped : Prop :=
  ∀ (s : State) (p : Fin 32), s.settled →
    let d := (s.port p).deskew
    (∀ (l : Fin 4) (onLine : Bool) (logical : Fin 4) (q : Fin 16) (age : BitVec 16),
        ((s.port p).state ≠ .align → exec (.markerDecoded p l onLine logical q age) s = .next s)
        ∧ ((s.port p).state = .align → d.phase = .markerWait → (s.port p).good l = true →
          (∃ m : Fin 4, m ≠ l ∧ (s.port p).good m = true ∧ (d.lanes.get m).seen = false) →
          exec (.markerDecoded p l ((s.port p).lane l).inversion logical q age) s = .next (s.modPort p fun pt => { pt with
            deskew := { d with
              decoded := noteDecoded l q d.decoded
              lanes := d.lanes.modify l fun dl =>
                if dl.seen then dl else { dl with seen := true, logical := some logical } } })
          ∧ exec (.markerDecoded p l (!((s.port p).lane l).inversion) logical q age) s = .next (s.modPort p fun pt => { pt with
            deskew := { d with decoded := noteDecoded l q d.decoded }
            lanes := pt.lanes.modify l fun ln => { ln with inversion := !ln.inversion, polarityCounted := true }
            counters := if (pt.lane l).polarityCounted then pt.counters
              else { pt.counters with polarityCorrections := bump pt.counters.polarityCorrections } })))
    ∧ ((s.port p).state ≠ .align ∨ d.phase ≠ .markerWait ∨ d.waitTimer.isRunning = false →
        exec (.markerWaitExpiry p) s = .next s)
    ∧ ((s.port p).state = .align → d.phase = .markerWait → d.waitTimer.isRunning = true →
        ((∀ l : Fin 4, (s.port p).collecting l = false) →
          ∃ t, exec (.markerWaitExpiry p) s = .next t ∧ s.failed t p .noLanes 3 none
            ∧ s.otherPortsKept t p ∧ s.sameDevice t)
        ∧ ∀ r : Fin 4, (s.port p).collecting r = true → (∀ l : Fin 4, l < r → (s.port p).collecting l = false) →
          ∃ t, exec (.markerWaitExpiry p) s = .next t ∧ (t.port p).state = .align
            ∧ (t.port p).deskew.phase = .collecting ∧ (t.port p).deskew.collection = 1
            ∧ (t.port p).deskew.reference = some r ∧ (t.port p).deskew.waitTimer = .stopped
            ∧ (∀ l : Fin 4, ((t.port p).dlane l).status =
                (if (s.port p).good l ∧ (d.lanes.get l).seen = false then .noMarker else (d.lanes.get l).status))
            ∧ (∀ l : Fin 4, (s.port p).collecting l = true →
                ((t.port p).dlane l).stamps = .replicate 4 none
                ∧ ((t.port p).dlane l).logical = (d.lanes.get l).logical)
            ∧ (t.port p).stageTimer = (s.port p).stageTimer ∧ (t.port p).lanes = (s.port p).lanes
            ∧ (∀ q : Fin 32, q ≠ p → t.port q = s.port q) ∧ s.sameDevice t ∧ t.monitor = s.monitor)

/-- In the marker wait a true marker on the last GOOD lane that has seen none starts collection 1 over the GOOD lanes, the lowest
of them the reference, with the number after this marker's as its first, no stamps and no close running. In a collection a
true marker of one of the four numbers from the first on, with the lane's recorded logical lane, stamps the collecting lane
with the marker stamp counter as it stood when the marker's first bit passed; the first stamp of the first number arms the
close, 6,552 TU from this event (the model's choice, log entry 48); a stamp of a number stamped before replaces it (the
model's choice, log entry 39). A true marker of another number or logical lane stamps nothing; an inverted one toggles the
inversion; each is noted as decoded (log entry 27); a lane that is not collecting ignores markers. A lane is stable when its
four differences are all present and no two are more than 4 SU apart, and the reference is. -/
def Obligations.CollectionsStampTheirMarkers : Prop :=
  (∀ (s : State) (p : Fin 32) (l : Fin 4) (logical : Fin 4) (n : Fin 16) (age : BitVec 16), s.settled →
    (s.port p).state = .align →
    let d := (s.port p).deskew
    let sense := ((s.port p).lane l).inversion
    let decoded := noteDecoded l n d.decoded
    (d.phase = .markerWait → (s.port p).good l = true → (d.lanes.get l).seen = false →
      (∀ o : Fin 4, o ≠ l → (s.port p).good o = true → (d.lanes.get o).seen = true) →
      ∀ r : Fin 4, (s.port p).good r = true → (∀ o : Fin 4, o < r → (s.port p).good o = false) →
      ∃ t, exec (.markerDecoded p l sense logical n age) s = .next t ∧ (t.port p).state = .align
        ∧ (t.port p).deskew = { d with
            phase := .collecting
            collection := 1
            reference := some r
            firstSequence := some (n + 1)
            decoded := decoded
            waitTimer := .stopped
            closeTimer := .stopped
            lanes := .ofFn fun o =>
              let x := if o = l then { d.lanes.get o with seen := true, logical := some logical } else d.lanes.get o
              if (s.port p).good o then { x with stamps := .replicate 4 none } else x }
        ∧ (t.port p).lanes = (s.port p).lanes ∧ (∀ q : Fin 32, q ≠ p → t.port q = s.port q) ∧ s.sameDevice t)
    ∧ (∀ first, d.phase = .collecting → (s.port p).collecting l = true → d.firstSequence = some first →
      let noted := s.modPort p fun pt => { pt with deskew := { d with decoded := decoded } }
      (∀ k : Fin 4, n = first + Fin.ofNat 16 k.val → (d.lanes.get l).logical = some logical →
        exec (.markerDecoded p l sense logical n age) s = .next (s.modPort p fun pt => { pt with
          deskew := { d with
            decoded := decoded
            lanes := d.lanes.modify l fun dl => { dl with stamps := dl.stamps.set k (some (d.stampCounter - age)) }
            closeTimer := if k = 0 ∧ d.closeTimer.isRunning = false then .running 6552 else d.closeTimer } }))
      ∧ ((∀ k : Fin 4, n ≠ first + Fin.ofNat 16 k.val) ∨ (d.lanes.get l).logical ≠ some logical →
        exec (.markerDecoded p l sense logical n age) s = .next noted)
      ∧ exec (.markerDecoded p l (!sense) logical n age) s = .next (noted.modPort p fun pt => { pt with
          lanes := pt.lanes.modify l fun ln => { ln with inversion := !ln.inversion, polarityCounted := true }
          counters := if (pt.lane l).polarityCounted then pt.counters
            else { pt.counters with polarityCorrections := bump pt.counters.polarityCorrections } }))
    ∧ (∀ onLine : Bool, d.phase = .collecting → (s.port p).collecting l = false →
      exec (.markerDecoded p l onLine logical n age) s = .next s))
  ∧ (∀ (pt : Port) (before after : List (Fin 4 × Fin 16)) (l : Fin 4) (n : Fin 16) (number : Nat),
      pt.deskew.decoded = before ++ (l, n) :: after → pt.collecting l = true → (∀ x ∈ before, pt.collecting x.1 = false) →
      (pt.startCollection number).deskew.firstSequence = some (n + 1))
  ∧ (∀ (pt : Port) (l : Fin 4), pt.stable l = true ↔ pt.deskew.reference = some l
      ∨ (∀ k : Fin 4, ∃ x, (pt.dlane l).differences.get k = some x)
        ∧ ∀ (j k : Fin 4) (x y : Int), (pt.dlane l).differences.get j = some x → (pt.dlane l).differences.get k = some y →
          x - y ≤ 4)

/-- After collection 1 or 2 with an unstable lane COLLECTION_CLOSE starts the next collection, each collecting lane's differences
against the reference lane formed, and the port stays in ALIGN. When every collecting lane is stable, or after collection 3,
the kept mask is fixed: it holds just the logical lanes of the KEPT lanes, and after collection 3 each unstable lane has
status SKEW_UNSTABLE. The port is then HELD at ALIGN where the hold point and its HOLD_ENABLE say so; else it waits in
PLAN_WAIT with its verify timer paused at full length while the plan is not CLOSED, and under a CLOSED plan, with a record not
UNUSED, it is in MASK_WAIT with the timer running, or in RANGING where the peer's kept mask is recorded. Other ports are
unchanged. With no close timer running in ALIGN's collection it changes nothing (the model's reading, log entry 3). What
stable means is stated of collections. -/
def Obligations.ClosesFixTheMaskOrCollectAgain : Prop :=
  ∀ (s : State) (p : Fin 32), s.settled →
    let d := (s.port p).deskew
    let unstable := fun l : Fin 4 => (s.port p).collecting l && !(s.port p).formDifferences.stable l
    ((s.port p).state ≠ .align ∨ d.phase ≠ .collecting ∨ d.closeTimer.isRunning = false →
        exec (.collectionClose p) s = .next s)
    ∧ ((s.port p).state = .align → d.phase = .collecting → d.closeTimer.isRunning = true →
        ((∃ l : Fin 4, unstable l = true) → d.collection < 3 →
          ∃ t, exec (.collectionClose p) s = .next t ∧ (t.port p).state = .align
            ∧ (t.port p).deskew.phase = .collecting ∧ (t.port p).deskew.collection = d.collection + 1
            ∧ (t.port p).deskew.reference = d.reference ∧ (t.port p).deskew.closeTimer = .stopped
            ∧ (∀ r l : Fin 4, ∀ k : Fin 4, ∀ a b : BitVec 16, d.reference = some r → (s.port p).collecting l = true →
                (d.lanes.get l).stamps.get k = some a → (d.lanes.get r).stamps.get k = some b →
                ((t.port p).dlane l).differences.get k =
                  some (((a.toNat : Int) - b.toNat + 32768) % 65536 - 32768))
            ∧ (∀ q : Fin 32, q ≠ p → t.port q = s.port q) ∧ s.sameDevice t ∧ t.monitor = s.monitor)
        ∧ (((∀ l : Fin 4, unstable l = false) ∨ 3 ≤ d.collection) →
          let held := s.params.holdPoint = .align ∧ (s.port p).holdEnable = true
          let verifying := s.params.verifyTimeout * Config.tuPerMs
          (s.plan.state = .closed → (s.expected p).kind ≠ .unused ∨ held) →
          ∃ t, exec (.collectionClose p) s = .next t
            ∧ (held → (t.port p).state = .held .align .verify ∧ (t.port p).stageTimer = .stopped)
            ∧ (¬ held → s.plan.state ≠ .closed →
              (t.port p).state = .verify (.planWait false) ∧ (t.port p).stageTimer = .paused verifying)
            ∧ (¬ held → s.plan.state = .closed → (t.port p).stageTimer = .running verifying
              ∧ (t.port p).state = .verify (if (s.port p).neighbor.kept = none then .maskWait else .ranging))
            ∧ (t.port p).keptValid = true
            ∧ (∀ m : Fin 4, (t.port p).deskew.keptMask.getLsbD m.val = true ↔
                ∃ l : Fin 4, (s.port p).collecting l = true ∧ ((t.port p).dlane l).status = .kept
                  ∧ ((t.port p).dlane l).logical = some m)
            ∧ (∀ l : Fin 4, unstable l = true → ((t.port p).dlane l).status = .skewUnstable)
            ∧ (∀ q : Fin 32, q ≠ p → t.port q = s.port q) ∧ s.sameDevice t ∧ t.monitor = s.monitor))

/-- The lane map pairs each lane that has seen markers with its logical lane; its class is INVALID when two carry one logical
lane, else IDENTITY, REVERSED or PERMUTED. A stable collecting lane is eligible unless the map is INVALID or its logical lane
is fenced here or at the peer. The average is 0 for the reference and else floor of the four differences' sum plus 2, over 4;
a skew is an average minus the smallest of an eligible lane. With no skew above the limit (480 SU by default) every eligible
lane is a candidate; else the lanes of the first legal set of Table 6-5 of at least the minimum width, all carried by eligible
lanes, whose skews lie within the limit; with none there is a skew excess and no candidate. Candidates are KEPT with the delay
that brings them to the largest kept skew (held as it is also above 480: the model's choice, log entry 46), the other eligible
lanes OUTSIDE_SUBSET, the other stable ones EXCLUDED, and the kept mask holds the logical lanes of the KEPT. Reducing a mask's
width gives the first legal set inside it. In ACTIVE each logical lane of a KEPT lane is fed by it, after its delay and
inversion, with traffic exactly in the final set. -/
def Obligations.MaskIsFixedFromMapAndSkews : Prop :=
  (∀ m : BitVec 4, (m = 0 → reduceWidth m = 0) ∧ ∀ before w after, legalSets = before ++ w :: after → w &&& m = w →
      (∀ b ∈ before, b &&& m ≠ b) → reduceWidth m = w)
  ∧ legalSets = [0b1111, 0b0011, 0b1100, 0b0001, 0b0010, 0b0100, 0b1000]
  ∧ (∀ (pt : Port) (l k : Fin 4), pt.state = .active → pt.keptLane l = true → (pt.dlane l).logical = some k →
      (∀ o : Fin 4, o < l → pt.keptLane o = true → (pt.dlane o).logical ≠ some k) →
      pt.receivePath k = some ⟨l, (pt.dlane l).delay, (pt.lane l).inversion,
        match pt.verdict.finalSet with
        | some m => m.getLsbD k.val
        | none => false⟩)
  ∧ ∀ (base : BaseFields) (pt : Port), (∀ l : Fin 4, (pt.dlane l).status ≠ .kept) →
    let g := pt.fixMask base
    let limit := match base.skewLimit with
      | some n => n
      | none => 480
    let maps := fun l k : Fin 4 => (pt.dlane l).seen = true ∧ (pt.dlane l).logical = some k
    let invalid := ∃ a b k : Fin 4, a ≠ b ∧ maps a k ∧ maps b k
    let remains := fun l : Fin 4 => pt.collecting l = true ∧ pt.stable l = true
    let eligible := fun l : Fin 4 => remains l ∧ ¬ invalid ∧ ∃ k : Fin 4, (pt.dlane l).logical = some k
      ∧ pt.fence k = false ∧ pt.neighbor.fence.getLsbD k.val = false
    let kept := fun l : Fin 4 => (g.dlane l).status = .kept
    let within := ∀ (l : Fin 4) (n : Nat), (g.dlane l).skew = some n → n ≤ limit
    let qualifies := fun m : BitVec 4 => base.minWidth.lanes ≤ setWidth m
      ∧ (∀ k : Fin 4, m.getLsbD k.val = true → ∃ l : Fin 4, eligible l ∧ (pt.dlane l).logical = some k)
      ∧ ∀ (a b j k : Fin 4) (x y : Nat), eligible a → eligible b → (pt.dlane a).logical = some j → (pt.dlane b).logical = some k →
          m.getLsbD j.val = true → m.getLsbD k.val = true → (g.dlane a).skew = some x → (g.dlane b).skew = some y → x - y ≤ limit
    g.deskew.phase = .fixed ∧ g.deskew.closeTimer = .stopped ∧ g.deskew.appliedLimit = some limit
    ∧ (g.deskew.mapClass = some .invalid ↔ invalid)
    ∧ (g.deskew.mapClass = some .identity ↔ ¬ invalid ∧ ∀ l k : Fin 4, maps l k → k = l)
    ∧ (g.deskew.mapClass = some .reversed ↔ ¬ invalid ∧ (∃ l k : Fin 4, maps l k ∧ k ≠ l)
        ∧ ∀ l k : Fin 4, maps l k → l.val + k.val = 3)
    ∧ (g.deskew.mapClass = some .permuted ↔ ¬ invalid ∧ (∃ l k : Fin 4, maps l k ∧ k ≠ l)
        ∧ ∃ l k : Fin 4, maps l k ∧ l.val + k.val ≠ 3)
    ∧ (∀ l : Fin 4, ¬ remains l → (g.dlane l).average = none)
    ∧ (∀ l : Fin 4, remains l → pt.deskew.reference = some l → (g.dlane l).average = some 0)
    ∧ (∀ (l : Fin 4) (a b c e : Int), remains l → pt.deskew.reference ≠ some l →
        (pt.dlane l).differences.cells = [some a, some b, some c, some e] →
        (g.dlane l).average = some ((a + b + c + e + 2) / 4))
    ∧ (∀ l : Fin 4, ¬ eligible l → (g.dlane l).skew = none)
    ∧ (∀ l : Fin 4, eligible l → ∃ (o : Fin 4) (x y : Int) (n : Nat), eligible o ∧ (g.dlane l).average = some x
        ∧ (g.dlane o).average = some y ∧ (g.dlane l).skew = some n ∧ (n : Int) = x - y
        ∧ ∀ (i : Fin 4) (z : Int), eligible i → (g.dlane i).average = some z → y ≤ z)
    ∧ (within → (∀ l : Fin 4, kept l ↔ eligible l) ∧ g.deskew.skewExcess = false)
    ∧ (¬ within → (∀ before m after, legalSets = before ++ m :: after → (∀ b ∈ before, ¬ qualifies b) → qualifies m →
          g.deskew.skewExcess = false
          ∧ ∀ l : Fin 4, kept l ↔ eligible l ∧ ∃ k : Fin 4, (pt.dlane l).logical = some k ∧ m.getLsbD k.val = true)
        ∧ ((∀ m ∈ legalSets, ¬ qualifies m) → g.deskew.skewExcess = true ∧ ∀ l : Fin 4, ¬ kept l))
    ∧ (∀ l : Fin 4, ¬ kept l → (g.dlane l).delay = none
        ∧ (eligible l → (g.dlane l).status = .outsideSubset)
        ∧ (remains l → ¬ eligible l → (g.dlane l).status = .excluded)
        ∧ (¬ remains l → (g.dlane l).status = (pt.dlane l).status))
    ∧ (∀ l : Fin 4, kept l → ∃ (o : Fin 4) (x y : Nat), kept o ∧ (g.dlane o).skew = some x ∧ g.deskew.maxKeptSkew = some x
        ∧ (g.dlane l).skew = some y ∧ y ≤ x ∧ (g.dlane l).delay = some (x - y))
    ∧ (∀ k : Fin 4, g.deskew.keptMask.getLsbD k.val = true ↔ ∃ l : Fin 4, kept l ∧ (pt.dlane l).logical = some k)

/-- At every failure that takes a port to BACKOFF with the retry count n, the backoff timer is armed with min(backoff_base_ms x
2^(n-1), backoff_cap_ms) ms + port x 0.25 ms, with the parameters in force; in TU, 1 ms is 1,250,000. With parameters in range
no wait exceeds 60,007.75 ms, reached at port 31 with the cap at 60,000. With the defaults the waits are those of Table 2-6,
and port 5 after its fourth failure waits 81.25 ms. (Stated: R46.) -/
def Obligations.BackoffWaitsFollowTheirFormula : Prop :=
  (∀ (s : State) (p : Fin 32) (cause : Cause) (stage : Nat) (lane : Option (Fin 4)),
      ((s.fail p cause stage lane).port p).state = .backoff →
        ((s.fail p cause stage lane).port p).backoffTimer =
          .running (min (s.params.backoffBase * 2 ^ (((s.fail p cause stage lane).port p).retryCount - 1))
            s.params.backoffCap * 1250000 + p.val * 312500))
    ∧ (∀ (pr : Params) (p : Fin 32) (n : Nat), pr.inRange → 1 ≤ n → n ≤ 15 →
        backoffWait pr p n ≤ 60007 * 1250000 + 3 * 312500)
    ∧ backoffWait { Params.reset with backoffBase := 1000, backoffCap := 60000 } 31 15 = 60007 * 1250000 + 3 * 312500
    ∧ (∀ n : Fin 15, backoffWait Params.reset 0 (n.val + 1) =
          [10, 20, 40, 80, 160, 320, 640, 1280, 1280, 1280, 1280, 1280, 1280, 1280, 1280].getD n.val 0 * 1250000
        ∧ backoffWait Params.reset 31 (n.val + 1) = backoffWait Params.reset 0 (n.val + 1) + 7 * 1250000 + 3 * 312500)
    ∧ backoffWait Params.reset 5 4 = 81 * 1250000 + 312500

/-- EQ, NE, LT and GE compare a port's value with the key as unsigned numbers. ANY_SET and NONE_SET tell, for FLAGS, RETRY_COUNT
and PEER_CHASSIS, whether value and key share a set bit, and for STATE, VERDICT_CLASS, PRIMARY_CODE and PEER_PORT whether the
key's bit numbered by the value is set; key 0x300 under STATE selects BACKOFF or FAULT. A port whose record has no identity,
as an EMPTY one, matches under PEER_CHASSIS and PEER_PORT with no comparison; a record with an identity, CURRENT or STALE, is
compared by it; under the other selectors a port is compared by the number Table 10-1 or Table 11-6 gives its state, verdict
class or primary code (0 for none), by its six flags and by its retry count. (Stated: R189.) -/
def Obligations.FindComparesAsItsTableSays : Prop :=
  ∀ (key : BitVec 48) (value : Nat), value < 2 ^ 48 →
    (∀ sel, (meets sel .eq key value = true ↔ value = key.toNat) ∧ (meets sel .ne key value = true ↔ value ≠ key.toNat)
      ∧ (meets sel .lt key value = true ↔ value < key.toNat) ∧ (meets sel .ge key value = true ↔ key.toNat ≤ value))
    ∧ (∀ sel ∈ [Selector.flags, .retryCount, .peerChassis],
        (meets sel .anySet key value = true ↔ ∃ i, value.testBit i = true ∧ key.getLsbD i = true)
        ∧ (meets sel .noneSet key value = true ↔ ¬ ∃ i, value.testBit i = true ∧ key.getLsbD i = true))
    ∧ (∀ sel ∈ [Selector.state, .verdictClass, .primaryCode, .peerPort],
        (meets sel .anySet key value = true ↔ key.getLsbD value = true)
        ∧ (meets sel .noneSet key value = true ↔ key.getLsbD value = false))
    ∧ (∀ (pt : Port) (cmp : Comparison), pt.neighbor.identity = none →
        pt.matchesKey .peerChassis cmp key = false ∧ pt.matchesKey .peerPort cmp key = false)
    ∧ (∀ (pt : Port) (cmp : Comparison) (i : PeerId), pt.neighbor.identity = some i →
        pt.matchesKey .peerChassis cmp key = meets .peerChassis cmp key i.chassis.toNat
          ∧ pt.matchesKey .peerPort cmp key = meets .peerPort cmp key i.port.val)
    ∧ (∀ pt : Port, pt.matchesKey .state .anySet 0x300 = true ↔ pt.state = .backoff ∨ pt.state = .fault)
    ∧ (∀ (pt : Port) (cmp : Comparison),
        (∀ row ∈ [(StateName.disabled, 0), (.waitCable, 1), (.sideband, 2), (.laneLock, 3), (.align, 4), (.verify, 5),
            (.held, 6), (.active, 7), (.backoff, 8), (.fault, 9)],
          pt.state.name = row.1 → pt.matchesKey .state cmp key = meets .state cmp key row.2)
        ∧ (∀ row ∈ [(VerdictClass.none, 0), (.pass, 1), (.warn, 2), (.fail, 3)],
          pt.verdict.cls = row.1 → pt.matchesKey .verdictClass cmp key = meets .verdictClass cmp key row.2)
        ∧ (pt.verdict.codes = [] → pt.matchesKey .primaryCode cmp key = meets .primaryCode cmp key 0)
        ∧ (∀ row ∈ [(Code.duplicatePeer, 1), (.pairSwapped, 2), (.wrongChassis, 3), (.wrongPort, 4), (.unplanned, 5),
            (.peerDisagrees, 6), (.peerFailed, 7), (.laneMapInvalid, 8), (.laneCrossed, 9), (.lanesInsufficient, 10),
            (.skewExcess, 11), (.lengthOutOfWindow, 12), (.widthDegraded, 13), (.skewUnstable, 14), (.eqMarginal, 15),
            (.polarityCorrected, 16), (.lengthUnmeasured, 17), (.lengthSuspect, 18), (.planGenerationSkew, 19)],
          ∀ rest, pt.verdict.codes = row.1 :: rest →
            pt.matchesKey .primaryCode cmp key = meets .primaryCode cmp key row.2)
        ∧ pt.matchesKey .flags cmp key = meets .flags cmp key pt.flags.toNat
        ∧ pt.matchesKey .retryCount cmp key = meets .retryCount cmp key pt.retryCount)

/-- A computed record's code list holds every code of its row that is present, each once, in priority order; its class is FAIL
when a code 1 to 12 is present, WARN when none is and a code 13 to 19 is, PASS when no code is; its primary code, the first of
the list, has the highest priority, none for PASS; its partner is DUPLICATE_PEER's when that is present, else PAIR_SWAPPED's
when that is, else absent; and the partner of either is the lowest-numbered port through which the code holds. (Stated: R162.) -/
def Obligations.VerdictsAreFormedFromTheirCodes : Prop :=
  ∀ (s : State) (p : Fin 32) (h : Held) (attempt : BitVec 32),
    let v := s.judge p h attempt
    (∀ c : Code, c ∈ v.codes ↔ c.judged (s.expected p).kind = true ∧ s.codeHolds p h c = true)
    ∧ v.codes.Pairwise (fun a b => a.number < b.number)
    ∧ (v.cls = .fail ↔ ∃ c ∈ v.codes, c.number ≤ 12)
    ∧ (v.cls = .warn ↔ (∀ c ∈ v.codes, 13 ≤ c.number) ∧ ∃ c, c ∈ v.codes)
    ∧ (v.cls = .pass ↔ v.codes = [])
    ∧ (∀ c, v.codes.head? = some c → ∀ x ∈ v.codes, c.number ≤ x.number) ∧ (v.codes.head? = none ↔ v.cls = .pass)
    ∧ v.partner = (if Code.duplicatePeer ∈ v.codes then s.duplicatePartner p
        else if Code.pairSwapped ∈ v.codes then s.swapPartner p else none)
    ∧ (∀ i q, (s.port p).neighbor.identity = some i → s.duplicatePartner p = some q →
        q ≠ p ∧ s.currentPeer q = some i ∧ ∀ r : Fin 32, r < q → r ≠ p → s.currentPeer r ≠ some i)
    ∧ (∀ i q, s.currentPeer p = some i → s.swapPartner p = some q →
        q ≠ p ∧ i ∈ (s.expected q).accepted ∧ (∃ j ∈ (s.expected p).accepted, s.currentPeer q = some j)
          ∧ ∀ r : Fin 32, r < q → r ≠ p → (s.expected r).kind = .planned → i ∈ (s.expected r).accepted →
            ∀ j ∈ (s.expected p).accepted, s.currentPeer r ≠ some j)

/-- PLANNED records are judged by every code, ANY records by all but PAIR_SWAPPED, WRONG_CHASSIS, WRONG_PORT and UNPLANNED, UNUSED
ones by DUPLICATE_PEER, UNPLANNED, PEER_DISAGREES, PEER_FAILED and PLAN_GENERATION_SKEW. At a port with a CURRENT record of
peer i: the identity and pair codes compare i with the accepted sets and with the other ports' CURRENT records; the peer's
codes take its expected peer, its class and stage, and its generation; the lane codes take the map class by Table 8-4, the
final width, the skew excess flag and the held lanes, EQ_MARGINAL and POLARITY_CORRECTED those KEPT lanes alone whose logical
lane is in the final set; the length codes take the length, its window and its flags. -/
def Obligations.CodesHoldAsTheirTablesSay : Prop :=
  ∀ (s : State) (p : Fin 32) (h : Held) (i : PeerId), s.currentPeer p = some i →
    let e := s.expected p
    let peer := (s.port p).neighbor
    let present := fun c : Code => s.codeHolds p h c = true
    let keptInFinal := fun test : HeldLane → Bool => ∃ f m, ∃ l k : Fin 4, h.findings = some f ∧ h.finalSet = some m
      ∧ (f.lanes.get l).status = .kept ∧ (f.lanes.get l).logical = some k ∧ m.getLsbD k.val = true
      ∧ test (f.lanes.get l) = true
    (∀ c : Code, c.judged .planned = true ∧ (c.judged .any = true ↔ c ∉ [.pairSwapped, .wrongChassis, .wrongPort, .unplanned])
      ∧ (c.judged .unused = true ↔ c ∈ [.duplicatePeer, .unplanned, .peerDisagrees, .peerFailed, .planGenerationSkew]))
    ∧ (present .duplicatePeer ↔ ∃ q : Fin 32, q ≠ p ∧ s.currentPeer q = some i)
    ∧ (present .pairSwapped ↔ e.kind = .planned ∧ i ∉ e.accepted ∧ ∃ q : Fin 32, q ≠ p ∧ (s.expected q).kind = .planned
        ∧ i ∈ (s.expected q).accepted ∧ ∃ j ∈ e.accepted, s.currentPeer q = some j)
    ∧ (present .wrongChassis ↔ e.kind = .planned ∧ ∀ a ∈ e.accepted, a.chassis ≠ i.chassis)
    ∧ (present .wrongPort ↔ e.kind = .planned ∧ i ∉ e.accepted ∧ ∃ a ∈ e.accepted, a.chassis = i.chassis)
    ∧ (present .unplanned ↔ e.kind = .unused)
    ∧ (present .peerDisagrees ↔ ∃ j, peer.expected = some j ∧ (j.chassis ≠ s.params.chassisId ∨ j.port ≠ p))
    ∧ (present .peerFailed ↔ peer.cls = .fail ∧ peer.stage = 0)
    ∧ (present .laneMapInvalid ↔ h.order = some .invalid)
    ∧ (present .laneCrossed ↔ h.order = some .reversed ∧ e.base.policy = .strict
        ∨ h.order = some .permuted ∧ e.base.policy ≠ .any)
    ∧ (present .lanesInsufficient ↔ ∃ m, h.finalSet = some m ∧ setWidth m < e.base.minWidth.lanes)
    ∧ (present .skewExcess ↔ ∃ f, h.findings = some f ∧ f.skewExcess = true)
    ∧ (present .lengthOutOfWindow ↔ ∃ w n, e.base.window = some w ∧ h.length = some n ∧ (n < w.low ∨ w.high < n))
    ∧ (present .widthDegraded ↔ ∃ m, h.finalSet = some m ∧ setWidth m < 4 ∧ e.base.minWidth.lanes ≤ setWidth m)
    ∧ (present .skewUnstable ↔ ∃ f, ∃ l : Fin 4, h.findings = some f ∧ (f.lanes.get l).status = .skewUnstable)
    ∧ (present .eqMarginal ↔ keptInFinal (·.marginal)) ∧ (present .polarityCorrected ↔ keptInFinal (·.inversion))
    ∧ (present .lengthUnmeasured ↔ h.unmeasured = true) ∧ (present .lengthSuspect ↔ h.suspect = true)
    ∧ (present .planGenerationSkew ↔ peer.generation ≠ s.plan.generation)

/-- PROBE_TIMEOUT_EXPIRY of the last open probe under a CLOSED plan computes the port's verdict at that event from what the burst
leaves, with the port's attempt: FAIL is the failure VERDICT_FAIL with stage code 4, PASS or WARN leads to READY_WAIT with
READY set, to ACTIVE when the peer's READY is recorded, or to HELD at VERIFY; the record holds the verdict. PLAN_END computes,
with the new epoch, first verdicts of ports in PLAN_WAIT whose burst completed, and recomputes in place every verdict-bearing
port marked changed or pending, held inputs and attempt kept and the pending flag clear: a FAIL takes the port to BACKOFF or
FAULT with that record, and when no judged port fails each holds its new record and every other verdict-bearing port its old
one. A frame of any kind that captures or replaces a peer in SIDEBAND while the plan is LOADING sets the pending flag of every
verdict-bearing port and computes nothing. Under a CLOSED plan it is the failure VERDICT_FAIL, with DUPLICATE_PEER, of every
verdict-bearing port whose CURRENT record names that peer. Both hold even where the event then fails the port that captured
(log entry 44). -/
def Obligations.VerdictsAreMadeAtTheirTriggers : Prop :=
  (∀ (s : State) (p : Fin 32) (k : Fin 8), s.settled → s.plan.state = .closed → (s.port p).state = .verify .ranging →
    (s.port p).burst.running = true → ((s.port p).burst.probes.get k).status = .outstanding →
    ((s.port p).burst.probes.get k).timeout.isRunning = true →
    (∀ j : Fin 8, j ≠ k → ((s.port p).burst.probes.get j).status = .answered
      ∨ ((s.port p).burst.probes.get j).status = .timedOut) →
    let u := (s.modPort p fun pt => { pt with burst := pt.burst.timeOut k }).completeBurst p
    let v := u.judge p (u.port p).heldNow (s.port p).attempt
    ∃ t, exec (.probeTimeoutExpiry p k) s = .next t ∧ (t.port p).verdict = v
      ∧ (v.cls = .fail → s.failed t p .verdictFail 4 none)
      ∧ (v.cls ≠ .fail → (t.port p).neighbor = (u.port p).neighbor ∧ (t.port p).burst = Burst.reset
        ∧ ((s.params.holdPoint = .verify ∧ (s.port p).holdEnable = true) →
            (t.port p).state = .held .verify .ready ∧ (t.port p).stageTimer = .stopped)
        ∧ (¬ (s.params.holdPoint = .verify ∧ (s.port p).holdEnable = true) → (t.port p).ready = true
            ∧ (t.port p).state = (if (s.port p).neighbor.ready then .active else .verify .readyWait)
            ∧ ((s.port p).neighbor.ready = false → (t.port p).stageTimer = (s.port p).stageTimer)
            ∧ ((s.port p).neighbor.ready = true →
                (t.port p).counters.successes = bump (s.port p).counters.successes))))
  ∧ (∀ (s : State) (tag : Byte) (generation : BitVec 16), s.ready → s.plan.state = .loading → generation ≠ 0 →
    let pl := s.plan.close generation
    let u := (s.withPlan pl).mapPorts fun p pt => pt.meetClose (pl.cache.get p)
    let first := fun p : Fin 32 => (s.port p).state = .verify (.planWait true)
      ∨ (s.port p).state = .verify (.planWait false) ∧ (pl.cache.get p).kind = .unused
    let again := fun p : Fin 32 =>
      (s.port p).state.bearing = true ∧ (pl.changed.get p = true ∨ (s.port p).verdict.pending = true)
    let v := fun p : Fin 32 => if (s.port p).state.bearing then
        u.judge p (s.port p).verdict.held (s.port p).verdict.attempt
      else u.judge p (s.port p).heldNow (s.port p).attempt
    ∃ t, exec (.planEnd tag generation) s = .next t
      ∧ (∀ p : Fin 32, first p ∨ again p → (v p).pending = false ∧ (v p).epoch = s.plan.epoch + 1
        ∧ ((v p).cls = .fail → (t.port p).verdict = v p ∧ ((t.port p).state = .backoff ∨ (t.port p).state = .fault)))
      ∧ ((∀ p : Fin 32, first p ∨ again p → (v p).cls ≠ .fail) →
        (∀ p : Fin 32, first p ∨ again p → (t.port p).verdict = v p)
        ∧ (∀ p : Fin 32, again p → (t.port p).state = (s.port p).state)
        ∧ (∀ p : Fin 32, ¬ first p → ¬ again p → (t.port p).verdict = (s.port p).verdict)))
  ∧ ∀ (s : State) (p : Fin 32) (f : SidebandFrame) (lag : Fin 126) (sender : PeerId),
    ∀ c ∈ [Instr.beaconReceived p f, .probeReceived p f, .echoReceived p f lag], s.settled → (s.port p).state = .sideband →
    (s.port p).rx ≠ none → s.currentPeer p ≠ some sender → f.senderChassis ≠ 0 → sender.chassis = f.senderChassis →
    sender.port.val = f.senderPort.toNat →
    ∃ t, exec c s = .next t
      ∧ (s.plan.state = .loading → ∀ q : Fin 32, (s.port q).state.bearing = true →
          Port.sameButTx { s.port q with verdict := { (s.port q).verdict with pending := true } } (t.port q))
      ∧ (s.plan.state = .closed → ∀ q : Fin 32, (s.port q).state.bearing = true → s.currentPeer q = some sender →
          s.failed t q .verdictFail (s.port q).state.stageCode none ∧ (t.port q).verdict.cls = .fail
            ∧ .duplicatePeer ∈ (t.port q).verdict.codes)
end

