-- ==== Sys2Proof/Laws/Table.lean ====
section
/-! SUPPORT. Laws of tables: reading after writing, and equality by entries. -/

namespace Sys2Proof

variable {α β : Type} {n : Nat}

@[simp] theorem Table.get_set_self (t : Table α n) (i : Fin n) (a : α) : (t.set i a).get i = a := by
  simp [Table.get, Table.set]

theorem Table.get_set_other (t : Table α n) {i j : Fin n} (a : α) (h : j ≠ i) : (t.set i a).get j = t.get j := by
  have hv : i.val ≠ j.val := fun e => h (Fin.ext e.symm)
  simp [Table.get, Table.set, hv]

theorem Table.get_set (t : Table α n) (i j : Fin n) (a : α) :
    (t.set i a).get j = if j = i then a else t.get j := by
  by_cases h : j = i
  · subst h; simp
  · simp [Table.get_set_other t a h, h]

@[simp] theorem Table.get_modify_self (t : Table α n) (i : Fin n) (f : α → α) : (t.modify i f).get i = f (t.get i) :=
  t.get_set_self i _

theorem Table.get_modify_other (t : Table α n) {i j : Fin n} (f : α → α) (h : j ≠ i) :
    (t.modify i f).get j = t.get j := t.get_set_other _ h

@[simp] theorem Table.get_ofFn (f : Fin n → α) (i : Fin n) : (Table.ofFn f).get i = f i := by
  simp [Table.get, Table.ofFn]

@[simp] theorem Table.get_replicate (a : α) (i : Fin n) : (Table.replicate n a).get i = a := by
  simp [Table.get, Table.replicate]

@[simp] theorem Table.get_mapFin (f : Fin n → α → β) (t : Table α n) (i : Fin n) :
    (t.mapFin f).get i = f i (t.get i) := by simp [Table.mapFin]

/-- Two tables with equal entries are equal. -/
theorem Table.ext_get {s t : Table α n} (h : ∀ i, s.get i = t.get i) : s = t := by
  obtain ⟨sc, sz⟩ := s
  obtain ⟨tc, tz⟩ := t
  have : sc = tc := by
    apply List.ext_getElem (by omega)
    intro i h1 h2
    exact h ⟨i, by omega⟩
  subst this; rfl

@[simp] theorem Table.set_get (t : Table α n) (i : Fin n) : t.set i (t.get i) = t := by
  apply Table.ext_get
  intro j
  rw [Table.get_set]
  split
  · next h => rw [h]
  · rfl

/-- A map that changes no entry gives the table back. -/
theorem Table.mapFin_same (f : Fin n → α → α) (t : Table α n) (h : ∀ i, f i (t.get i) = t.get i) : t.mapFin f = t :=
  Table.ext_get fun i => by simp [h i]

end Sys2Proof
end

