-- ==== Sys2Proof/Laws/State.lean ====
section
/-! SUPPORT. The small lemmas of the state's updates: one for each field and update. -/

namespace Sys2Proof.Machine

variable (s : State) (p q : Fin 32) (pt : Port) (f : Port → Port)

/-! ## A port -/

@[simp] theorem State.port_setPort_self : (s.setPort p pt).port p = pt := by simp [State.port, State.setPort]

theorem State.port_setPort_other {p q : Fin 32} (h : q ≠ p) : (s.setPort p pt).port q = s.port q := by
  simp [State.port, State.setPort, Table.get_set_other _ _ h]

@[simp] theorem State.port_modPort_self : (s.modPort p f).port p = f (s.port p) := by simp [State.modPort]

theorem State.port_modPort_other {p q : Fin 32} (h : q ≠ p) : (s.modPort p f).port q = s.port q := by
  simp [State.modPort, State.port_setPort_other s _ h]

theorem State.port_modPort : (s.modPort p f).port q = if q = p then f (s.port p) else s.port q := by
  by_cases h : q = p
  · subst h; simp
  · simp [h, State.port_modPort_other s f h]

@[simp] theorem State.port_mapPorts (g : Fin 32 → Port → Port) : (s.mapPorts g).port p = g p (s.port p) := by
  simp [State.port, State.mapPorts]

@[simp] theorem State.port_modMli (g : Mli → Mli) : (s.modMli g).port p = s.port p := rfl
@[simp] theorem State.port_withPlan (pl : Plan) : (s.withPlan pl).port p = s.port p := rfl
@[simp] theorem State.port_withMonitor (m : Monitor) : (s.withMonitor m).port p = s.port p := rfl
@[simp] theorem State.port_withdrawPort : (s.withdrawPort q).port p = s.port p := rfl

/-! ## What a change of one port leaves -/

@[simp] theorem State.mli_modPort : (s.modPort p f).mli = s.mli := rfl
@[simp] theorem State.plan_modPort : (s.modPort p f).plan = s.plan := rfl
@[simp] theorem State.monitor_modPort : (s.modPort p f).monitor = s.monitor := rfl
@[simp] theorem State.notices_modPort : (s.modPort p f).notices = s.notices := rfl
@[simp] theorem State.frameErrors_modPort : (s.modPort p f).frameErrors = s.frameErrors := rfl
@[simp] theorem State.timestamp_modPort : (s.modPort p f).timestamp = s.timestamp := rfl
@[simp] theorem State.pending_modPort : (s.modPort p f).pending = s.pending := rfl
@[simp] theorem State.params_modPort : (s.modPort p f).params = s.params := rfl
@[simp] theorem State.expected_modPort : (s.modPort p f).expected q = s.expected q := rfl

@[simp] theorem State.mli_mapPorts (g : Fin 32 → Port → Port) : (s.mapPorts g).mli = s.mli := rfl
@[simp] theorem State.plan_mapPorts (g : Fin 32 → Port → Port) : (s.mapPorts g).plan = s.plan := rfl
@[simp] theorem State.monitor_mapPorts (g : Fin 32 → Port → Port) : (s.mapPorts g).monitor = s.monitor := rfl
@[simp] theorem State.notices_mapPorts (g : Fin 32 → Port → Port) : (s.mapPorts g).notices = s.notices := rfl
@[simp] theorem State.frameErrors_mapPorts (g : Fin 32 → Port → Port) :
    (s.mapPorts g).frameErrors = s.frameErrors := rfl
@[simp] theorem State.timestamp_mapPorts (g : Fin 32 → Port → Port) : (s.mapPorts g).timestamp = s.timestamp := rfl
@[simp] theorem State.pending_mapPorts (g : Fin 32 → Port → Port) : (s.mapPorts g).pending = s.pending := rfl

/-! ## What a change of the MLI, the plan or the monitor leaves -/

@[simp] theorem State.mli_modMli (g : Mli → Mli) : (s.modMli g).mli = g s.mli := rfl
@[simp] theorem State.plan_modMli (g : Mli → Mli) : (s.modMli g).plan = s.plan := rfl
@[simp] theorem State.ports_modMli (g : Mli → Mli) : (s.modMli g).ports = s.ports := rfl
@[simp] theorem State.monitor_modMli (g : Mli → Mli) : (s.modMli g).monitor = s.monitor := rfl
@[simp] theorem State.notices_modMli (g : Mli → Mli) : (s.modMli g).notices = s.notices := rfl
@[simp] theorem State.frameErrors_modMli (g : Mli → Mli) : (s.modMli g).frameErrors = s.frameErrors := rfl
@[simp] theorem State.timestamp_modMli (g : Mli → Mli) : (s.modMli g).timestamp = s.timestamp := rfl
@[simp] theorem State.pending_modMli (g : Mli → Mli) : (s.modMli g).pending = s.pending := rfl

@[simp] theorem State.plan_withPlan (pl : Plan) : (s.withPlan pl).plan = pl := rfl
@[simp] theorem State.mli_withPlan (pl : Plan) : (s.withPlan pl).mli = s.mli := rfl
@[simp] theorem State.ports_withPlan (pl : Plan) : (s.withPlan pl).ports = s.ports := rfl
@[simp] theorem State.monitor_withPlan (pl : Plan) : (s.withPlan pl).monitor = s.monitor := rfl
@[simp] theorem State.notices_withPlan (pl : Plan) : (s.withPlan pl).notices = s.notices := rfl
@[simp] theorem State.frameErrors_withPlan (pl : Plan) : (s.withPlan pl).frameErrors = s.frameErrors := rfl
@[simp] theorem State.timestamp_withPlan (pl : Plan) : (s.withPlan pl).timestamp = s.timestamp := rfl
@[simp] theorem State.pending_withPlan (pl : Plan) : (s.withPlan pl).pending = s.pending := rfl

@[simp] theorem State.monitor_withMonitor (m : Monitor) : (s.withMonitor m).monitor = m := rfl
@[simp] theorem State.mli_withMonitor (m : Monitor) : (s.withMonitor m).mli = s.mli := rfl
@[simp] theorem State.plan_withMonitor (m : Monitor) : (s.withMonitor m).plan = s.plan := rfl
@[simp] theorem State.ports_withMonitor (m : Monitor) : (s.withMonitor m).ports = s.ports := rfl
@[simp] theorem State.notices_withMonitor (m : Monitor) : (s.withMonitor m).notices = s.notices := rfl
@[simp] theorem State.frameErrors_withMonitor (m : Monitor) : (s.withMonitor m).frameErrors = s.frameErrors := rfl
@[simp] theorem State.timestamp_withMonitor (m : Monitor) : (s.withMonitor m).timestamp = s.timestamp := rfl
@[simp] theorem State.pending_withMonitor (m : Monitor) : (s.withMonitor m).pending = s.pending := rfl

@[simp] theorem State.mli_withdrawPort : (s.withdrawPort p).mli = s.mli := rfl
@[simp] theorem State.plan_withdrawPort : (s.withdrawPort p).plan = s.plan := rfl
@[simp] theorem State.ports_withdrawPort : (s.withdrawPort p).ports = s.ports := rfl
@[simp] theorem State.notices_withdrawPort : (s.withdrawPort p).notices = s.notices := rfl
@[simp] theorem State.frameErrors_withdrawPort : (s.withdrawPort p).frameErrors = s.frameErrors := rfl
@[simp] theorem State.timestamp_withdrawPort : (s.withdrawPort p).timestamp = s.timestamp := rfl
@[simp] theorem State.pending_withdrawPort : (s.withdrawPort p).pending = s.pending := rfl

/-! ## The conclusion of an event -/

variable (before after : State) (limits done : List Notice)

@[simp] theorem State.port_conclude :
    (before.conclude after limits done).port p = concludePort before after p (after.port p) := by
  simp [State.conclude, State.port]

@[simp] theorem State.mli_conclude : (before.conclude after limits done).mli = after.mli := rfl
@[simp] theorem State.plan_conclude : (before.conclude after limits done).plan = after.plan := rfl
@[simp] theorem State.monitor_conclude : (before.conclude after limits done).monitor = after.monitor := rfl
@[simp] theorem State.frameErrors_conclude :
    (before.conclude after limits done).frameErrors = after.frameErrors := rfl
@[simp] theorem State.timestamp_conclude : (before.conclude after limits done).timestamp = after.timestamp := rfl
@[simp] theorem State.pending_conclude : (before.conclude after limits done).pending = after.pending := rfl
@[simp] theorem State.notices_conclude : (before.conclude after limits done).notices =
    handNotices (eventNotices before after limits done) after.notices := rfl

/-! ## The outbound arbiter -/

/-- Everything the arbiter can do at one event (R178). -/
theorem State.startOutbound_cases :
    s.startOutbound = s ∧ (s.mli.sending ≠ none ∨ (s.mli.replies = [] ∧ (s.notices = [] ∨ s.mli.notify = false)))
    ∨ (∃ r rest, s.mli.sending = none ∧ s.mli.replies = r :: rest ∧
        s.startOutbound = s.modMli fun m => { m with replies := rest, sending := some ⟨r.frame, r.reset⟩ })
    ∨ (∃ n rest, s.mli.sending = none ∧ s.mli.replies = [] ∧ s.notices = n :: rest ∧ s.mli.notify = true ∧
        s.startOutbound = { s with notices := rest, mli := { s.mli with sending := some ⟨n.frame, false⟩ } }) := by
  unfold State.startOutbound
  cases hs : s.mli.sending with
  | some o => left; simp
  | none =>
    cases hr : s.mli.replies with
    | cons r rest => right; left; exact ⟨r, rest, rfl, rfl, rfl⟩
    | nil =>
      cases hn : s.notices with
      | nil => left; simp
      | cons n rest =>
        cases hf : s.mli.notify with
        | true => right; right; exact ⟨n, rest, rfl, rfl, rfl, rfl, by simp⟩
        | false => left; simp

@[simp] theorem State.ports_startOutbound : s.startOutbound.ports = s.ports := by
  unfold State.startOutbound; repeat' split
  all_goals rfl

@[simp] theorem State.port_startOutbound : s.startOutbound.port p = s.port p := by simp [State.port]

@[simp] theorem State.plan_startOutbound : s.startOutbound.plan = s.plan := by
  unfold State.startOutbound; repeat' split
  all_goals rfl

@[simp] theorem State.monitor_startOutbound : s.startOutbound.monitor = s.monitor := by
  unfold State.startOutbound; repeat' split
  all_goals rfl

@[simp] theorem State.timestamp_startOutbound : s.startOutbound.timestamp = s.timestamp := by
  unfold State.startOutbound; repeat' split
  all_goals rfl

@[simp] theorem State.frameErrors_startOutbound : s.startOutbound.frameErrors = s.frameErrors := by
  unfold State.startOutbound; repeat' split
  all_goals rfl

@[simp] theorem State.pending_startOutbound : s.startOutbound.pending = s.pending := by
  unfold State.startOutbound; repeat' split
  all_goals rfl

end Sys2Proof.Machine
end

