-- ==== Sys2Proof/Laws/AtPort.lean ====
section
/-! SUPPORT. What the operations at a port leave alone: every other port. Verdict passes are not among them. -/

namespace Sys2Proof.Machine

/-- Every port but `p` is the same in `s` and `t`. -/
structure State.AtPort (p : Fin 32) (s t : State) : Prop where
  others : ∀ q : Fin 32, q ≠ p → t.port q = s.port q

namespace State.AtPort

variable {s t u : State} {p : Fin 32}

theorem refl (p : Fin 32) (s : State) : AtPort p s s := ⟨fun _ _ => rfl⟩

theorem trans (h : AtPort p s t) (k : AtPort p t u) : AtPort p s u :=
  ⟨fun q hq => (k.others q hq).trans (h.others q hq)⟩

theorem modPort (s : State) (p : Fin 32) (f : Port → Port) : AtPort p s (s.modPort p f) :=
  ⟨fun q hq => by rw [State.port_modPort, if_neg hq]⟩

theorem withMonitor (p : Fin 32) (s : State) (m : Monitor) : AtPort p s (s.withMonitor m) := ⟨fun _ _ => rfl⟩

theorem withdrawPort (s : State) (p : Fin 32) : AtPort p s (s.withdrawPort p) := ⟨fun _ _ => rfl⟩

theorem withdrawLane (p : Fin 32) (s : State) (g : Fin 128) : AtPort p s (s.withdrawLane g) := ⟨fun _ _ => rfl⟩

/-- A fold of operations each of which keeps the other ports keeps them. -/
theorem foldl {α : Type} (f : State → α → State) (hf : ∀ (s : State) a, AtPort p s (f s a)) (l : List α) (s : State) :
    AtPort p s (l.foldl f s) := by
  induction l generalizing s with
  | nil => exact refl p s
  | cons a rest ih => exact (hf s a).trans (ih _)

theorem fail (s : State) (p : Fin 32) (c : Cause) (n : Nat) (l : Option (Fin 4)) : AtPort p s (s.fail p c n l) :=
  (modPort ..).trans (withdrawPort ..)

theorem examineLanes (s : State) (p : Fin 32) : AtPort p s (s.examineLanes p) := by
  unfold State.examineLanes
  dsimp only
  split
  · split
    · exact refl p s
    · exact modPort ..
    · exact fail ..
  · exact refl p s

theorem enterLaneLock (s : State) (p : Fin 32) : AtPort p s (s.enterLaneLock p) :=
  (modPort ..).trans (examineLanes ..)

theorem enterVerify (s : State) (p : Fin 32) : AtPort p s (s.enterVerify p) := modPort ..

theorem goOn (s : State) (p : Fin 32) (n : NextStep) : AtPort p s (s.goOn p n) := by
  cases n
  · exact enterLaneLock ..
  · exact enterVerify ..
  · exact refl p s

theorem completeSideband (s : State) (p : Fin 32) : AtPort p s (s.completeSideband p) := by
  unfold State.completeSideband
  dsimp only
  split
  · exact (modPort ..).trans (modPort ..)
  · exact (modPort ..).trans (goOn ..)

theorem completeAlign (s : State) (p : Fin 32) : AtPort p s (s.completeAlign p) := by
  unfold State.completeAlign
  split
  · exact modPort ..
  · exact enterVerify ..

theorem completeBurst (s : State) (p : Fin 32) : AtPort p s (s.completeBurst p) := by
  unfold State.completeBurst
  exact modPort ..

theorem checkBurst (s : State) (p : Fin 32) : AtPort p s (s.checkBurst p) := by
  unfold State.checkBurst
  split
  · exact completeBurst ..
  · exact refl p s

theorem peerRestart (s : State) (p : Fin 32) : AtPort p s (s.peerRestart p) := (modPort ..).trans (withdrawPort ..)

theorem fenceRestart (s : State) (p : Fin 32) : AtPort p s (s.fenceRestart p) :=
  ((modPort ..).trans (withdrawPort ..)).trans (examineLanes ..)

theorem realign (s : State) (p : Fin 32) (lost : Fin 4 → Bool) : AtPort p s (s.realign p lost) := by
  unfold State.realign
  dsimp only
  split
  · exact (modPort ..).trans (fail ..)
  · exact modPort ..

theorem remove (s : State) (p : Fin 32) : AtPort p s (s.remove p) := (modPort ..).trans (withdrawPort ..)

theorem disable (s : State) (p : Fin 32) : AtPort p s (s.disable p) := (modPort ..).trans (withdrawPort ..)

theorem restart (s : State) (p : Fin 32) : AtPort p s (s.restart p) := (modPort ..).trans (withdrawPort ..)

theorem release (s : State) (p : Fin 32) : AtPort p s (s.release p) := by
  unfold State.release
  split
  · exact goOn ..
  · exact enterVerify ..
  · exact modPort ..
  all_goals exact refl p s

theorem actOn (s : State) (first : Bool) (p : Fin 32) : AtPort p s (s.actOn first p) := by
  unfold State.actOn
  split
  · exact fail ..
  · split
    · exact modPort ..
    · exact refl p s
  · split
    · exact modPort ..
    · exact refl p s
  · exact refl p s

theorem placeStep (s : State) (p : Fin 32) (l : Fin 4) : AtPort p s (s.placeStep p l) :=
  (modPort ..).trans (withMonitor ..)

theorem resumeSearch (s : State) (p : Fin 32) (l : Fin 4) : AtPort p s (s.resumeSearch p l) := by
  unfold State.resumeSearch
  split
  · exact placeStep ..
  · exact refl p s

theorem deliver (s : State) (p : Fin 32) (l : Fin 4) (a : BitVec 32) (v : Nat) : AtPort p s (s.deliver p l a v) :=
  (modPort ..).trans (resumeSearch ..)

theorem acquireLock (s : State) (p : Fin 32) (l : Fin 4) : AtPort p s (s.acquireLock p l) := by
  unfold State.acquireLock
  dsimp only
  split
  · exact (modPort ..).trans (placeStep ..)
  · exact modPort ..

theorem checkSeen (s : State) (p : Fin 32) : AtPort p s (s.checkSeen p) := by
  unfold State.checkSeen
  dsimp only
  split
  · exact modPort ..
  · exact refl p s

theorem endWait (s : State) (p : Fin 32) : AtPort p s (s.endWait p) := by
  unfold State.endWait
  dsimp only
  split
  · exact (modPort ..).trans (fail ..)
  · exact (modPort ..).trans (modPort ..)

theorem closeAt (s : State) (p : Fin 32) : AtPort p s (s.closeAt p) := by
  unfold State.closeAt
  dsimp only
  split
  · exact (modPort ..).trans (completeAlign ..)
  · exact modPort ..

theorem loseInLaneLock (s : State) (p : Fin 32) (lost : Fin 4 → Bool) : AtPort p s (s.loseInLaneLock p lost) := by
  refine (modPort ..).trans ((foldl _ (fun t l => ?_) _ _).trans (examineLanes ..))
  split
  · exact withdrawLane ..
  · exact refl p t

theorem loseInAlign (s : State) (p : Fin 32) (lost : Fin 4 → Bool) : AtPort p s (s.loseInAlign p lost) := by
  unfold State.loseInAlign
  dsimp only
  split
  · split
    · exact (modPort ..).trans (fail ..)
    · exact (modPort ..).trans (checkSeen ..)
  · split
    · exact (modPort ..).trans (fail ..)
    · exact (modPort ..).trans (modPort ..)
  all_goals exact modPort ..

theorem loseFixed (s : State) (p : Fin 32) (lost : Fin 4 → Bool) : AtPort p s (s.loseFixed p lost) := by
  unfold State.loseFixed
  dsimp only
  split
  · exact realign ..
  · exact modPort ..

theorem loseActive (s : State) (p : Fin 32) (lost : Fin 4 → Bool) : AtPort p s (s.loseActive p lost) := by
  unfold State.loseActive
  dsimp only
  split
  · exact (modPort ..).trans (fail ..)
  · exact modPort ..

theorem loseLock (s : State) (p : Fin 32) (lanes : BitVec 4) : AtPort p s (s.loseLock p lanes) := by
  unfold State.loseLock
  dsimp only
  split
  · exact loseInLaneLock ..
  · exact loseInAlign ..
  · exact loseFixed ..
  · exact loseFixed ..
  · exact loseFixed ..
  · exact loseActive ..
  all_goals exact refl p s

theorem advancePort (s : State) (p : Fin 32) (f : SidebandFrame) : AtPort p s (s.advancePort p f) := by
  unfold State.advancePort
  dsimp only
  split
  · split
    · exact completeSideband ..
    · exact refl p s
  · split
    · exact modPort ..
    · exact refl p s
  · split
    · exact modPort ..
    · exact refl p s
  all_goals exact refl p s

theorem examineFrame (s : State) (p : Fin 32) (f : SidebandFrame) (d : Bool) : AtPort p s (s.examineFrame p f d) := by
  unfold State.examineFrame
  split
  · exact peerRestart ..
  · exact (modPort ..).trans (advancePort ..)

/-- A frame that brought an identity into CURRENT, where the PBE leaves the record CURRENT. -/
theorem examineEntry (s : State) (p : Fin 32) (f : SidebandFrame) (d : Bool)
    (h : ((s.examineFrame p f d).port p).neighbor.status = .current) : AtPort p s (s.examineEntry p f d) := by
  rw [State.examineEntry, if_pos h]
  exact examineFrame ..

theorem matchEcho (s : State) (p : Fin 32) (f : SidebandFrame) (t4 : BitVec 32) : AtPort p s (s.matchEcho p f t4) := by
  unfold State.matchEcho
  split
  · exact refl p s
  · exact (modPort ..).trans (checkBurst ..)

theorem stageExpired (s : State) (p : Fin 32) : AtPort p s (s.stageExpired p) := by
  unfold State.stageExpired
  dsimp only
  split
  · exact (modPort ..).trans (fail ..)
  · exact (modPort ..).trans (fail ..)
  · exact (modPort ..).trans (fail ..)
  all_goals exact refl p s

theorem controlPort (s : State) (c x : BitVec 6) (p : Fin 32) : AtPort p s (s.controlPort c x p) := by
  unfold State.controlPort
  dsimp only
  split
  · split
    · exact (modPort ..).trans (modPort ..)
    · exact (modPort ..).trans (disable ..)
  · split
    · split
      · exact ((modPort ..).trans (modPort ..)).trans (modPort ..)
      · exact (modPort ..).trans (modPort ..)
    · split
      · split
        · exact (modPort ..).trans (fenceRestart ..)
        · exact (modPort ..).trans (modPort ..)
      · exact modPort ..

end State.AtPort

end Sys2Proof.Machine
end

