-- ==== Sys2Proof/Laws/Only.lean ====
section
/-! SUPPORT. What the operations at ports leave alone: all but the ports and the Lane Monitor. -/

namespace Sys2Proof.Machine

/-- `t` differs from `s` at most in its ports and its Lane Monitor. -/
structure State.Only (s t : State) : Prop where
  rest : t = { s with ports := t.ports, monitor := t.monitor }

namespace State.Only

variable {s t u : State}

theorem refl (s : State) : s.Only s := ⟨rfl⟩

theorem trans (h : s.Only t) (k : t.Only u) : s.Only u := by
  have h := h.rest
  have k := k.rest
  exact ⟨by rw [k, h]⟩

theorem mli (h : s.Only t) : t.mli = s.mli := by rw [h.rest]
theorem plan (h : s.Only t) : t.plan = s.plan := by rw [h.rest]
theorem notices (h : s.Only t) : t.notices = s.notices := by rw [h.rest]
theorem frameErrors (h : s.Only t) : t.frameErrors = s.frameErrors := by rw [h.rest]
theorem timestamp (h : s.Only t) : t.timestamp = s.timestamp := by rw [h.rest]
theorem pending (h : s.Only t) : t.pending = s.pending := by rw [h.rest]
theorem params (h : s.Only t) : t.params = s.params := by rw [State.params, h.mli, State.params]

theorem modPort (s : State) (p : Fin 32) (f : Port → Port) : s.Only (s.modPort p f) := ⟨rfl⟩
theorem mapPorts (s : State) (f : Fin 32 → Port → Port) : s.Only (s.mapPorts f) := ⟨rfl⟩
theorem withMonitor (s : State) (m : Monitor) : s.Only (s.withMonitor m) := ⟨rfl⟩
theorem modLane (s : State) (g : Fin 128) (f : Lane → Lane) : s.Only (s.modLane g f) := ⟨rfl⟩
theorem withdrawPort (s : State) (p : Fin 32) : s.Only (s.withdrawPort p) := ⟨rfl⟩
theorem withdrawLane (s : State) (g : Fin 128) : s.Only (s.withdrawLane g) := ⟨rfl⟩

/-- A fold of operations each of which keeps the rest keeps it. -/
theorem foldl {α : Type} (f : State → α → State) (hf : ∀ (s : State) a, s.Only (f s a)) (l : List α) (s : State) :
    s.Only (l.foldl f s) := by
  induction l generalizing s with
  | nil => exact refl s
  | cons a rest ih => exact (hf s a).trans (ih _)

/-! ## Bring-up -/

theorem fail (s : State) (p : Fin 32) (c : Cause) (n : Nat) (l : Option (Fin 4)) : s.Only (s.fail p c n l) := ⟨rfl⟩

theorem examineLanes (s : State) (p : Fin 32) : s.Only (s.examineLanes p) := by
  unfold State.examineLanes
  dsimp only
  split
  · split
    · exact refl s
    · exact modPort ..
    · exact fail ..
  · exact refl s

theorem enterLaneLock (s : State) (p : Fin 32) : s.Only (s.enterLaneLock p) :=
  (modPort ..).trans (examineLanes ..)

theorem enterVerify (s : State) (p : Fin 32) : s.Only (s.enterVerify p) := modPort ..

theorem goOn (s : State) (p : Fin 32) (n : NextStep) : s.Only (s.goOn p n) := by
  cases n
  · exact enterLaneLock ..
  · exact enterVerify ..
  · exact refl s

theorem completeSideband (s : State) (p : Fin 32) : s.Only (s.completeSideband p) := by
  unfold State.completeSideband
  dsimp only
  split
  · exact (modPort ..).trans (modPort ..)
  · exact (modPort ..).trans (goOn ..)

theorem completeAlign (s : State) (p : Fin 32) : s.Only (s.completeAlign p) := by
  unfold State.completeAlign
  split
  · exact modPort ..
  · exact enterVerify ..

theorem completeBurst (s : State) (p : Fin 32) : s.Only (s.completeBurst p) := ⟨rfl⟩

theorem checkBurst (s : State) (p : Fin 32) : s.Only (s.checkBurst p) := by
  unfold State.checkBurst
  split
  · exact completeBurst ..
  · exact refl s

theorem peerRestart (s : State) (p : Fin 32) : s.Only (s.peerRestart p) := ⟨rfl⟩

theorem fenceRestart (s : State) (p : Fin 32) : s.Only (s.fenceRestart p) :=
  ((modPort ..).trans (withdrawPort ..)).trans (examineLanes ..)

theorem realign (s : State) (p : Fin 32) (lost : Fin 4 → Bool) : s.Only (s.realign p lost) := by
  unfold State.realign
  dsimp only
  split
  · exact (modPort ..).trans (fail ..)
  · exact modPort ..

theorem remove (s : State) (p : Fin 32) : s.Only (s.remove p) := ⟨rfl⟩
theorem disable (s : State) (p : Fin 32) : s.Only (s.disable p) := ⟨rfl⟩
theorem restart (s : State) (p : Fin 32) : s.Only (s.restart p) := ⟨rfl⟩

theorem release (s : State) (p : Fin 32) : s.Only (s.release p) := by
  unfold State.release
  split
  · exact goOn ..
  · exact enterVerify ..
  · exact modPort ..
  all_goals exact refl s

/-! ## Verdicts -/

theorem actOn (s : State) (first : Bool) (p : Fin 32) : s.Only (s.actOn first p) := by
  unfold State.actOn
  split
  · exact fail ..
  · split
    · exact modPort ..
    · exact refl s
  · split
    · exact modPort ..
    · exact refl s
  · exact refl s

theorem verdictPass (s : State) (set : List (Fin 32)) : s.Only (s.verdictPass set) :=
  (foldl _ (fun _ _ => modPort ..) _ _).trans (foldl _ (fun _ _ => actOn ..) _ _)

theorem verdictPasses (n : Nat) (s : State) (set : List (Fin 32)) : s.Only (State.verdictPasses n s set) := by
  induction n generalizing s set with
  | zero => exact refl s
  | succ n ih =>
    cases set with
    | nil => exact refl s
    | cons p rest =>
      unfold State.verdictPasses
      dsimp only
      split
      · exact (verdictPass ..).trans (ih _ _)
      · exact verdictPass ..

theorem trigger (s : State) (selected : Fin 32 → Bool) : s.Only (s.trigger selected) := by
  unfold State.trigger
  split
  · exact verdictPasses ..
  · exact mapPorts ..

theorem verdicts (s before : State) (own : Fin 32 → Bool) : s.Only (s.verdicts before own) := trigger ..

/-! ## Lanes and the Lane Monitor -/

theorem select (s : State) : s.Only s.select.state := by
  unfold State.select
  split
  · exact refl s
  · dsimp only
    split
    · exact withMonitor ..
    · exact ⟨rfl⟩
    · unfold State.serveScan; split <;> exact ⟨rfl⟩
    · split
      · unfold State.serveScan; split <;> exact ⟨rfl⟩
      · exact ⟨rfl⟩

theorem placeStep (s : State) (p : Fin 32) (l : Fin 4) : s.Only (s.placeStep p l) := ⟨rfl⟩

theorem resumeSearch (s : State) (p : Fin 32) (l : Fin 4) : s.Only (s.resumeSearch p l) := by
  unfold State.resumeSearch
  split
  · exact placeStep ..
  · exact refl s

theorem deliver (s : State) (p : Fin 32) (l : Fin 4) (a : BitVec 32) (v : Nat) : s.Only (s.deliver p l a v) :=
  (modPort ..).trans (resumeSearch ..)

theorem writeResult (s : State) (m : Measurement) (v : Nat) : s.Only (s.writeResult m v) := ⟨rfl⟩

theorem handOn (s : State) (m : Measurement) (v : Nat) : s.Only (s.handOn m v) := by
  unfold State.handOn
  split
  · exact (deliver ..).trans (examineLanes ..)
  · exact withMonitor ..

theorem completeMeasurement (s : State) (m : Measurement) (v : Nat) : s.Only (s.completeMeasurement m v) :=
  ((writeResult ..).trans (handOn ..)).trans (withMonitor ..)

theorem acquireLock (s : State) (p : Fin 32) (l : Fin 4) : s.Only (s.acquireLock p l) := by
  unfold State.acquireLock
  dsimp only
  split
  · exact (modPort ..).trans (placeStep ..)
  · exact modPort ..

theorem checkSeen (s : State) (p : Fin 32) : s.Only (s.checkSeen p) := by
  unfold State.checkSeen
  dsimp only
  split
  · exact modPort ..
  · exact refl s

theorem endWait (s : State) (p : Fin 32) : s.Only (s.endWait p) := by
  unfold State.endWait
  dsimp only
  split
  · exact (modPort ..).trans (fail ..)
  · exact (modPort ..).trans (modPort ..)

theorem closeAt (s : State) (p : Fin 32) : s.Only (s.closeAt p) := by
  unfold State.closeAt
  dsimp only
  split
  · exact (modPort ..).trans (completeAlign ..)
  · exact modPort ..

theorem loseInLaneLock (s : State) (p : Fin 32) (lost : Fin 4 → Bool) : s.Only (s.loseInLaneLock p lost) := by
  refine (modPort ..).trans ((foldl _ (fun t l => ?_) _ _).trans (examineLanes ..))
  split
  · exact withdrawLane ..
  · exact refl t

theorem loseInAlign (s : State) (p : Fin 32) (lost : Fin 4 → Bool) : s.Only (s.loseInAlign p lost) := by
  unfold State.loseInAlign
  dsimp only
  split
  · split
    · exact (modPort ..).trans (fail ..)
    · exact (modPort ..).trans (checkSeen ..)
  · split
    · exact (modPort ..).trans (fail ..)
    · exact (modPort ..).trans (modPort ..)
  all_goals exact modPort ..

theorem loseFixed (s : State) (p : Fin 32) (lost : Fin 4 → Bool) : s.Only (s.loseFixed p lost) := by
  unfold State.loseFixed
  dsimp only
  split
  · exact realign ..
  · exact modPort ..

theorem loseActive (s : State) (p : Fin 32) (lost : Fin 4 → Bool) : s.Only (s.loseActive p lost) := by
  unfold State.loseActive
  dsimp only
  split
  · exact (modPort ..).trans (fail ..)
  · exact modPort ..

theorem loseLock (s : State) (p : Fin 32) (lanes : BitVec 4) : s.Only (s.loseLock p lanes) := by
  unfold State.loseLock
  dsimp only
  split
  · exact loseInLaneLock ..
  · exact loseInAlign ..
  · exact loseFixed ..
  · exact loseFixed ..
  · exact loseFixed ..
  · exact loseActive ..
  all_goals exact refl s

/-! ## Sideband frames -/

theorem advancePort (s : State) (p : Fin 32) (f : SidebandFrame) : s.Only (s.advancePort p f) := by
  unfold State.advancePort
  dsimp only
  split
  · split
    · exact completeSideband ..
    · exact refl s
  · split
    · exact modPort ..
    · exact refl s
  · split
    · exact modPort ..
    · exact refl s
  all_goals exact refl s

theorem examineFrame (s : State) (p : Fin 32) (f : SidebandFrame) (d : Bool) : s.Only (s.examineFrame p f d) := by
  unfold State.examineFrame
  split
  · exact peerRestart ..
  · exact (modPort ..).trans (advancePort ..)

theorem examineEntry (s : State) (p : Fin 32) (f : SidebandFrame) (d : Bool) : s.Only (s.examineEntry p f d) := by
  unfold State.examineEntry
  dsimp only
  split
  · exact examineFrame ..
  · exact (trigger ..).trans (examineFrame ..)

theorem replaceRecord (s : State) (p : Fin 32) (i : PeerId) (f : SidebandFrame) : s.Only (s.replaceRecord p i f) := by
  unfold State.replaceRecord
  split
  · exact (peerRestart ..).trans (modPort ..)
  · exact (modPort ..).trans (examineEntry ..)

theorem refreshRecord (s : State) (p : Fin 32) (f : SidebandFrame) : s.Only (s.refreshRecord p f) := by
  unfold State.refreshRecord
  dsimp only
  split
  · exact ((modPort ..).trans (trigger ..)).trans (examineFrame ..)
  · exact (modPort ..).trans (examineFrame ..)

theorem takeFrame (s : State) (p : Fin 32) (i : PeerId) (f : SidebandFrame) : s.Only (s.takeFrame p i f) := by
  unfold State.takeFrame
  refine (modPort s p fun pt => { pt.countValidFrame with rx := none }).trans ?_
  dsimp only
  split
  · exact (modPort ..).trans (examineEntry ..)
  · exact refreshRecord ..
  · exact replaceRecord ..
  · exact (modPort ..).trans (examineFrame ..)
  · exact (modPort ..).trans (examineFrame ..)
  · exact examineFrame ..

theorem matchEcho (s : State) (p : Fin 32) (f : SidebandFrame) (t4 : BitVec 32) : s.Only (s.matchEcho p f t4) := by
  unfold State.matchEcho
  split
  · exact refl s
  · exact (modPort ..).trans (checkBurst ..)

theorem receive (s : State) (p : Fin 32) (f : SidebandFrame) (more : BitVec 32 → State → State)
    (hm : ∀ (w : BitVec 32) (t : State), t.Only (more w t)) : s.Only (s.receive p f more) := by
  unfold State.receive
  split
  · exact refl s
  · split
    · exact ((takeFrame ..).trans (hm _ _)).trans (verdicts ..)
    · exact modPort ..

theorem stageExpired (s : State) (p : Fin 32) : s.Only (s.stageExpired p) := by
  unfold State.stageExpired
  dsimp only
  split
  · exact (modPort ..).trans (fail ..)
  · exact (modPort ..).trans (fail ..)
  · exact (modPort ..).trans (fail ..)
  all_goals exact refl s

/-! ## Requests at ports -/

theorem controlPort (s : State) (c x : BitVec 6) (p : Fin 32) : s.Only (s.controlPort c x p) := by
  unfold State.controlPort
  dsimp only
  split
  · split
    · exact (modPort ..).trans (modPort ..)
    · exact (modPort ..).trans (disable ..)
  · split
    · split
      · exact ((modPort ..).trans (modPort ..)).trans (modPort ..)
      · exact (modPort ..).trans (modPort ..)
    · split
      · split
        · exact (modPort ..).trans (fenceRestart ..)
        · exact (modPort ..).trans (modPort ..)
      · exact modPort ..

end State.Only

/-! ## Requests -/

/-- What a request leaves of the management link whatever it does: its queue, its replies, its transmitter and its framer. -/
structure Mli.SameLink (before after : Mli) : Prop where
  queue : after.queue = before.queue
  replies : after.replies = before.replies
  sending : after.sending = before.sending
  framer : after.framer = before.framer
  gapTimer : after.gapTimer = before.gapTimer
  resetPending : after.resetPending = before.resetPending

theorem Mli.SameLink.refl (m : Mli) : m.SameLink m := ⟨rfl, rfl, rfl, rfl, rfl, rfl⟩

theorem State.Only.link {s t : State} (h : s.Only t) : s.mli.SameLink t.mli := by rw [h.mli]; exact .refl _

theorem State.link_enterRunning (s : State) : s.mli.SameLink s.enterRunning.mli := ⟨rfl, rfl, rfl, rfl, rfl, rfl⟩

theorem State.link_applyConfig (s : State) (pr : Params) : s.mli.SameLink (s.applyConfig pr).mli := by
  unfold State.applyConfig
  dsimp only
  split <;> exact ⟨rfl, rfl, rfl, rfl, rfl, rfl⟩

theorem State.link_configSet (s : State) (pairs : List (Byte × BitVec 48)) :
    s.mli.SameLink (s.configSet pairs).state.mli := by
  unfold State.configSet
  split
  · exact .refl _
  · split <;> exact State.link_applyConfig ..

theorem State.link_closePlan (s : State) (g : BitVec 16) : s.mli.SameLink (s.closePlan g).mli := by
  have h := State.Only.verdicts ((s.withPlan (s.plan.close g)).mapPorts fun p pt =>
    pt.meetClose ((s.plan.close g).cache.get p)) s fun p => (s.plan.close g).changed.get p || (s.port p).verdict.pending
  exact (h.link : _)

theorem State.link_writeEntry (s : State) (i : Fin 32) (e : Option PlanEntry) (c : Bool) :
    s.mli.SameLink (s.writeEntry i e c).state.mli := .refl _

theorem State.link_planEntry (s : State) (payload : List Byte) :
    s.mli.SameLink (s.takePlanEntry payload).state.mli := by
  unfold State.takePlanEntry
  dsimp only
  repeat' split
  all_goals exact .refl _

theorem State.link_planOverride (s : State) (payload : List Byte) :
    s.mli.SameLink (s.takePlanOverride payload).state.mli := by
  unfold State.takePlanOverride State.appendOverride State.deleteOverride
  dsimp only
  repeat' split
  all_goals exact .refl _

theorem State.link_planBegin (s : State) (payload : List Byte) :
    s.mli.SameLink (s.takePlanBegin payload).state.mli := by
  unfold State.takePlanBegin
  dsimp only
  repeat' split
  all_goals exact .refl _

theorem State.link_planEnd (s : State) (payload : List Byte) :
    s.mli.SameLink (s.takePlanEnd payload).state.mli := by
  unfold State.takePlanEnd
  dsimp only
  split
  · exact .refl _
  · split
    · exact .refl _
    · exact State.link_closePlan ..

/-- The requests that only read leave the state as it is. -/
theorem State.state_planRead (s : State) (payload : List Byte) : (s.takePlanRead payload).state = s := by
  unfold State.takePlanRead State.readIndexes State.readOverrides
  dsimp only
  repeat' split
  all_goals rfl

theorem State.state_monitorRead (s : State) (payload : List Byte) : (s.takeMonitorRead payload).state = s := by
  unfold State.takeMonitorRead State.readResults
  dsimp only
  repeat' split
  all_goals rfl

theorem State.state_configGet (s : State) (payload : List Byte) : (s.takeConfigGet payload).state = s := by
  unfold State.takeConfigGet
  split <;> rfl

theorem State.state_portStatus (s : State) (payload : List Byte) : (s.takePortStatus payload).state = s := by
  unfold State.takePortStatus
  split <;> rfl

theorem State.state_neighborRead (s : State) (payload : List Byte) : (s.takeNeighborRead payload).state = s := by
  unfold State.takeNeighborRead
  dsimp only
  split <;> rfl

theorem State.state_find (s : State) (payload : List Byte) : (s.takeFind payload).state = s := by
  unfold State.takeFind
  dsimp only
  split
  · rfl
  · split
    · rfl
    · split <;> rfl

theorem State.Only.portControl (s : State) (payload : List Byte) : s.Only (s.takePortControl payload).state := by
  unfold State.takePortControl
  dsimp only
  split
  · exact .refl s
  · exact (State.Only.foldl _ (fun _ _ => .controlPort ..) _ _).trans (.verdicts ..)

theorem State.Only.portRestart (s : State) (payload : List Byte) : s.Only (s.takePortRestart payload).state :=
  (State.Only.foldl _ (fun _ _ => .restart ..) _ _).trans (.verdicts ..)

theorem State.Only.portRelease (s : State) (payload : List Byte) : s.Only (s.takePortRelease payload).state :=
  (State.Only.foldl _ (fun _ _ => .release ..) _ _).trans (.verdicts ..)

theorem State.Only.laneEq (s : State) (payload : List Byte) : s.Only (s.takeLaneEq payload).state := by
  unfold State.takeLaneEq
  dsimp only
  repeat' split
  all_goals exact ⟨rfl⟩

theorem State.Only.monitorSetup (s : State) (payload : List Byte) : s.Only (s.takeMonitorSetup payload).state := by
  unfold State.takeMonitorSetup
  dsimp only
  repeat' split
  all_goals exact ⟨rfl⟩

theorem State.Only.monitorScan (s : State) (payload : List Byte) : s.Only (s.takeMonitorScan payload).state := by
  unfold State.takeMonitorScan
  dsimp only
  split
  · exact .refl s
  · split
    · exact .refl s
    · split
      · exact .refl s
      · exact (State.Only.withMonitor ..).trans (.select ..)

theorem State.Only.monitorCancel (s : State) (payload : List Byte) : s.Only (s.takeMonitorCancel payload).state := by
  unfold State.takeMonitorCancel
  split <;> exact ⟨rfl⟩

theorem State.Only.portTrim (s : State) (payload : List Byte) : s.Only (s.takePortTrim payload).state := by
  unfold State.takePortTrim
  dsimp only
  split <;> exact ⟨rfl⟩

theorem State.link_noticeControl (s : State) (payload : List Byte) :
    s.mli.SameLink (s.takeNoticeControl payload).state.mli := by
  unfold State.takeNoticeControl
  dsimp only
  split <;> exact ⟨rfl, rfl, rfl, rfl, rfl, rfl⟩

theorem State.link_counters (s : State) (payload : List Byte) :
    s.mli.SameLink (s.takeCounters payload).state.mli := by
  unfold State.takeCounters
  dsimp only
  split
  · exact .refl _
  · split
    · dsimp only [takes]; split <;> exact .refl _
    · split
      · dsimp only [takes]; split <;> exact .refl _
      · exact .refl _

/-- No request changes the link itself (R176). -/
theorem State.link_own (s : State) (kind : Byte) (payload : List Byte) :
    s.mli.SameLink (s.own kind payload).state.mli := by
  unfold State.own
  split
  · exact s.link_planBegin payload
  · exact s.link_planEntry payload
  · exact s.link_planOverride payload
  · exact s.link_planEnd payload
  · rw [s.state_planRead]; exact .refl _
  · exact (State.Only.portControl s payload).link
  · exact (State.Only.portRestart s payload).link
  · exact (State.Only.portRelease s payload).link
  · exact (State.Only.laneEq s payload).link
  · exact (State.Only.monitorSetup s payload).link
  · exact (State.Only.monitorScan s payload).link
  · exact (State.Only.monitorCancel s payload).link
  · rw [s.state_monitorRead]; exact .refl _
  · exact (State.Only.portTrim s payload).link
  · exact .refl _
  · exact s.link_configSet _
  · rw [s.state_configGet]; exact .refl _
  · exact .refl _
  · exact s.link_noticeControl payload
  · rw [s.state_portStatus]; exact .refl _
  · rw [s.state_neighborRead]; exact .refl _
  · rw [s.state_find]; exact .refl _
  · exact s.link_counters payload
  · exact .refl _

theorem State.link_answer (s : State) (f : Frame) : s.mli.SameLink (s.answer f).state.mli := by
  unfold State.answer
  split
  · exact .refl _
  · split
    · exact .refl _
    · exact s.link_own ..

end Sys2Proof.Machine
end

