-- ==== Sys2Proof/Laws/Conclusion.lean ====
section
/-! SUPPORT. What the shared end of every event does: when it changes nothing, and what a request at an idle link leaves. -/

namespace Sys2Proof.Machine

/-! ## Transmitters and ports -/

/-- A settled transmitter starts nothing. -/
theorem SidebandTx.start_settled {tx : SidebandTx} (h : tx.settled = true) (fields : SidebandFrame) (now : BitVec 32)
    (interval : Nat) : tx.start fields now interval = tx := by
  obtain ⟨timer, beacon, probe, echoes, sending⟩ := tx
  cases sending with
  | some f => rfl
  | none =>
    simp only [SidebandTx.settled, Option.isSome_none, Bool.false_or, Bool.and_eq_true, List.isEmpty_iff,
      Option.isNone_iff_eq_none, Bool.not_eq_true'] at h
    obtain ⟨⟨he, hp⟩, hb⟩ := h
    subst he hp hb
    rfl

/-- After a start the transmitter is settled (R63). -/
theorem SidebandTx.settled_start (tx : SidebandTx) (fields : SidebandFrame) (now : BitVec 32) (interval : Nat) :
    (tx.start fields now interval).settled = true := by
  obtain ⟨timer, beacon, probe, echoes, sending⟩ := tx
  cases sending <;> cases echoes <;> cases probe <;> cases beacon <;> rfl

/-- A port that keeps its flags of interest and has nothing to start is left as it is. -/
theorem concludePort_quiet {before after : State} {p : Fin 32} {pt : Port}
    (hb : ((before.port p).state.bearing && !pt.state.bearing) = false) (hp : promptDue before after p = false)
    (ht : pt.tx.settled = true) : concludePort before after p pt = pt := by
  simp only [concludePort, hb, hp, Bool.false_eq_true, if_false, SidebandTx.start_settled ht]

/-! ## Conclusions -/

/-- An event that changes no port state, no judgement and no advertised field concludes without effect. -/
theorem State.conclude_quiet {before after : State} (hplan : before.plan.state = after.plan.state)
    (hn : ∀ p, (before.port p).noticeDue (after.port p) = false)
    (hb : ∀ p, ((before.port p).state.bearing && !(after.port p).state.bearing) = false)
    (hp : ∀ p, promptDue before after p = false) (ht : after.sidebandSettled) :
    before.conclude after [] [] = after := by
  have hport : portNotices before after = [] := by simp [portNotices, hn]
  have hnotes : eventNotices before after [] [] = [] := by simp [eventNotices, planNotices, hplan, hport]
  have hports : after.ports.mapFin (concludePort before after) = after.ports :=
    Table.mapFin_same _ _ fun p => concludePort_quiet (hb p) (hp p) (ht p)
  unfold State.conclude
  rw [hnotes, hports]
  rfl

theorem Port.noticeDue_self (pt : Port) : pt.noticeDue pt = false := by simp [Port.noticeDue]

/-- Ports that agree on name, judgement and bearing hand no notice. -/
theorem Port.noticeDue_same {a b : Port} (hs : a.state = b.state) (hv : a.verdict = b.verdict) :
    a.noticeDue b = false := by simp [Port.noticeDue, hs, hv]

/-- No prompt beacon where the port state and the advertised fields are as before. -/
theorem promptDue_same {before after : State} {p : Fin 32} (hs : (after.port p).state = (before.port p).state)
    (ha : after.advertised p = before.advertised p) : promptDue before after p = false := by
  simp [promptDue, hs, ha]

/-- An event that changes nothing concludes without effect. -/
theorem State.conclude_self {s : State} (ht : s.sidebandSettled) : s.conclude s [] [] = s :=
  State.conclude_quiet rfl (fun _ => Port.noticeDue_self _) (fun p => by simp) (fun p => promptDue_same rfl rfl) ht

/-- The arbiter starts nothing at a settled link. -/
theorem State.startOutbound_settled {s : State}
    (h : s.mli.sending ≠ none ∨ s.mli.replies = [] ∧ (s.notices = [] ∨ s.mli.notify = false)) : s.startOutbound = s := by
  rcases s.startOutbound_cases with ⟨h', -⟩ | ⟨r, rest, hs, hr, -⟩ | ⟨n, rest, hs, hr, hn, hf, -⟩
  · exact h'
  · simp [hs, hr] at h
  · simp [hs, hr, hn, hf] at h

/-! ## Verdicts -/

/-- No report where every port holds the same CURRENT peer. -/
theorem reportMade_same {before after : State} (h : ∀ p, before.currentPeer p = after.currentPeer p) :
    reportMade before after = false := by simp [reportMade, h]

/-- A trigger that selects no port, with no verdict due, changes nothing. -/
theorem State.trigger_none {s : State} (hd : s.noneDue) {selected : Fin 32 → Bool} (hs : ∀ p, selected p = false) :
    s.trigger selected = s := by
  unfold State.trigger
  split
  · have : (allPorts.filter fun p => s.verdictDue p || ((s.port p).state.bearing && selected p)) = [] := by
      simp [hs, hd]
    rw [this]
    rfl
  · have hm : s.ports.mapFin (fun p pt => if pt.state.bearing && selected p then
        { pt with verdict := { pt.verdict with pending := true } } else pt) = s.ports :=
      Table.mapFin_same _ _ fun p => by simp [hs]
    unfold State.mapPorts
    rw [hm]

/-- No report and no verdict due: an event makes no verdict. -/
theorem State.verdicts_quiet {before after : State} (hd : after.noneDue)
    (hr : ∀ p, before.currentPeer p = after.currentPeer p) : (after.verdicts before fun _ => false) = after :=
  State.trigger_none hd fun _ => by simp [reportMade_same hr]

/-- An event that changes no port state, no judgement, no advertised field and no CURRENT peer leaves exactly what its own
effect leaves, at a settled link. -/
theorem State.event_quiet {before after : State} (hplan : before.plan.state = after.plan.state)
    (hs : ∀ p, (after.port p).state = (before.port p).state)
    (hv : ∀ p, (after.port p).verdict = (before.port p).verdict)
    (ha : ∀ p, after.advertised p = before.advertised p)
    (hc : ∀ p, before.currentPeer p = after.currentPeer p) (ht : after.sidebandSettled) (hd : after.noneDue)
    (hl : after.mli.sending ≠ none ∨ after.mli.replies = [] ∧ (after.notices = [] ∨ after.mli.notify = false)) :
    before.event after = after := by
  unfold State.event State.finish
  rw [State.verdicts_quiet hd hc, State.conclude_quiet hplan (fun p => Port.noticeDue_same (hs p).symm (hv p).symm)
    (fun p => by simp [hs p]) (fun p => promptDue_same (hs p) (ha p)) ht, State.startOutbound_settled hl]

/-! ## Requests at an idle link -/

/-- At an idle link an arriving frame is dispatched at once and its reply is being sent (R175, R176, R178). -/
theorem State.takeWhole_idle {s : State} (h : s.linkIdle) (f : Frame) :
    s.takeWhole f =
      (s.hunt.conclude (s.hunt.answer f).state [] (s.hunt.answer f).notices).modMli fun m =>
        { m with
          sending := some ⟨(replyTo f (s.hunt.answer f).answer).frame, (s.hunt.answer f).answer.reset⟩
          resetPending := (s.hunt.answer f).answer.reset } := by
  obtain ⟨hq, hr, hs, hp⟩ := h
  have hl := s.hunt.link_answer f
  have hqueue : ((s.hunt.modMli fun m => { m with queue := m.queue ++ [f] }).modMli fun m =>
      { m with queue := [] }) = s.hunt := by
    simp [State.hunt, State.modMli, hq]
  have hd : (s.hunt.modMli fun m => { m with queue := m.queue ++ [f] }).dispatchable = true := by
    simp [State.dispatchable, State.hunt, State.modMli, hq, hr, hp]
  have hdisp : (s.hunt.modMli fun m => { m with queue := m.queue ++ [f] }).dispatch =
      (s.hunt.conclude (s.hunt.answer f).state [] (s.hunt.answer f).notices).modMli fun m =>
        { m with
          replies := m.replies ++ [replyTo f (s.hunt.answer f).answer]
          resetPending := m.resetPending || (s.hunt.answer f).answer.reset } := by
    have hm : (s.hunt.modMli fun m => { m with queue := m.queue ++ [f] }).mli.queue = [f] := by
      simp [State.hunt, State.modMli, hq]
    unfold State.dispatch
    rw [hm]
    dsimp only
    rw [hqueue]
  have hlen : s.hunt.mli.queue.length < 4 := by simp [State.hunt, State.modMli, hq]
  have hlr : (s.hunt.answer f).state.mli.replies = [] := by rw [hl.replies]; exact hr
  have hls : (s.hunt.answer f).state.mli.sending = none := by rw [hl.sending]; exact hs
  have hlq : (s.hunt.answer f).state.mli.queue = [] := by rw [hl.queue]; exact hq
  have hlp : (s.hunt.answer f).state.mli.resetPending = false := by rw [hl.resetPending]; exact hp
  unfold State.takeWhole State.arrive
  rw [if_pos hlen]
  unfold State.settle
  rw [show (s.hunt.modMli fun m => { m with queue := m.queue ++ [f] }).tryDispatch =
    (s.hunt.modMli fun m => { m with queue := m.queue ++ [f] }).dispatch from by
      unfold State.tryDispatch; rw [if_pos hd], hdisp]
  simp [State.startOutbound, State.modMli, State.conclude, hlr, hls, hlp, State.tryDispatch, State.dispatchable, hlq,
    replyTo]

end Sys2Proof.Machine
end

