-- ==== Sys2Proof/Laws/Operations.lean ====
section
/-! SUPPORT. What the small shared operations answer: masks, clamps, counters, timers, and the Notice Queue. -/

namespace Sys2Proof.Machine

/-! ## Masks -/

theorem maskFold_getLsbD {n w : Nat} (hw : n ≤ w) (test : Fin n → Bool) (l : List (Fin n)) (m : BitVec w) (p : Fin n) :
    (l.foldl (fun m p => if test p then m ||| (1#w <<< p.val) else m) m).getLsbD p.val
      = (m.getLsbD p.val || (decide (p ∈ l) && test p)) := by
  induction l generalizing m with
  | nil => simp
  | cons q rest ih =>
    have hp : p.val < w := Nat.lt_of_lt_of_le p.isLt hw
    rw [List.foldl_cons, ih]
    by_cases ht : test q = true
    · have hbit : (1#w <<< q.val).getLsbD p.val = decide (p = q) := by
        rw [BitVec.getLsbD_shiftLeft, BitVec.getLsbD_one]
        by_cases hq : p = q
        · subst hq; simp [hp]; omega
        · have hv : p.val ≠ q.val := fun h => hq (Fin.ext h)
          simp [hq]; omega
      rw [if_pos ht, BitVec.getLsbD_or, hbit]
      by_cases hq : p = q
      · subst hq; simp [ht]
      · simp [hq]
    · rw [if_neg ht]
      by_cases hq : p = q
      · subst hq; simp [ht]
      · simp [hq]

theorem portMask_getLsbD (test : Fin 32 → Bool) (p : Fin 32) : (portMask test).getLsbD p.val = test p := by
  rw [portMask, maskFold_getLsbD (by omega)]
  simp [allPorts]

theorem laneMask_getLsbD (test : Fin 4 → Bool) (l : Fin 4) : (laneMask test).getLsbD l.val = test l := by
  rw [laneMask, maskFold_getLsbD (by omega)]
  simp [allLanes]

/-! ## Clamps, counters, timers -/

/-- Within a range whose ends are in order, the nearest value. -/
theorem clampTo_eq {low high : Nat} (h : low ≤ high) (n : Nat) : clampTo low high n = max low (min high n) := by
  unfold clampTo
  split
  · omega
  · split <;> omega

theorem clampTo_mem {low high : Nat} (h : low ≤ high) (n : Nat) : low ≤ clampTo low high n ∧ clampTo low high n ≤ high := by
  rw [clampTo_eq h]; omega

theorem clampTo_of_mem {low high n : Nat} (h : low ≤ n) (h' : n ≤ high) : clampTo low high n = n := by
  rw [clampTo_eq (h.trans h')]; omega

theorem bump_le {n : Nat} (h : n ≤ Config.counterMax) : bump n ≤ Config.counterMax := by
  unfold bump; split <;> omega

@[simp] theorem Timer.resume_pause (n : Nat) : (Timer.running n).pause.resume = .running n := rfl
@[simp] theorem Timer.advance_running (n k : Nat) : (Timer.running n).advance k = .running (n - k) := rfl
@[simp] theorem Timer.advance_stopped (k : Nat) : Timer.stopped.advance k = .stopped := rfl
@[simp] theorem Timer.advance_paused (n k : Nat) : (Timer.paused n).advance k = .paused n := rfl
@[simp] theorem Timer.isRunning_running (n : Nat) : (Timer.running n).isRunning = true := rfl
@[simp] theorem Timer.isRunning_stopped : Timer.stopped.isRunning = false := rfl
@[simp] theorem Timer.isRunning_paused (n : Nat) : (Timer.paused n).isRunning = false := rfl

/-! ## Lanes by their global index -/

@[simp] theorem lanePort_globalLane (p : Fin 32) (l : Fin 4) : lanePort (globalLane p l) = p := by
  apply Fin.ext; show (4 * p.val + l.val) / 4 = p.val; omega

@[simp] theorem lanePhysical_globalLane (p : Fin 32) (l : Fin 4) : lanePhysical (globalLane p l) = l := by
  apply Fin.ext; show (4 * p.val + l.val) % 4 = l.val; omega

@[simp] theorem globalLane_parts (g : Fin 128) : globalLane (lanePort g) (lanePhysical g) = g := by
  apply Fin.ext; show 4 * (g.val / 4) + g.val % 4 = g.val; omega

/-! ## The Notice Queue -/

@[simp] theorem Notice.sameSubject_refl (n : Notice) : n.sameSubject n = true := by cases n <;> simp [Notice.sameSubject]

theorem Notice.sameSubject_comm (a b : Notice) : a.sameSubject b = b.sameSubject a := by
  cases a <;> cases b <;> simp [Notice.sameSubject, Bool.beq_comm]

/-- A folded notice keeps kind and subject: it is compared as the handed one is. -/
theorem Notice.sameSubject_fold {h q : Notice} (hs : h.sameSubject q = true) (x : Notice) :
    (h.fold q).sameSubject x = h.sameSubject x := by
  cases h <;> cases q <;> cases x <;> simp_all [Notice.sameSubject, Notice.fold]

/-- Handing a notice: it is coalesced in place, or joins the tail of a queue that holds none of its kind and subject. -/
theorem handNotice_cases (n : Notice) (queue : List Notice) :
    (∃ before q after, queue = before ++ q :: after ∧ (∀ x ∈ before, n.sameSubject x = false) ∧ n.sameSubject q = true
      ∧ handNotice n queue = before ++ n.fold q :: after)
    ∨ (∀ x ∈ queue, n.sameSubject x = false) ∧ handNotice n queue = queue ++ [n] := by
  induction queue with
  | nil => exact .inr ⟨by simp, rfl⟩
  | cons q rest ih =>
    by_cases h : n.sameSubject q = true
    · exact .inl ⟨[], q, rest, rfl, by simp, h, by simp [handNotice, h]⟩
    · have hf : n.sameSubject q = false := by simpa using h
      rcases ih with ⟨b, x, a, rfl, hb, hx, he⟩ | ⟨hb, he⟩
      · exact .inl ⟨q :: b, x, a, rfl, by simpa [hf] using hb, hx, by simp [handNotice, hf, he]⟩
      · exact .inr ⟨by simpa [hf] using hb, by simp [handNotice, hf, he]⟩

end Sys2Proof.Machine
end

