-- ==== Sys2Proof/Laws/Reception.lean ====
section
/-! SUPPORT. What a receiver does with a sync sequence and with a frame, what T1's handing over leaves, and what markers and the
receive path answer. -/

namespace Sys2Proof.Machine

/-! ## The receiver (R60, R66) -/

theorem Port.collectingFrame_eq_some {pt : Port} {stamp : BitVec 32} :
    pt.collectingFrame = some stamp ↔ pt.state.sending = true ∧ pt.rx = some stamp := by
  unfold Port.collectingFrame; split <;> simp_all

theorem Port.collectingFrame_eq_none {pt : Port} : pt.collectingFrame = none ↔ pt.state.sending = false ∨ pt.rx = none := by
  unfold Port.collectingFrame; split <;> simp_all

/-- A sync sequence starts a collection at a hunting receiver that is on, and does nothing else. -/
theorem Port.findSync_cases (now : BitVec 32) (pt : Port) :
    (pt.state.sending = true ∧ pt.rx = none ∧ pt.findSync now = { pt with rx := some now })
      ∨ ((pt.state.sending = false ∨ pt.rx ≠ none) ∧ pt.findSync now = pt) := by
  unfold Port.findSync
  cases hs : pt.state.sending <;> cases hr : pt.rx <;> simp

theorem State.receive_of_hunting {s : State} {p : Fin 32} (f : SidebandFrame) (more : BitVec 32 → State → State)
    (h : (s.port p).state.sending = false ∨ (s.port p).rx = none) : s.receive p f more = s := by
  rw [State.receive, Port.collectingFrame_eq_none.mpr h]

theorem State.receive_of_invalid {s : State} {p : Fin 32} {f : SidebandFrame} {stamp : BitVec 32}
    (more : BitVec 32 → State → State) (hs : (s.port p).state.sending = true) (hr : (s.port p).rx = some stamp)
    (hf : senderOf f = none) : s.receive p f more = s.modPort p Port.reject := by
  rw [State.receive, Port.collectingFrame_eq_some.mpr ⟨hs, hr⟩]
  simp only [hf]

theorem State.receive_of_valid {s : State} {p : Fin 32} {f : SidebandFrame} {stamp : BitVec 32} {sender : PeerId}
    (more : BitVec 32 → State → State) (hs : (s.port p).state.sending = true) (hr : (s.port p).rx = some stamp)
    (hf : senderOf f = some sender) :
    s.receive p f more
      = (more stamp (s.takeFrame p sender f)).verdicts s fun _ => ((s.port p).reception sender).enters := by
  rw [State.receive, Port.collectingFrame_eq_some.mpr ⟨hs, hr⟩]
  simp only [hf]

/-- What taking an entering frame does: the PBE takes it, and where that takes the record out of CURRENT, a pass over the verdict-bearing
ports, or their pending flags, comes first. -/
theorem State.examineEntry_cases (s : State) (p : Fin 32) (f : SidebandFrame) (d : Bool) :
    (((s.examineFrame p f d).port p).neighbor.status = .current ∧ s.examineEntry p f d = s.examineFrame p f d)
      ∨ (((s.examineFrame p f d).port p).neighbor.status ≠ .current
        ∧ s.examineEntry p f d = (s.trigger fun _ => true).examineFrame p f d) := by
  unfold State.examineEntry
  dsimp only
  split
  · exact .inl ⟨‹_›, rfl⟩
  · exact .inr ⟨‹_›, rfl⟩

/-- A sender is the chassis and the port that the frame carries. -/
theorem senderOf_eq_some {f : SidebandFrame} {sender : PeerId} :
    senderOf f = some sender ↔
      f.senderChassis ≠ 0 ∧ sender.chassis = f.senderChassis ∧ sender.port.val = f.senderPort.toNat := by
  unfold senderOf portOf
  obtain ⟨chassis, port⟩ := sender
  have hp := port.isLt
  by_cases hq : f.senderPort.toNat < 32
  · by_cases hc : f.senderChassis = 0
    · simp [hq, hc]
    · simp only [hq, dif_pos, hc, if_false, Option.some.injEq, PeerId.mk.injEq, Fin.ext_iff]
      constructor
      · rintro ⟨h1, h2⟩; exact ⟨hc, h1.symm, h2.symm⟩
      · rintro ⟨-, h1, h2⟩; exact ⟨h1.symm, h2.symm⟩
  · simp only [hq, dif_neg, not_false_eq_true]
    constructor
    · intro h; cases h
    · rintro ⟨-, -, h⟩; change port.val = _ at h; omega

/-! ## Probes (R144) -/

theorem Burst.handOver_of_waiting {b : Burst} {k : Fin 8} (t1 now : BitVec 32) (hr : b.running = true)
    (hk : (b.probes.get k).status = .waiting) :
    b.handOver k t1 now = b.modProbe k fun pr =>
      { pr with status := .outstanding, t1 := some t1, timeout := .running (probeTimeLeft t1 now) } := by
  simp [Burst.handOver, hr, hk]

theorem Burst.handOver_of_not {b : Burst} {k : Fin 8} (t1 now : BitVec 32)
    (h : b.running = false ∨ (b.probes.get k).status ≠ .waiting) : b.handOver k t1 now = b := by
  rcases h with h | h <;> simp [Burst.handOver, h]

/-! ## Markers and the receive path (R118, R136) -/

/-- A marker in the sense of the lane's receive inversion arrives true, one in the other sense inverted. -/
theorem Port.arrivesInverted_eq (pt : Port) (l : Fin 4) (line : Bool) :
    pt.arrivesInverted l line = decide (line ≠ (pt.lane l).inversion) := by
  unfold Port.arrivesInverted
  cases line <;> cases (pt.lane l).inversion <;> rfl

/-- What feeds a logical lane is a kept physical lane that carries it, in ACTIVE alone. -/
theorem Port.receivePath_eq_some {pt : Port} {k : Fin 4} {path : ReceivePath} (h : pt.receivePath k = some path) :
    pt.state = .active ∧ pt.keptLane path.physical = true ∧ (pt.dlane path.physical).logical = some k
      ∧ path.delay = (pt.dlane path.physical).delay ∧ path.inverted = (pt.lane path.physical).inversion
      ∧ path.traffic = pt.inFinalSet k := by
  unfold Port.receivePath at h
  split at h
  · rename_i ha
    simp only [Option.map_eq_some_iff] at h
    obtain ⟨l, hl, rfl⟩ := h
    have := List.find?_some hl
    simp only [Bool.and_eq_true, decide_eq_true_eq] at this
    exact ⟨ha, this.1, this.2, rfl, rfl, rfl⟩
  · cases h

end Sys2Proof.Machine
end

