-- ==== Sys2Proof/Laws/Views.lean ====
section
/-! SUPPORT. How long the view of a port is: it fits one reply frame (R172, R186). -/

namespace Sys2Proof.Machine

/-! ## Lengths of the byte forms of R197 -/

@[simp] theorem numberBytes_length (len n : Nat) : (numberBytes len n).length = len := by
  induction len generalizing n with
  | zero => rfl
  | succ len ih => simp [numberBytes, ih]

@[simp] theorem byte1_length (n : Nat) : (byte1 n).length = 1 := numberBytes_length 1 n
@[simp] theorem byte2_length (n : Nat) : (byte2 n).length = 2 := numberBytes_length 2 n
@[simp] theorem byte4_length (n : Nat) : (byte4 n).length = 4 := numberBytes_length 4 n
@[simp] theorem byte6_length (n : Nat) : (byte6 n).length = 6 := numberBytes_length 6 n
@[simp] theorem flagByte_length (b : Bool) : (flagByte b).length = 1 := rfl
@[simp] theorem signedBytes_length (len : Nat) (n : Int) : (signedBytes len n).length = len := numberBytes_length len _

/-- An optional field has one length, present or absent, when its value has. -/
theorem optionBytes_length {α : Type} {len : Nat} {f : α → List Byte} (h : ∀ a, (f a).length = len) (o : Option α) :
    (optionBytes len f o).length = len + 1 := by
  cases o <;> simp [optionBytes, h]

/-- A list whose entries have one length. -/
theorem listBytes_length {α : Type} {len : Nat} {f : α → List Byte} (h : ∀ a, (f a).length = len) (l : List α) :
    (listBytes f l).length = 1 + l.length * len := by
  simp [listBytes, List.length_flatMap, h]

/-! ## The parts of the view -/

theorem PortState.subByte_length (st : PortState) : st.subByte.length = 1 := by cases st <;> rfl

theorem PortState.holdBytes_length (st : PortState) : st.holdBytes.length = 3 := by cases st <;> rfl

theorem LastFailure.bytes_length (f : LastFailure) : f.bytes.length = 8 := by
  simp [LastFailure.bytes, optionBytes_length]

theorem HeldFindings.bytes_length (f : HeldFindings) : f.bytes.length = 13 := by
  simp [HeldFindings.bytes, HeldLane.bytes, List.length_flatMap, f.lanes.size]

theorem PeerId.bytes_length (i : PeerId) : i.bytes.length = 7 := by simp [PeerId.bytes]

theorem Port.portPart_length (label : Option (List Byte)) (pt : Port) :
    (pt.portPart label).length = 22 + (labelBytes label).length := by
  simp [Port.portPart, PortState.subByte_length, PortState.holdBytes_length,
    optionBytes_length LastFailure.bytes_length]
  omega

theorem Verdict.bytes_length (v : Verdict) : v.bytes.length = 40 + v.codes.length := by
  simp [Verdict.bytes, optionBytes_length, optionBytes_length HeldFindings.bytes_length, listBytes_length]
  omega

/-- A neighbor record has 33 bytes beside its length flags, in whatever status it is. -/
theorem Neighbor.bytesWith_length (flags : List Byte) (n : Neighbor) : (n.bytesWith flags).length = 33 + flags.length := by
  cases h : n.identity <;>
    simp [Neighbor.bytesWith, h, PeerId.bytes_length, optionBytes_length, optionBytes_length PeerId.bytes_length] <;> omega

theorem Neighbor.bytes_length (n : Neighbor) : n.bytes.length = 35 := by simp [Neighbor.bytes, Neighbor.bytesWith_length]

theorem Neighbor.viewBytes_length (n : Neighbor) : n.viewBytes.length = 33 := by
  simp [Neighbor.viewBytes, Neighbor.bytesWith_length]

theorem laneBytes_length (ln : Lane) (dl : DeskewLane) : (laneBytes ln dl).length = 21 := by
  simp [laneBytes, optionBytes_length]

theorem Deskew.bytes_length (d : Deskew) : d.bytes.length = 14 := by
  simp [Deskew.bytes, optionBytes_length]

theorem Port.rangingPart_length (pt : Port) : pt.rangingPart.length = 23 := by
  simp [Port.rangingPart, optionBytes_length]

/-! ## The view -/

/-- The characters of a label, none for no label. -/
def labelLength : Option (List Byte) → Nat
  | some l => l.length
  | none => 0

/-- A view has 218 bytes beside the codes present and the label's characters. -/
theorem Port.view_length (label : Option (List Byte)) (pt : Port) :
    (pt.view label).length = 218 + pt.verdict.codes.length + labelLength label := by
  have lanes : (allLanes.flatMap fun l => laneBytes (pt.lane l) (pt.dlane l)).length = 84 := by
    simp [List.length_flatMap, laneBytes_length, allLanes]
  have characters : (labelBytes label).length = 2 + labelLength label := by
    cases label <;> simp [labelBytes, labelLength, listBytes_length]; omega
  simp only [Port.view, List.length_append, Port.portPart_length, Verdict.bytes_length, Neighbor.viewBytes_length,
    Deskew.bytes_length, Port.rangingPart_length, lanes, characters]
  omega

/-- With a label of 16 characters and 13 codes a view still fits one reply frame beside the status byte (R172, R186). -/
theorem Port.view_fits (label : Option (List Byte)) (pt : Port) (hl : labelLength label ≤ 16)
    (hc : pt.verdict.codes.length ≤ 13) : 1 + (pt.view label).length ≤ Config.replyRoom := by
  rw [Port.view_length, Config.replyRoom]
  omega

/-! ## How many codes a verdict can hold -/

/-- Whether a code is present (R161). -/
def State.codePresent (s : State) (p : Fin 32) (h : Held) (c : Code) : Bool := c.judged (s.expected p).kind && s.codeHolds p h c

/-- What the rules leave of the inputs a verdict holds: no length where it is unmeasured (Table 7-4), and no lane of the final set where
there is a skew excess (R129). -/
def Held.consistent (h : Held) : Prop :=
  (h.unmeasured = true → h.length = none)
    ∧ ∀ f, h.findings = some f → f.skewExcess = true → (h.anyLane fun l => l.used h.finalSet && l.marginal) = false

/-- What a first computation reads is consistent at a port whose unmeasured record holds no length (Table 7-4) and whose lanes are not
KEPT where there is a skew excess (R129). -/
theorem Port.heldNow_consistent (pt : Port) (unmeasured : pt.neighbor.unmeasured = true → pt.neighbor.length = none)
    (excess : pt.deskew.skewExcess = true → ∀ l, (pt.dlane l).status ≠ .kept) : pt.heldNow.consistent := by
  unfold Port.heldNow
  split
  · refine ⟨unmeasured, fun f found skew => ?_⟩
    obtain rfl : _ = f := by simpa using found
    simp [Held.anyLane, HeldLane.used, Table.get_ofFn, Port.heldLane, excess skew]
  · exact ⟨by simp, by simp⟩

/-- Of two codes that exclude each other at most one is counted. -/
theorem toNat_add_le_one {a b : Bool} (h : a = true → b = false) : a.toNat + b.toNat ≤ 1 := by
  cases a <;> cases b <;> simp_all

/-- The codes that exclude each other: WRONG_CHASSIS, WRONG_PORT and UNPLANNED (R154), the two of the lane map (Table 8-4), the two of
the width (R159), SKEW_EXCESS and EQ_MARGINAL, LENGTH_OUT_OF_WINDOW and LENGTH_UNMEASURED. -/
theorem State.codes_exclude (s : State) (p : Fin 32) (h : Held) (consistent : h.consistent) :
    (s.codePresent p h .wrongChassis = true → s.codePresent p h .wrongPort = false)
      ∧ (s.codePresent p h .unplanned = true →
          s.codePresent p h .wrongChassis = false ∧ s.codePresent p h .wrongPort = false)
      ∧ (s.codePresent p h .laneMapInvalid = true → s.codePresent p h .laneCrossed = false)
      ∧ (s.codePresent p h .lanesInsufficient = true → s.codePresent p h .widthDegraded = false)
      ∧ (s.codePresent p h .skewExcess = true → s.codePresent p h .eqMarginal = false)
      ∧ (s.codePresent p h .lengthUnmeasured = true → s.codePresent p h .lengthOutOfWindow = false) := by
  obtain ⟨unmeasured, excess⟩ := consistent
  refine ⟨fun a => ?_, fun a => ?_, fun a => ?_, fun a => ?_, fun a => ?_, fun a => ?_⟩ <;>
    simp only [State.codePresent, State.codeHolds, Bool.and_eq_true] at a ⊢
  · cases i : (s.port p).neighbor.identity with
    | none => simp
    | some peer =>
      simp only [i, wrongChassis, wrongPort, Bool.and_eq_true, List.all_eq_true, decide_eq_true_eq] at a ⊢
      have none : ((s.expected p).accepted.any fun x => decide (x.chassis = peer.chassis)) = false := by simpa using a.2.2
      simp [none]
  · have unused : (s.expected p).kind = .unused := by simpa using a.2
    simp [unused, Code.judged, Code.number]
  · have invalid : h.order = some .invalid := by simpa using a.2
    simp [invalid, laneCrossed]
  · cases w : h.finalSet with
    | none => simp
    | some m => simp [w] at a ⊢; omega
  · cases f : h.findings with
    | none => simp [f] at a
    | some x => simp [excess x f (by simpa [f] using a.2)]
  · simp [unmeasured a.2, outOfWindow]

/-- Codes of which these exclude each other number at most 13. -/
theorem codes_number_le (present : Code → Bool) (port : present .wrongChassis = true → present .wrongPort = false)
    (unplanned : present .unplanned = true → present .wrongChassis = false ∧ present .wrongPort = false)
    (lanes : present .laneMapInvalid = true → present .laneCrossed = false)
    (width : present .lanesInsufficient = true → present .widthDegraded = false)
    (skew : present .skewExcess = true → present .eqMarginal = false)
    (length : present .lengthUnmeasured = true → present .lengthOutOfWindow = false) :
    (allCodes.filter present).length ≤ 13 := by
  have count : ∀ l : List Code, (l.filter present).length = (l.map fun c => (present c).toNat).sum := by
    intro l
    induction l with
    | nil => rfl
    | cons c rest ih => cases hc : present c <;> simp [hc, ih]; omega
  have one : ∀ c, (present c).toNat ≤ 1 := fun c => Bool.toNat_le _
  have : (present .wrongChassis).toNat + (present .wrongPort).toNat + (present .unplanned).toNat ≤ 1 := by
    have := toNat_add_le_one port
    have := toNat_add_le_one fun a => (unplanned a).1
    have := toNat_add_le_one fun a => (unplanned a).2
    omega
  have := toNat_add_le_one lanes
  have := toNat_add_le_one width
  have := toNat_add_le_one skew
  have := toNat_add_le_one length
  have := one .duplicatePeer
  have := one .pairSwapped
  have := one .peerDisagrees
  have := one .peerFailed
  have := one .skewUnstable
  have := one .polarityCorrected
  have := one .lengthSuspect
  have := one .planGenerationSkew
  simp only [count, allCodes, List.map_cons, List.map_nil, List.sum_cons, List.sum_nil]
  linarith

/-- A verdict holds at most 13 codes, so its view fits (`Port.view_fits`). -/
theorem State.codes_length_le (s : State) (p : Fin 32) (h : Held) (consistent : h.consistent) : (s.codes p h).length ≤ 13 :=
  let ⟨port, unplanned, lanes, width, skew, length⟩ := s.codes_exclude p h consistent
  codes_number_le (s.codePresent p h) port unplanned lanes width skew length

end Sys2Proof.Machine
end

