-- ==== Sys2Proof/WellFormed.lean ====
section
/-! DEFINITION. Which commands are well-formed: what their sender can bring about on the lines at all.
`Machine.exec` gives every command a meaning, an ill-formed one too (it follows the same rules on it). -/

namespace Sys2Proof

/-- The two checks of R66 on a frame's fields that the kind and the CRC leave open. -/
def SidebandFrame.valid (f : SidebandFrame) : Bool :=
  f.senderChassis != 0 && decide (f.senderPort.toNat ≤ 31)

/-- A frame's length byte lies in 2 to 250 and counts tag, kind and payload (R172). -/
def payloadFits (payload : List Byte) : Bool := decide (payload.length ≤ 248)

/-- The form of a command. -/
def Instr.wellFormed : Instr → Bool
  | .managementFrameArrival _ _ payload => payloadFits payload
  | .planEntry _ _ entry => decide (entry.label.length = 16)
  | .configSet _ pairs => decide (1 ≤ pairs.length) && decide (pairs.length ≤ 30)
  | .configGet _ ids => decide (ids.length ≤ 30)
  | .beaconReceived _ frame => frame.valid
  | .probeReceived _ frame => frame.valid
  | .echoReceived _ frame _ => frame.valid
  | .lossOfLock _ lanes => lanes != 0
  | .powerOnReset | .managementFrameError | .framerGapTimeout | .lineBreak | .managementFrameSent
  | .planBegin _ _ | .planEntryClear _ _ | .planOverrideAppend _ _ | .planOverrideDelete _ _
  | .planEnd _ _ | .planReadEntries _ _ _ | .planReadEffective _ _ _ | .planReadOverrides _ _ _
  | .portControl _ _ _ _ | .portRestart _ _ | .portRelease _ _ | .laneEq _ _ _ | .laneEqClear _ _
  | .monitorSetup _ _ _ _ _ | .monitorScan _ _ _ | .monitorCancel _ _ | .monitorReadResults _ _ _
  | .monitorReadJobs _ | .portTrim _ _ _ | .identify _ | .deviceReset _ | .noticeControlEnable _
  | .noticeControlDisable _ | .noticeControlKeep _ | .noticeFlush _ _ | .portStatus _ _
  | .neighborRead _ _ _ | .find _ _ _ _ _ _ _ | .counters _ _ | .countersClear _ _
  | .presentNChange _ _ | .presenceSettledAsserted _ | .presenceSettledDeasserted _
  | .stageTimerExpiry _ | .backoffTimerExpiry _ | .silenceTimerExpiry _ | .beaconTimerExpiry _
  | .sidebandFrameEnd _ | .sidebandFrameRejected _ | .scheduleTimerExpiry _
  | .probeTimeoutExpiry _ _ | .lockAcquired _ _ | .lockTimerExpiry _ _ | .measurementComplete _
  | .markerDecoded _ _ _ _ _ _ | .markerWaitExpiry _ | .collectionClose _
  | .managementByteReceived _ _ | .syncSequenceFound _ => true

end Sys2Proof
end

