-- ==== Sys2Proof/Tests/Slice0.lean ====
section
/-! SUPPORT. Small tests: what is refused as ill-formed, the manual's worked examples one step at a time, and for every
statement of Certificates/Slice0/Obligations.lean that has hypotheses a state and operands that meet them. -/

-- One theorem at a time: each holds a thread and its stack while its kernel evaluation runs.
set_option Elab.async false

namespace Sys2Proof.Tests

open Sys2Proof Sys2Proof.Machine

/-! ## Builders -/

/-- The state a command leaves. -/
def after (c : Instr) (s : State) : Option State :=
  match exec c s with
  | .next t => some t
  | .fault _ => none
  | .refused _ => none

/-- Whether a command leaves a state that passes a test. -/
def leaves (c : Instr) (s : State) (test : State → Bool) : Bool := (after c s).any test

/-- The reset state with one port changed. -/
def withPort (p : Fin 32) (f : Port → Port) : State := State.reset.modPort p f

/-- The payload of the frame being sent. -/
def sent (s : State) : List Byte := match s.mli.sending with
  | some o => o.frame.payload
  | none => []

def frameFrom (chassis : BitVec 48) (port stage : Byte) (kept : Bool) : SidebandFrame where
  ready := false
  keptValid := kept
  senderChassis := chassis
  senderPort := port
  stage := stage
  verdictClass := 0
  fenceMask := 0
  keptMask := if kept then 15 else 0
  expectedChassis := 0
  expectedPort := 0
  generation := 7
  trim := 0
  interval := 5
  probeStamp := 0
  turnaround := 0

/-- A neighbor record that the frames above agree with. -/
def record (chassis : BitVec 48) (port : Fin 32) : Neighbor :=
  { Neighbor.reset with status := .current, identity := some ⟨chassis, port⟩, generation := 7 }

def entryTo (chassis : BitVec 48) (port : Byte) : RawPlanEntry where
  expectation := 0
  peerChassis := chassis
  peerPort := port
  cableKind := 0
  presence := 0
  windowMin := 0
  windowMax := 0
  lanePolicy := 1
  minWidth := 4
  skewLimit := 0
  recovery := 0
  retryLimit := 5
  labelLength := 0
  label := List.replicate 16 0

def plannedTo (chassis : BitVec 48) (port : Fin 32) : PlanEntry where
  expectation := .planned
  peer := some ⟨chassis, port⟩
  base := { absentBase with recovery := .auto, retryLimit := 5 }

/-- The reset state with the plan being loaded. -/
def loading : State := { State.reset with plan := { Plan.reset with state := .loading, cursor := 31 } }

/-- The reset state with the plan in force. -/
def closed : State := { State.reset with plan := { Plan.reset with state := .closed, generation := 7, epoch := 3 } }

def goodLane : Lane := { Lane.reset with state := .good false }

/-! ## Ill-formed commands (WellFormed.lean) -/

theorem test_wellformed_arrival_payload_fits :
    (Instr.managementFrameArrival 1 2 (List.replicate 249 0)).wellFormed = false
      ∧ (Instr.managementFrameArrival 1 2 (List.replicate 248 0)).wellFormed = true := by decide +kernel

theorem test_wellformed_label_has_16_bytes :
    (Instr.planEntry 1 0 { entryTo 1 0 with label := [65] }).wellFormed = false
      ∧ (Instr.planEntry 1 0 (entryTo 1 0)).wellFormed = true := by decide

theorem test_wellformed_pairs_1_to_30 :
    (Instr.configSet 1 []).wellFormed = false ∧ (Instr.configSet 1 (List.replicate 31 (1, 1))).wellFormed = false
      ∧ (Instr.configSet 1 (List.replicate 30 (1, 1))).wellFormed = true := by decide

theorem test_wellformed_ids_at_most_30 :
    (Instr.configGet 1 (List.replicate 31 1)).wellFormed = false ∧ (Instr.configGet 1 []).wellFormed = true := by decide

theorem test_wellformed_frames_are_valid :
    (Instr.beaconReceived 0 (frameFrom 0 3 1 false)).wellFormed = false
      ∧ (Instr.probeReceived 0 (frameFrom 5 32 1 false)).wellFormed = false
      ∧ (Instr.echoReceived 0 (frameFrom 0 32 1 false) 0).wellFormed = false
      ∧ (Instr.echoReceived 0 (frameFrom 5 31 1 false) 0).wellFormed = true := by decide

theorem test_wellformed_loss_names_a_lane :
    (Instr.lossOfLock 0 0).wellFormed = false ∧ (Instr.lossOfLock 0 8).wellFormed = true := by decide

theorem test_no_word_spells_a_command : decodeTableWord 8 0xFF = none ∧ State.reset.withFetchWord 8 1 = State.reset := by
  decide +kernel

/-! ## Values the manual gives -/

/-- The check value known for this polynomial and initial value over the characters 123456789 (R172). -/
theorem test_crc_check_value : crc16 [0x31, 0x32, 0x33, 0x34, 0x35, 0x36, 0x37, 0x38, 0x39] = 0x29B1 := by decide +kernel

/-- Section 1.6: global lane 49 is port 12, physical lane 1. -/
theorem test_global_lane_49 : globalLane 12 1 = 49 ∧ lanePort 49 = 12 ∧ lanePhysical 49 = 1 := by decide

/-- Chapter 6, the widths that sets of kept lanes reduce to. -/
theorem test_width_reductions :
    reduceWidth 0b1011 = 0b0011 ∧ reduceWidth 0b1110 = 0b1100 ∧ reduceWidth 0b0110 = 0b0010 ∧ reduceWidth 0b1000 = 0b1000 := by
  decide

/-- Chapter 6, maps with fewer than four entries. -/
theorem test_partial_maps :
    classify [(0, 0), (1, 1), (3, 3)] = .identity ∧ classify [(0, 3), (2, 1)] = .reversed ∧ classify [(1, 2)] = .reversed
      ∧ classify [(1, 3)] = .permuted := by decide

/-- Section 10.2: key 0x300 selects BACKOFF or FAULT under STATE. -/
theorem test_find_backoff_or_fault :
    leaves (.find 1 0 0 32 0 4 0x300) (withPort 9 fun pt => { pt with state := .fault })
      (fun t => sent t = [0, 1, 9, 10, 1, 10]) = true := by decide +kernel

theorem test_find_reports_the_end_of_the_range :
    leaves (.find 1 30 0 32 0 4 0x300) State.reset (fun t => sent t = [0, 0, 0, 2, 0, 0]) = true := by decide +kernel

/-! ## Chapter 6, worked example: deskew of a reversed port (Tables 6-6 to 6-8) -/

def stampsOf (logical : Fin 4) (a b c d : BitVec 16) : DeskewLane :=
  { DeskewLane.reset with
    seen := true, logical := some logical, stamps := ⟨[some a, some b, some c, some d], rfl⟩ }

/-- Port 7 at the close of collection 1. -/
def reversedPort (base : BaseFields) : State :=
  let s := withPort 7 fun pt => { pt with
    state := .align
    stageTimer := .running 1000
    lanes := .replicate 4 goodLane
    deskew := { pt.deskew with
      phase := .collecting
      collection := 1
      reference := some 0
      firstSequence := some 9
      closeTimer := .running 0
      lanes := ⟨[stampsOf 3 65530 6546 13098 19650, stampsOf 2 12 6565 13116 19667,
        stampsOf 1 65500 6517 13068 19619, stampsOf 0 40 6593 13144 19698], rfl⟩ } }
  { s with plan := { s.plan with cache := s.plan.cache.set 7 { absentEffective with base := base } } }

theorem test_deskew_of_a_reversed_port :
    leaves (.collectionClose 7) (reversedPort { absentBase with minWidth := .two }) (fun t =>
      let d := (t.port 7).deskew
      decide (d.lanes.cells.map (·.average) = [some 0, some 18, some (-30), some 47]
        ∧ d.lanes.cells.map (·.skew) = [some 30, some 48, some 0, some 77]
        ∧ d.lanes.cells.map (·.delay) = [some 47, some 29, some 77, some 0]
        ∧ d.mapClass = some .reversed ∧ d.keptMask = 0b1111 ∧ d.appliedLimit = some 480
        ∧ d.skewExcess = false ∧ (t.port 7).state = .verify (.planWait false))) = true := by decide +kernel

theorem test_deskew_under_a_tight_limit :
    leaves (.collectionClose 7) (reversedPort { absentBase with minWidth := .two, skewLimit := some 40 }) (fun t =>
      let d := (t.port 7).deskew
      decide (d.keptMask = 0b1100 ∧ d.lanes.cells.map (·.delay) = [some 18, some 0, none, none]
        ∧ d.lanes.cells.map (·.status) = [.kept, .kept, .outsideSubset, .outsideSubset])) = true := by decide +kernel

/-! ## Chapter 7, worked example: ranging across a timestamp wrap (Tables 7-5 and 7-6) -/

def answered (t1 t4 : BitVec 32) (turnaround : BitVec 16) : Probe :=
  { status := .answered, t1 := some t1, turnaround := some turnaround, t4 := some t4
    net := some (netTime t1 t4 turnaround), timeout := .stopped }

def outstanding (t1 : BitVec 32) : Probe :=
  { Probe.reset with status := .outstanding, t1 := some t1, timeout := .running 0 }

/-- Port 12 in RANGING with probe 5 outstanding and the others answered. -/
def rangingPort : State :=
  let s := withPort 12 fun pt => { pt with
    state := .verify .ranging
    stageTimer := .running 1000
    trim := 12
    neighbor := { record 0xB20 3 with trim := 20, kept := some 15 }
    tx := { pt.tx with beaconTimer := .running 9 }
    burst :=
      { running := true
        requested := 8
        schedule := .stopped
        probes := ⟨[answered 4294966000 2061 3100, answered 123704 127074 3112, answered 248704 252059 3098,
          answered 373704 377103 3140, outstanding 498704, answered 623704 627065 3101,
          answered 748704 752211 3250, answered 873704 877058 3096], rfl⟩ } }
  { s with plan := { s.plan with state := .loading } }

theorem test_length_of_303_cm :
    leaves (.probeTimeoutExpiry 12 4) rangingPort (fun t =>
      let pt := t.port 12
      decide (pt.neighbor.length = some 303 ∧ pt.neighbor.suspect = false ∧ pt.neighbor.unmeasured = false
        ∧ pt.summary.validSamples = some 7 ∧ pt.summary.minNet = some 257 ∧ pt.summary.loopDelay = some 33
        ∧ pt.summary.kind = some (0, 4350) ∧ pt.burst = Burst.reset)) = true := by decide +kernel

/-- Probe 1's sample crosses the wrap of the counter: 3,357 elapsed, 257 net. -/
theorem test_sample_across_the_wrap : netTime 4294966000 2061 3100 = 257 := by decide

/-! ## Chapters 4 and 5, worked examples: the sweep of lane 49, and arbitration with two scan jobs -/

/-- Lane 49 with a search step in service. -/
def lane49 (method : SearchMethod) (step : Fin 32) (best : Option Run) : State :=
  let s := withPort 12 fun pt => { pt with
    state := .laneLock
    attempt := 6
    tx := { pt.tx with beaconTimer := .running 9 }
    lanes := pt.lanes.set 1 { Lane.reset with
      state := .searching, method := method, step := step, current := step, previous := 27, passMv := 120
      minWindow := 4, bestRun := best, marker := .inService } }
  { s with monitor := { s.monitor with
      engine := some ⟨49, .bringUp 6, step, .running 0⟩
      setups := s.monitor.setups.set 49 ⟨-8, 0, 1023⟩ } }

theorem test_hold_step_fails_and_the_sweep_begins :
    leaves (.measurementComplete 95) (lane49 .hold 27 none) (fun t =>
      decide ((t.monitor.results.get 49).corrected = 87 ∧ ((t.port 12).lane 1).method = .midpoint
        ∧ ((t.port 12).lane 1).current = 0 ∧ ((t.port 12).lane 1).marker = .inService)) = true := by decide +kernel

theorem test_the_sweep_ends_in_the_middle_of_9_to_21 :
    leaves (.measurementComplete 0) (lane49 .midpoint 31 (some ⟨9, 21⟩)) (fun t =>
      decide (((t.port 12).lane 1).state = .good false ∧ ((t.port 12).lane 1).current = 15
        ∧ ((t.port 12).lane 1).previous = 15 ∧ ((t.port 12).lane 1).window = some ⟨9, 21⟩)) = true := by decide +kernel

/-- At 40 us: lane 80 in service, 81 to 83 waiting, the run count at 8, two scan jobs. -/
def arbitration : State :=
  let searching := fun (m : Marker) => { Lane.reset with state := .searching, method := .midpoint, step := 3, marker := m }
  let s := withPort 20 fun pt => { pt with
    state := .laneLock
    attempt := 1
    tx := { pt.tx with beaconTimer := .running 9 }
    lanes := ⟨[searching .inService, searching .waiting, searching .waiting, searching .waiting], rfl⟩ }
  { s with monitor := { s.monitor with
      engine := some ⟨80, .bringUp 1, 3, .running 0⟩
      queue := [⟨81, 1⟩, ⟨82, 1⟩, ⟨83, 1⟩]
      jobs := [⟨0, 0x30, 2, 1, 0, 0⟩, ⟨1, 0xE000000000000, 1, 1, 0, 0⟩]
      runCount := 8
      sequence := 1000 } }

theorem test_a_run_of_eight_lets_a_scan_go :
    leaves (.measurementComplete 200) arbitration (fun t =>
      decide (t.monitor.sequence = 1001 ∧ t.monitor.queue.map (·.lane) = [81, 82, 83, 80] ∧ t.monitor.runCount = 0
        ∧ (t.monitor.engine.map fun m => (m.lane, m.source)) = some (4, .scan (some 0)))) = true := by decide +kernel

/-! ## Chapter 1, worked example: recabling under an EITHER override (Table 1-12) -/

def recabling : State :=
  { State.reset with plan := { Plan.reset with
      state := .loading
      generation := 41
      epoch := 7
      entries := (Plan.reset.entries.set 8 (some (plannedTo 0xA201 0))).set 9 (some (plannedTo 0xA201 1))
      overrides := [⟨8, 4, 0xB307, 16, .either⟩] } }

theorem test_either_accepts_both_ends :
    leaves (.planEnd 1 42) recabling (fun t =>
      decide ((t.expected 9).accepted = [⟨0xB307, 17⟩, ⟨0xA201, 1⟩] ∧ (t.expected 9).advertised = none
        ∧ (t.expected 9).matched = some 0 ∧ (t.expected 9).kind = .planned ∧ t.plan.epoch = 8
        ∧ t.plan.changed.get 9 = true ∧ t.plan.changed.get 12 = false)) = true := by decide +kernel

theorem test_append_takes_position_0 :
    leaves (.planOverrideAppend 1 ⟨8, 4, 0xB307, 16, 1⟩) loading (fun t => sent t = [0, 0, 1]) = true := by decide +kernel

/-! ## Chapter 8, worked example: a swapped pair found (detection at chassis L) -/

/-- L4 and L5 HELD at VERIFY with PASS, at the load whose close plans them straight. -/
def swapped : State :=
  let held := fun (peer : Fin 32) (pt : Port) => { pt with
    state := .held .verify .ready
    present := true
    rawPresent := true
    flags := 3
    tx := { pt.tx with beaconTimer := .running 9 }
    neighbor := record 0xE0B20 peer
    verdict := { Verdict.reset with cls := .pass, finalSet := some 15, finalWidth := some 4, order := some .identity } }
  let s := (withPort 4 (held 5)).modPort 5 (held 4)
  { s with plan := { s.plan with
      state := .loading
      generation := 7
      epoch := 3
      entries := (s.plan.entries.set 4 (some { plannedTo 0xE0B20 4 with base := absentBase })).set 5
        (some { plannedTo 0xE0B20 5 with base := absentBase }) } }

theorem test_a_swapped_pair_is_found_at_the_close :
    leaves (.planEnd 1 8) swapped (fun t =>
      decide ((t.port 4).verdict.codes = [.pairSwapped, .wrongPort, .planGenerationSkew] ∧ (t.port 4).verdict.partner = some 5
        ∧ (t.port 4).state = .fault ∧ (t.port 5).verdict.partner = some 4 ∧ (t.port 4).verdict.epoch = 4
        ∧ (t.port 4).neighbor.status = .stale
        ∧ (t.port 4).lastFailure = some ⟨.verdictFail, 4, none, 0⟩)) = true := by decide +kernel

/-- Every cached record under AUTO recovery with a retry limit. -/
def autoPlan (limit : Nat) (s : State) : State :=
  { s with plan := { s.plan with
      cache := .replicate 32 { absentEffective with base := { absentBase with recovery := .auto, retryLimit := limit } } } }

/-- M4 under AUTO recovery: 200 ms of SIDEBAND end in BACKOFF with a wait of 10 + 4 x 0.25 = 11 ms. -/
theorem test_first_backoff_of_port_4_is_11_ms :
    leaves (.stageTimerExpiry 4)
      (autoPlan 3 (withPort 4 fun pt => { pt with state := .sideband, stageTimer := .running 0 })) (fun t => decide ((t.port 4).state = .backoff ∧ (t.port 4).retryCount = 1
        ∧ (t.port 4).backoffTimer = .running 13750000)) = true := by decide +kernel

/-! ## Chapter 10, worked example: notices held and coalesced (Table 10-4) -/

theorem test_plan_state_notices_coalesce :
    leaves (.planEnd 1 5) { loading with notices := [.planState .loading 0 0 0] }
      (fun t => t.notices = [.planState .closed 5 1 1]) = true := by decide +kernel

theorem test_running_seats_ports_in_order :
    leaves (.configSet 1 [(1, 0xC105)])
      ((withPort 3 fun pt => { pt with flags := 1, present := true, rawPresent := true }).modPort 7 fun pt => { pt with flags := 1 })
      (fun t => decide (t.notices = [.portState ⟨3, .sideband, .sideband, .none, none, none, 0⟩,
        .portState ⟨7, .waitCable, .waitCable, .none, none, none, 0⟩] ∧ t.mli.device = .running)) = true := by decide +kernel

theorem test_second_lane_limit_joins_the_mask :
    handNotice (.laneLimit 3 4 0) [.laneLimit 3 2 0] = [.laneLimit 3 6 1] := by decide

/-! ## Requests at the line -/

/-- PLAN_END with payload length 1 is BAD_LENGTH, kind 0x18 UNKNOWN_KIND (R177). -/
theorem test_refusals_at_the_line :
    leaves (.managementFrameArrival 9 0x04 [1]) State.reset (fun t => decide ((t.mli.sending.map (·.frame)) = some ⟨9, 0x84, [3]⟩))
        = true
      ∧ leaves (.managementFrameArrival 9 0x18 []) State.reset
        (fun t => decide ((t.mli.sending.map (·.frame)) = some ⟨9, 0xFF, [2]⟩)) = true := by decide +kernel

/-- Table 1-1 and R182: vendor 0x0B7E, part 0x3204, revision 1, 32 ports of 4 lanes, 32 entries, 16 overrides. -/
theorem test_identify_names_the_part :
    leaves (.identify 1) State.reset
      (fun t => decide ((sent t).take 10 = [0, 0x0B, 0x7E, 0x32, 0x04, 1, 32, 4, 32, 16])) = true := by decide +kernel

/-- R180: beacon_interval 0 is taken as 1 and reported. -/
theorem test_config_set_clamps :
    leaves (.configSet 1 [(2, 0)]) State.reset
      (fun t => decide (sent t = [1, 1, 2] ∧ t.params.beaconInterval = 1)) = true := by decide +kernel

theorem test_config_set_is_all_or_none :
    leaves (.configSet 1 [(2, 9), (14, 4)]) State.reset
      (fun t => decide (sent t = [4, 14] ∧ t.params = Params.reset)) = true := by decide +kernel

/-! ## Witnesses: for each statement with hypotheses, states and operands that meet them, clause by clause -/

/-- The reset state with port 5 in a state, its beacon timer running, a frame being collected since time 77. -/
def inState (st : PortState) (f : Port → Port) : State :=
  withPort 5 fun pt => f { pt with
    state := st
    present := true
    rawPresent := true
    flags := 1
    rx := some 77
    tx := { pt.tx with beaconTimer := .running 9 } }

/-- Port 5 engaged with a CURRENT peer, chassis 0xB20 port 31. -/
def engagedIn (st : PortState) (f : Port → Port) : State := inState st fun pt => f { pt with neighbor := record 0xB20 31 }

/-- A RUNNING device with a port in each of the states that the invariants speak of. -/
def alive : State :=
  let seated := fun (st : PortState) (k : Fin 32) (phase : AlignPhase) (pt : Port) => { pt with
    state := st
    flags := 1
    present := true
    rawPresent := true
    retryCount := 15
    tx := { pt.tx with beaconTimer := .running 9 }
    neighbor := if st = .backoff then Neighbor.reset else record 0xB20 k
    verdict := { Verdict.reset with cls := .warn, codes := [.eqMarginal] }
    ready := decide (st = .active) || decide (st = .verify .readyWait)
    deskew := { pt.deskew with phase := phase }
    burst := { pt.burst with running := decide (st = .verify .ranging) } }
  let s := (((((State.reset.modPort 5 (seated .active 1 .fixed)).modPort 6 (seated (.verify .readyWait) 2 .fixed)).modPort 7
    (seated .align 3 .collecting)).modPort 8 (seated (.verify .ranging) 4 .fixed)).modPort 9 (seated .backoff 5 .idle)).modPort 10
      fun pt => { pt with state := .waitCable, flags := 1 }
  let s := autoPlan 15 s
  { s with
    mli := { s.mli with device := .running, params := { s.mli.params with chassisId := 0xA11 } }
    notices := [.monitorDone 0 .complete 0, .monitorDone 1 .complete 0]
    pending := [.presentNChange 10 true, .stageTimerExpiry 7] }

theorem test_witness_IdleStepLetsOneUnitPass :
    let s := (withPort 0 fun pt => { pt with stageTimer := .running 1, debounce := .running 0 }).modPort 1
      fun pt => { pt with stageTimer := .paused 3, markers := ⟨818, 15⟩ }
    s.pending = [] ∧ (s.port 0).markers.since < 818 ∧ (s.port 1).markers.since = 818 := by decide +kernel

/-- R117: 16 markers take 13,104 TU, and the sequence number goes from 15 back to 0. -/
theorem test_marker_sequence : (MarkerTx.advance 13104 ⟨0, 3⟩ = ⟨0, 3⟩) ∧ (MarkerTx.advance 1 ⟨818, 15⟩ = ⟨0, 0⟩) := by decide

theorem test_witness_EventsFinishWhatTheyMakeDue : alive.settled := by decide +kernel
theorem test_witness_QueuesKeepTheirBounds : alive.linkBounds ∧ distinctNotices alive.notices := by decide +kernel
theorem test_witness_RetryCountStaysWithinItsLimit : alive.retryLaw := by decide +kernel
theorem test_witness_ReadyPortsHoldAPassingVerdict : alive.bearingLaw := by decide +kernel
theorem test_witness_StoredValuesStayInRange : alive.plan.inRange ∧ alive.params.inRange :=
  ⟨by decide +kernel, by decide +kernel⟩
theorem test_witness_device_law : alive.deviceLaw := by decide +kernel
theorem test_witness_PortsFollowEnableAndPresence : alive.presenceLaw ∧ alive.silentLaw := by decide +kernel
theorem test_witness_BearingPortsHaveDistinctPeers : alive.neighborLaw := by decide +kernel
theorem test_witness_distinct_peers : alive.distinctPeers := by decide +kernel
theorem test_witness_StagesOwnTheirUnits : alive.stageLaw := by decide +kernel

/-- The state that meets the invariants' hypotheses leads on to a next state, twice. -/
theorem test_witness_alive_steps :
    (match step alive with
      | .next t => (match step t with | .next _ => true | .fault _ => false | .refused _ => false)
      | .fault _ => false
      | .refused _ => false) = true := by decide +kernel

theorem test_witness_BytesSpellWhatTheyCarry_operands :
    (entryTo 1 31).label.length = 16 ∧ 65535 < 256 ^ 2 ∧ 0 < 256 ^ 0 := by decide

theorem test_witness_BytesSpellWhatTheyCarry_frames :
    (⟨1, 2, List.replicate 248 0⟩ : Frame).payload.length ≤ 248 ∧ State.reset.mli.framer = .hunting := by decide +kernel

theorem test_witness_ArrivalsAreRefusedOrWait_refused :
    State.reset.ready ∧ 0x17 < (0x18 : Byte).toNat ∧ lengthAllowed 0x01 0 = false ∧ lengthAllowed 0x17 3 = false := by
  decide +kernel

def busyWith (queued refusals : Nat) : State :=
  { State.reset with mli := { State.reset.mli with
      queue := List.replicate queued ⟨1, 2, []⟩
      replies := ⟨⟨1, 0x82, [0]⟩, false, false⟩ :: List.replicate refusals ⟨⟨2, 0x82, [7]⟩, true, false⟩
      sending := some ⟨⟨0, 0x81, [0]⟩, false⟩ } }

theorem test_witness_ArrivalsAreRefusedOrWait_waiting :
    (∀ n ∈ [3, 4], (busyWith n 3).mli.sending ≠ none ∧ (∃ r ∈ (busyWith n 3).mli.replies, r.refusal = false))
      ∧ (busyWith 3 3).mli.queue.length < 4 ∧ 4 ≤ (busyWith 4 3).mli.queue.length
      ∧ ((busyWith 4 3).mli.replies.filter (·.refusal)).length < 4 ∧ isRequestKind 0x17 = true
      ∧ 4 ≤ ((busyWith 4 4).mli.replies.filter (·.refusal)).length := by decide +kernel

theorem test_witness_PlanBeginOpensALoad :
    State.reset.ready ∧ loading.ready ∧ loading.plan.state = .loading ∧ State.reset.plan.state ≠ .loading
      ∧ 1 < (2 : Byte).toNat ∧ (1 : Byte).toNat ≤ 1 := by decide +kernel

theorem test_witness_PlanEditsChangeTheirItem_entry :
    loading.ready ∧ State.reset.ready ∧ State.reset.plan.state ≠ .loading ∧ (entryTo 1 31).label.length = 16
      ∧ 31 < (32 : Byte).toNat ∧ (254 : Byte).toNat < 255 ∧ loading.plan.state = .loading
      ∧ 32 ≤ { loading.plan with cursor := 32 }.cursor ∧ ((31 : Byte).toNat = (31 : Fin 32).val)
      ∧ (0xFF : Byte) = 0xFF ∧ loading.plan.cursor = (31 : Fin 32).val
      ∧ checkEntry (entryTo 0 31) = none ∧ (checkEntry (entryTo 1 31)).isSome = true := by decide +kernel

/-- The extreme values an entry is stored with: a skew limit of 15 and a retry limit of 16 are clamped, those of 16 and 15 are
kept. -/
theorem test_witness_EntryFieldsAreCheckedThenClamped :
    ((checkEntry { entryTo 1 31 with presence := 2, skewLimit := 15, retryLimit := 16 }).map
        fun c => (c.clamped, c.entry.base.skewLimit, c.entry.base.retryLimit)) = some (true, some 16, 15)
      ∧ ((checkEntry { entryTo 1 31 with presence := 2, skewLimit := 16, retryLimit := 15 }).map (·.clamped)) = some false
      ∧ checkEntry { entryTo 1 31 with labelLength := 17 } = none := by decide +kernel

def overridden (n : Nat) : State :=
  { loading with plan := { loading.plan with overrides := List.replicate n ⟨0, 32, 1, 0, .replace⟩ } }

theorem test_witness_OverrideAppendIsCheckedAgainstItsTable :
    (overridden 15).ready ∧ (overridden 16).ready ∧ State.reset.ready ∧ State.reset.plan.state ≠ .loading
      ∧ (overridden 15).plan.state = .loading ∧ (overridden 15).plan.overrides.length < 16
      ∧ 16 ≤ (overridden 16).plan.overrides.length
      ∧ checkOverride ⟨0, 32, 1, 0, 1⟩ = some ⟨0, 32, 1, 0, .either⟩ ∧ checkOverride ⟨31, 1, 1, 31, 0⟩ = some ⟨31, 1, 1, 31, .replace⟩
      ∧ checkOverride ⟨1, 32, 1, 0, 1⟩ = none ∧ checkOverride ⟨0, 1, 1, 0, 2⟩ = none := by decide +kernel

theorem test_witness_PlanEditsChangeTheirItem_override :
    (overridden 2).ready ∧ (overridden 2).plan.state = .loading ∧ (overridden 2).plan.overrides.length ≤ (2 : Byte).toNat
      ∧ (overridden 2).plan.overrides = [⟨0, 32, 1, 0, .replace⟩] ++ ⟨0, 32, 1, 0, .replace⟩ :: []
      ∧ [(⟨0, 32, 1, 0, .replace⟩ : Override)].length = (1 : Byte).toNat := by decide +kernel

/-- Port 4 waits in PLAN_WAIT without a peer kept mask, and its entry is written. -/
def waitingForPlan : State :=
  let s := withPort 4 fun pt => { pt with state := .verify (.planWait false), stageTimer := .paused 7 }
  { s with plan := { s.plan with state := .loading, entries := s.plan.entries.set 4 (some (plannedTo 1 31)) } }

theorem test_witness_PlanEndClosesThePlan :
    waitingForPlan.ready ∧ waitingForPlan.plan.state = .loading ∧ State.reset.plan.state ≠ .loading
      ∧ (waitingForPlan.port 3).state.bearing = false ∧ (waitingForPlan.port 3).state = .disabled
      ∧ (waitingForPlan.port 4).state = .verify (.planWait false) ∧ (waitingForPlan.port 4).neighbor.kept = none
      ∧ leaves (.planEnd 1 1) waitingForPlan (fun t => decide ((t.plan.cache.get 4).kind ≠ .unused)) = true
      ∧ (let s := waitingForPlan.modPort 4 fun pt => { pt with neighbor := { record 2 2 with kept := some 15 } }
         s.ready ∧ (s.port 4).state = .verify (.planWait false) ∧ (s.port 4).neighbor.kept ≠ none) := by
  decide +kernel

theorem test_witness_PlanAndMonitorReadsChangeNothing :
    (overridden 2).ready ∧ 31 < (32 : Byte).toNat ∧ 15 < (16 : Byte).toNat ∧ (31 : Byte).toNat ≤ 31
      ∧ (1 : Byte).toNat < (overridden 2).plan.overrides.length ∧ (overridden 2).plan.overrides.length ≤ (2 : Byte).toNat := by
  decide +kernel

/-- A RUNNING device; port 4 is not enabled, port 5 is in LANE_LOCK. -/
def controlled : State :=
  let s := engagedIn .laneLock id
  { s with mli := { s.mli with device := .running, params := { s.mli.params with chassisId := 1 } } }

theorem test_witness_PortControlSetsFlags :
    controlled.ready ∧ 63 < (64 : Byte).toNat ∧ (63 : Byte).toNat ≤ 63
      ∧ (controlled.port 4).adminEnable = false ∧ (controlled.port 4).state = .disabled ∧ controlled.mli.device = .running
      ∧ (controlled.port 5).inLaneStages = true ∧ (0x30 : BitVec 32).getLsbD 4 = true
      ∧ leaves (.portControl 1 0x30 0 0x1D) controlled (fun t => decide ((t.port 4).adminEnable = true
        ∧ (t.port 5).adminEnable = true ∧ (controlled.port 5).fenceMask ≠ (t.port 5).fenceMask ∧ (t.port 5).fenceMask ≠ 15))
        = true
      ∧ leaves (.portControl 1 0x30 1 0) controlled (fun t => decide ((t.port 5).adminEnable = false)) = true := by
  decide +kernel

/-- A fence change that leaves no lane, one in each state outside the lane stages, and one at a port that is DISABLED before it. -/
theorem test_witness_PortControlSetsFlags_fences :
    leaves (.portControl 1 0x30 0 0x3C) controlled (fun t => decide ((t.port 5).adminEnable = true ∧ (t.port 5).fenceMask = 15
        ∧ (t.port 5).state = .fault ∧ (t.port 5).attempt = 1 ∧ (controlled.port 4).state = .disabled
        ∧ (controlled.port 4).fenceMask ≠ (t.port 4).fenceMask ∧ (t.port 4).adminEnable = false
        ∧ ((t.port 4).lane 2).state = .fenced)) = true
      ∧ ∀ st ∈ [PortState.waitCable, .sideband, .held .sideband .laneLock, .backoff, .fault, .verify .maskWait, .disabled],
        let s := inState st id
        s.ready ∧ (s.port 5).adminEnable = true ∧ (s.port 5).inLaneStages = false ∧ (s.port 5).state.bearing = false
          ∧ leaves (.portControl 1 0x20 0 8) s (fun t => decide ((t.port 5).adminEnable = true
            ∧ (s.port 5).fenceMask ≠ (t.port 5).fenceMask ∧ (t.port 5).state = st
            ∧ ((t.port 5).lane 1).state = .fenced ∧ ((t.port 5).lane 0).state = .idle)) = true := by
  decide +kernel

theorem test_witness_PortRestartStartsAfresh :
    controlled.ready ∧ (0x20 : BitVec 32).getLsbD 5 = true ∧ (controlled.port 5).state ≠ .disabled
      ∧ (controlled.port 4).state.bearing = false := by decide +kernel

theorem test_witness_PortReleaseGoesOn :
    (∀ st ∈ [PortState.held .verify .ready, .held .align .verify, .held .sideband .laneLock],
      (engagedIn st fun pt => { pt with verdict := { pt.verdict with cls := .pass } }).ready
        ∧ ((engagedIn st id).port 5).state = st ∧ (engagedIn st id).plan.state ≠ .closed
        ∧ ((engagedIn st id).port 5).fenceMask ≠ 15
        ∧ ∀ q : Fin 32, q ≠ 5 → ((engagedIn st id).port q).state.name ≠ .held)
      ∧ State.reset.ready ∧ ∀ p : Fin 32, (State.reset.port p).state.name ≠ .held := by decide +kernel

/-- Port 5 HELD under a CLOSED plan whose record of it is of a kind. -/
def heldInForce (st : PortState) (kind : Expectation) (f : Port → Port) : State :=
  let s := engagedIn st f
  { s with plan := { closed.plan with cache := closed.plan.cache.set 5 { absentEffective with kind := kind } } }

/-- R53 and R38: what a release under a CLOSED plan leads to. -/
theorem test_witness_PortReleaseGoesOn_closed :
    (∀ x ∈ [(heldInForce (.held .align .verify) .any id, PortState.verify .maskWait),
        (heldInForce (.held .align .verify) .any fun pt => { pt with neighbor := { pt.neighbor with kept := some 15 } },
          .verify .ranging),
        (heldInForce (.held .align .verify) .unused id, .fault),
        (heldInForce (.held .sideband .laneLock) .unused id, .fault),
        (heldInForce (.held .sideband .verify) .any fun pt => { pt with flags := 0x3D }, .fault),
        (heldInForce (.held .sideband .verify) .any id, .laneLock)],
      x.1.ready ∧ x.1.plan.state = .closed ∧ (∀ q : Fin 32, q ≠ 5 → (x.1.port q).state.name ≠ .held)
        ∧ leaves (.portRelease 1 0x20) x.1 (fun t => decide ((t.port 5).state = x.2)) = true)
      ∧ ((heldInForce (.held .sideband .verify) .any fun pt => { pt with flags := 0x3D }).port 5).fenceMask = 15 := by
  decide +kernel

theorem test_witness_LaneAndPortSettingsAreStored_lane :
    State.reset.ready ∧ 127 < (128 : Byte).toNat ∧ (127 : Byte).toNat = 4 * (31 : Fin 32).val + (3 : Fin 4).val
      ∧ (31 : Fin 32).val = min 31 (255 : Byte).toNat := by decide +kernel

theorem test_witness_LaneAndPortSettingsAreStored_monitor :
    State.reset.ready ∧ (0 : BitVec 16).toNat < (1 : BitVec 16).toNat ∧ (127 : Byte).toNat = (127 : Fin 128).val
      ∧ (5 : BitVec 16).toNat ≤ (5 : BitVec 16).toNat := by decide +kernel

def withJobs (n : Nat) (engine : Option Measurement) : State :=
  { State.reset with monitor := { Monitor.reset with
      jobs := [(⟨0, 1, 1, 1, 0, 0⟩ : ScanJob), ⟨1, 1, 1, 1, 0, 0⟩, ⟨3, 1, 1, 1, 0, 0⟩, ⟨2, 1, 1, 1, 0, 0⟩].take n
      engine := engine } }

theorem test_witness_ScanJobsAreCreatedAndCancelled_scan :
    (withJobs 4 none).ready ∧ 4 ≤ (withJobs 4 none).monitor.jobs.length
      ∧ (let s := withJobs 3 (some ⟨0, .scan (some 0), 16, .running 5⟩)
         s.ready ∧ s.monitor.engine ≠ none ∧ s.monitor.jobs.length < 4 ∧ (∀ j ∈ s.monitor.jobs, j.id ≠ 2)
          ∧ ∀ k : Fin 4, k < 2 → ∃ j ∈ s.monitor.jobs, j.id = k)
      ∧ (let s := withPort 0 fun pt => { pt with lanes := .replicate 4 { Lane.reset with state := .fenced } }
         s.ready ∧ s.monitor.engine = none ∧ s.monitor.queue = [] ∧ s.monitor.jobs = [] ∧ s.laneFenced 127 = false
          ∧ (0x80000000000000000000000000000001 : BitVec 128).getLsbD 127 = true
          ∧ ∀ h : Fin 128, h < 127 → (0x80000000000000000000000000000001 : BitVec 128).getLsbD h.val = true → s.laneFenced h = true) := by
  decide +kernel

theorem test_witness_ScanJobsAreCreatedAndCancelled_cancel :
    (withJobs 3 none).ready ∧ (∀ j ∈ (withJobs 3 none).monitor.jobs, j.id.val ≠ (2 : Byte).toNat)
      ∧ (withJobs 3 none).monitor.jobs = [⟨0, 1, 1, 1, 0, 0⟩, ⟨1, 1, 1, 1, 0, 0⟩] ++ ⟨3, 1, 1, 1, 0, 0⟩ :: []
      ∧ (3 : Fin 4).val = (3 : Byte).toNat
      ∧ ∀ k ∈ ([⟨0, 1, 1, 1, 0, 0⟩, ⟨1, 1, 1, 1, 0, 0⟩] : List ScanJob) ++ [], k.id ≠ 3 := by decide +kernel

theorem test_witness_reads_by_port_or_lane :
    State.reset.ready ∧ 127 < (128 : Byte).toNat ∧ (127 : Byte).toNat ≤ 127 ∧ 31 < (32 : Byte).toNat
      ∧ (31 : Byte).toNat = (31 : Fin 32).val ∧ (32 : Byte).toNat < 255 ∧ (254 : Byte).toNat < 255
      ∧ (List.replicate 30 (22 : Byte)).length ≤ 30 ∧ (23 : Byte) ∈ parameterIds ∧ (24 : Byte) ∉ parameterIds := by
  decide +kernel

theorem test_witness_ConfigSetAppliesItsPairs :
    State.reset.ready ∧ controlled.ready ∧ State.reset.mli.device = .unconfigured ∧ State.reset.deviceLaw
      ∧ State.reset.presenceLaw ∧ controlled.mli.device = .running ∧ (controlled.port 5).state ≠ .disabled
      ∧ controlled.params.chassisId ≠ 2 ∧ (1 : Byte) ∈ parameterIds ∧ (11 : Byte) ∈ parameterIds
      ∧ (2 : Byte) ≠ 1 ∧ (2 : BitVec 48).toNat % 65536 > 1 ∧ ¬ 1 < (0x10001 : BitVec 48).toNat % 65536 := by decide +kernel

theorem test_witness_ResetsLeaveWhatTheyKeep :
    State.reset.ready
      ∧ ((after (.deviceReset 9) State.reset).map fun t => t.mli.sending) = some (some ⟨⟨9, 0x92, [0]⟩, true⟩) := by
  decide +kernel

theorem test_witness_NoticeControlFlushesThenSets :
    { State.reset with notices := [.monitorDone 0 .complete 0] }.ready ∧ 2 < (3 : Byte).toNat ∧ (2 : Byte).toNat ≤ 2 := by
  decide +kernel

theorem test_witness_FindStopsAtTheFirstMatch :
    State.reset.ready ∧ 1 < (2 : Byte).toNat ∧ (selectorOf 6).isSome = true ∧ comparisonOf 5 = some .noneSet
      ∧ selectorOf 7 = none ∧ comparisonOf 6 = none ∧ (walk 30 true).take 32 = [] ++ (30 : Fin 32) :: [31]
      ∧ (walk 30 true).take 32 = [30] ++ [31] ∧ (State.reset.port 30).matchesKey .state .eq 0 = true
      ∧ ∀ r ∈ (walk 30 true).take 32, (State.reset.port r).matchesKey .state .eq 1 = false := by decide +kernel

def collected (bytes : List Byte) : State :=
  { State.reset with mli := { State.reset.mli with framer := .collecting bytes, gapTimer := .running 1 } }

theorem test_witness_FramerCountsEachDiscard :
    (collected [2]).mli.framer = .collecting [2] ∧ (collected [2]).mli.gapTimer.isRunning = true
      ∧ State.reset.mli.framer = .hunting ∧ State.reset.mli.gapTimer.isRunning = false ∧ (0 : Byte) ≠ 0xA6
      ∧ (1 : Byte).toNat < 2 ∧ 250 < (251 : Byte).toNat ∧ 2 ≤ (2 : Byte).toNat ∧ (250 : Byte).toNat ≤ 250
      ∧ (let whole : List Byte := [2, 1, 3]
         (collected (whole ++ [(crc16 whole).extractLsb' 8 8])).mli.framer
            = .collecting (2 :: 1 :: 3 :: [] ++ [(crc16 whole).extractLsb' 8 8])
          ∧ crc16 whole = (crc16 whole).extractLsb' 8 8 ++ (crc16 whole).extractLsb' 0 8
          ∧ crc16 whole ≠ (crc16 whole).extractLsb' 8 8 ++ ~~~ ((crc16 whole).extractLsb' 0 8))
      ∧ (2 : Byte).toNat = ([] : List Byte).length + 2 ∧ (250 : Byte).toNat = (List.replicate 248 (0 : Byte)).length + 2
      ∧ ([7, 0x0F] : List Byte).length + 2 < (2 : Byte).toNat + 3 := by decide +kernel

theorem test_witness_RepliesGoBeforeNotices :
    (let m := State.reset.mli
     m.queue = [] ∧ m.sending = none ∧ m.replies = [] ∧ m.notify = false)
      ∧ (busyWith 1 1).mli.queue = ⟨1, 2, []⟩ :: [] ∧ (∀ x ∈ (busyWith 1 1).mli.replies.tail, x.refusal = true)
      ∧ (busyWith 1 1).mli.resetPending = false ∧ (busyWith 0 1).mli.queue = [] ∧ (busyWith 0 1).mli.sending = some ⟨⟨0, 0x81, [0]⟩, false⟩
      ∧ (busyWith 0 1).mli.replies = ⟨⟨1, 0x82, [0]⟩, false, false⟩ :: [⟨⟨2, 0x82, [7]⟩, true, false⟩] := by decide +kernel

theorem test_witness_PresenceIsFilteredAndMovesThePort_pin : State.reset.settled ∧ (inState .active id).settled := by decide +kernel

/-- Port 5 with a debounce timer about to settle the presence that its pin shows. -/
def settling (st : PortState) (low : Bool) : State :=
  inState st fun pt => { pt with rawPresent := low, present := !low, debounce := .running 0 }

theorem test_witness_PresenceIsFilteredAndMovesThePort_settled :
    State.reset.settled ∧ (State.reset.port 5).debounce.isRunning = false
      ∧ (∀ st ∈ [PortState.waitCable, .disabled, .active, .sideband, .fault], ∀ low ∈ [true, false],
        (settling st low).settled ∧ ((settling st low).port 5).debounce.isRunning = true
          ∧ ((settling st low).port 5).rawPresent = low ∧ ((settling st low).port 5).present = !low
          ∧ ((settling st low).port 5).state = st)
      ∧ PortState.active.sending = true ∧ PortState.disabled.sending = false := by decide +kernel

theorem test_witness_PortTimersEndStagesAndWaits :
    (∀ st ∈ [PortState.sideband, .align, .verify .maskWait, .verify .readyWait, .backoff, .active, .held .verify .ready],
      let s := engagedIn st fun pt => { pt with
        stageTimer := .running 0, silence := .running 0, backoffTimer := .running 0
        verdict := { pt.verdict with cls := .pass } }
      s.settled ∧ (s.port 5).stageTimer.isRunning = true ∧ (s.port 5).silence.isRunning = true
        ∧ (s.port 5).backoffTimer.isRunning = true ∧ (s.port 5).state = st)
      ∧ PortState.align.engaged = true ∧ PortState.sideband.engaged = false
      ∧ State.reset.settled ∧ (State.reset.port 5).stageTimer.isRunning = false := by decide +kernel

/-- Port 5 in SIDEBAND with a frame in transmission and what waits behind it. -/
def transmitting (echoes : List EchoSlot) (probe : Option (Fin 8)) (beacon : Bool) : State :=
  inState .sideband fun pt => { pt with tx := { pt.tx with
    echoes := echoes, probeWaiting := probe, beaconWaiting := beacon
    sending := some ⟨.beacon, frameFrom 1 5 0 false, none⟩ } }

theorem test_witness_TransmitterServesEchoesThenProbesThenBeacons :
    (∀ s ∈ [transmitting [⟨1, 2⟩, ⟨3, 4⟩] (some 7) true, transmitting [] (some 7) true, transmitting [] none true,
        transmitting [] none false],
      s.settled ∧ (s.port 5).tx.sending = some ⟨.beacon, frameFrom 1 5 0 false, none⟩
        ∧ (s.port 5).tx.beaconTimer.isRunning = true)
      ∧ (inState .sideband id).settled ∧ ((inState .sideband id).port 5).tx.sending = none
      ∧ ((inState .sideband id).port 5).tx.beaconTimer.isRunning = true := by decide +kernel

theorem test_witness_ReceiverIsOnWhereFramesAreSent :
    (inState .fault id).settled ∧ ((inState .fault id).port 5).state.sending = true ∧ ((inState .fault id).port 5).rx ≠ none
      ∧ ((inState .fault fun pt => { pt with rx := none }).port 5).rx = none ∧ (frameFrom 0 31 1 false).senderChassis = 0
      ∧ 31 < (frameFrom 1 32 1 false).senderPort.toNat
      ∧ (inState .waitCable id).settled ∧ ((inState .waitCable id).port 5).state.sending = false := by decide +kernel

/-- The only expected kind an EMPTY plan leaves is UNUSED, but the plan is not CLOSED; the other states are held at SIDEBAND,
all fenced, and UNUSED under a CLOSED plan. -/
theorem test_witness_FirstFrameCapturesThePeer :
    (let unknown := fun (pt : Port) => { pt with neighbor := { Neighbor.reset with status := .stale, identity := some ⟨9, 9⟩ } }
     let s := inState .sideband unknown
     let holding := { s with mli := { s.mli with params := { s.mli.params with holdPoint := .sideband } } }.modPort 5
      fun pt => { pt with flags := 3 }
     let fenced := s.modPort 5 fun pt => { pt with flags := 0x3D }
     let unused := { s with plan := closed.plan }
     (∀ u ∈ [s, holding, fenced, unused], u.settled ∧ (u.port 5).state = .sideband ∧ (u.port 5).neighbor.status ≠ .current
        ∧ (u.port 5).rx ≠ none)
      ∧ s.plan.state ≠ .closed ∧ (s.port 5).holdEnable = false ∧ (s.port 5).fenceMask ≠ 15 ∧ (s.port 5).fence 3 = false
      ∧ holding.params.holdPoint = .sideband ∧ (holding.port 5).holdEnable = true ∧ (fenced.port 5).fenceMask = 15
      ∧ unused.plan.state = .closed ∧ (unused.expected 5).kind = .unused)
      ∧ (let f := frameFrom 0xB20 31 1 false
         f.senderChassis ≠ 0 ∧ (⟨0xB20, 31⟩ : PeerId).chassis = f.senderChassis
          ∧ (⟨0xB20, 31⟩ : PeerId).port.val = f.senderPort.toNat ∧ ¬ 5 < f.stage.toNat)
      ∧ 5 < (frameFrom 0xB20 31 6 false).stage.toNat
      -- a CURRENT record of the sender, and one of another peer
      ∧ (let s := engagedIn .sideband id
         s.settled ∧ (s.port 5).state = .sideband ∧ (s.port 5).rx ≠ none ∧ (s.port 5).neighbor.status = .current
          ∧ (s.port 5).neighbor.identity = some ⟨0xB20, 31⟩ ∧ (⟨0xB20, 30⟩ : PeerId) ≠ ⟨0xB20, 31⟩) := by decide +kernel

/-- Ports that a frame of stage code 0, 1 or 4 shows a peer restart to. -/
theorem test_witness_PeerFramesRestartOrFinishThePort_restart :
    (∀ st ∈ [PortState.active, .laneLock, .align, .verify .ranging, .verify .readyWait, .verify (.planWait true),
        .held .verify .ready],
      let s := engagedIn st fun pt => { pt with highMark := 2, verdict := { pt.verdict with cls := .pass } }
      s.settled ∧ (s.port 5).state = st ∧ (s.port 5).neighbor.status = .current ∧ (s.port 5).rx ≠ none
        ∧ (s.port 5).neighbor.identity = some ⟨0xB20, 31⟩ ∧ (s.port 5).neighbor.cls = classTaken 0
        ∧ (s.port 5).neighbor.expected = expectedTaken 0 0 ∧ 2 ≤ (s.port 5).highMark)
      ∧ (frameFrom 0xB20 31 4 false).ready = false ∧ (frameFrom 0xB20 31 5 false).keptValid = false
      ∧ PortState.laneLock.engaged = true := by decide +kernel

theorem test_witness_PeerFramesRestartOrFinishThePort_ready :
    (let s := engagedIn (.verify .readyWait) fun pt => { pt with ready := true, verdict := { pt.verdict with cls := .pass } }
     s.settled ∧ (s.port 5).state = .verify .readyWait ∧ (s.port 5).neighbor.status = .current ∧ (s.port 5).rx ≠ none)
      ∧ (let f := { frameFrom 0xB20 31 2 true with ready := true }
         f.ready = true ∧ f.keptValid = true ∧ 2 ≤ f.stage.toNat ∧ f.stage.toNat ≤ 5) := by decide +kernel

/-- Port 5 in RANGING with probes 1 and 2 outstanding and the others not. -/
def rangingAt5 : State :=
  engagedIn (.verify .ranging) fun pt => { pt with
    tx := { pt.tx with sending := some ⟨.beacon, frameFrom 1 5 4 true, none⟩ }
    burst := { pt.burst with
      running := true
      requested := 2
      schedule := .running 0
      probes := (pt.burst.probes.set 0 (outstanding 77)).set 1 (outstanding 99) } }

theorem test_witness_ProbesAreEchoedAndEchoesMatched :
    rangingAt5.settled ∧ (rangingAt5.port 5).rx = some 77 ∧ (rangingAt5.port 5).state.sending = true ∧ (rangingAt5.port 5).tx.sending ≠ none
      ∧ (rangingAt5.port 5).burst.running = true ∧ ((rangingAt5.port 5).burst.probes.get 0).status = .outstanding
      ∧ ((rangingAt5.port 5).burst.probes.get 0).t1 = some 77 ∧ ((rangingAt5.port 5).burst.probes.get 1).status = .outstanding
      ∧ (∀ k : Fin 8, ((rangingAt5.port 5).burst.probes.get k).t1 ≠ some 5)
      ∧ (let f := { frameFrom 0xB20 31 5 true with probeStamp := 77 }
         f.keptValid = true ∧ 2 ≤ f.stage.toNat ∧ f.stage.toNat ≤ 5 ∧ f.senderPort.toNat ≤ 31) := by decide +kernel

theorem test_witness_BurstAsksEightProbesAndEndsInALength :
    rangingAt5.settled ∧ (rangingAt5.port 5).burst.schedule.isRunning = true
      ∧ (rangingAt5.port 5).burst.requested = (2 : Fin 8).val ∧ State.reset.settled
      ∧ ((rangingAt5.port 5).burst.probes.get 0).timeout.isRunning = true
      ∧ rangingPort.settled ∧ rangingPort.plan.state ≠ .closed ∧ (rangingPort.port 12).burst.running = true
      ∧ ((rangingPort.port 12).burst.probes.get 4).status = .outstanding
      ∧ (∀ j : Fin 8, j ≠ 4 → ((rangingPort.port 12).burst.probes.get j).status = .answered)
      ∧ 257 ∈ (rangingPort.port 12).burst.validSamples ∧ 4 ≤ (rangingPort.port 12).burst.validSamples.length
      ∧ ∀ x ∈ (rangingPort.port 12).burst.validSamples, 257 ≤ x := by decide +kernel

/-- Port 5 in LANE_LOCK, its lanes in the states given, lane 0 first. -/
def locking (states : Fin 4 → LaneState) (engine : Option Measurement) : State :=
  let s := engagedIn .laneLock fun pt => { pt with
    lanes := pt.lanes.mapFin fun l ln => { ln with state := states l, lockTimer := .running 0 } }
  { s with monitor := { s.monitor with engine := engine } }

theorem test_witness_LockStartsASearchOrFailsTheLane :
    (let s := locking (fun _ => .locking) (some ⟨0, .scan none, 16, .running 5⟩)
     s.settled ∧ ((s.port 5).lane 3).state = .locking ∧ ((s.port 5).lane 3).marker = .none ∧ s.monitor.engine ≠ none
      ∧ ((s.port 5).lane 3).forced = none ∧ s.params.eqMethod = .hold ∧ ((s.port 5).lane 3).previous = 16
      ∧ ((s.port 5).lane 3).lockTimer.isRunning = true)
      ∧ (let s := locking (fun l => if l = 3 then .locking else if l = 0 then .fenced else .failed .noLock) none
         s.settled ∧ (s.port 5).state = .laneLock ∧ ((s.port 5).lane 3).lockTimer.isRunning = true
          ∧ ∀ m : Fin 4, m ≠ 3 → ((s.port 5).lane m).state = .fenced ∨ ((s.port 5).lane m).state.isFailed = true)
      ∧ State.reset.settled ∧ ((State.reset.port 5).lane 0).state ≠ .locking := by decide +kernel

/-- Port 5 ACTIVE with four GOOD lanes, lanes 2 and 3 kept. -/
def activePort : State :=
  engagedIn .active fun pt => { pt with
    verdict := { pt.verdict with cls := .pass }
    lanes := .replicate 4 goodLane
    deskew := { pt.deskew with
      phase := .fixed
      keptMask := 12
      lanes := pt.deskew.lanes.mapFin fun l dl => { dl with status := if 2 ≤ l.val then .kept else .outsideSubset } } }

theorem test_witness_LossOfLockCountsWhereItMatters :
    activePort.settled ∧ (activePort.port 5).state = .active ∧ (activePort.port 5).good 3 = true
      ∧ (activePort.port 5).keptLane 3 = true ∧ (activePort.port 5).keptLane 1 = false ∧ (0xA : BitVec 4).getLsbD 3 = true
      ∧ (inState .backoff id).settled ∧ ((inState .backoff id).port 5).state = .backoff
      ∧ ∀ l : Fin 4, ((3 : BitVec 4).getLsbD l.val && (activePort.port 5).good l) = true →
        (activePort.port 5).keptLane l = false := by decide +kernel

theorem test_witness_CompletionsWriteTheResultTable :
    State.reset.settled ∧ State.reset.monitor.engine = none
      ∧ (let s := withJobs 0 (some ⟨127, .scan (some 3), 31, .running 0⟩)
         s.settled ∧ s.monitor.engine = some ⟨127, .scan (some 3), 31, .running 0⟩ ∧ s.monitor.queue = []
          ∧ s.monitor.jobs = [] ∧ s.mli.notify = false) := by decide +kernel

/-- Port 5 in ALIGN's marker wait with four GOOD lanes; lanes from `seenFrom` up have seen a marker. -/
def waitingForMarkers (seenFrom : Nat) : State :=
  engagedIn .align fun pt => { pt with
    lanes := .replicate 4 goodLane
    deskew := { pt.deskew with
      phase := .markerWait
      waitTimer := .running 0
      lanes := pt.deskew.lanes.mapFin fun l dl =>
        if seenFrom ≤ l.val then { dl with seen := true, logical := some l } else dl } }

theorem test_witness_MarkersAreSeenOrTheLaneIsDropped :
    (∀ n ∈ [4, 2], (waitingForMarkers n).settled ∧ ((waitingForMarkers n).port 5).state = .align
        ∧ ((waitingForMarkers n).port 5).deskew.phase = .markerWait
        ∧ ((waitingForMarkers n).port 5).deskew.waitTimer.isRunning = true
        ∧ ((waitingForMarkers n).port 5).good 0 = true
        ∧ ∃ m : Fin 4, m ≠ 0 ∧ ((waitingForMarkers n).port 5).good m = true
          ∧ (((waitingForMarkers n).port 5).deskew.lanes.get m).seen = false)
      ∧ (∀ l : Fin 4, ((waitingForMarkers 4).port 5).collecting l = false)
      ∧ ((waitingForMarkers 2).port 5).collecting 2 = true
      ∧ (∀ l : Fin 4, l < 2 → ((waitingForMarkers 2).port 5).collecting l = false)
      ∧ State.reset.settled ∧ (State.reset.port 5).state ≠ .align := by decide +kernel

/-- The reversed port with one stamp of lane 3 missing, in a collection. -/
def unstablePort (collection : Nat) : State :=
  (reversedPort absentBase).modPort 7 fun pt => { pt with
    tx := { pt.tx with beaconTimer := .running 9 }
    deskew := { pt.deskew with
      collection := collection
      lanes := pt.deskew.lanes.set 3 (stampsOf 0 40 6593 13144 29698) } }

theorem test_witness_ClosesFixTheMaskOrCollectAgain :
    (∀ n ∈ [1, 2, 3], (unstablePort n).settled ∧ ((unstablePort n).port 7).state = .align
        ∧ ((unstablePort n).port 7).deskew.phase = .collecting ∧ ((unstablePort n).port 7).deskew.closeTimer.isRunning = true
        ∧ (((unstablePort n).port 7).collecting 3 && !((unstablePort n).port 7).formDifferences.stable 3) = true
        ∧ ((unstablePort n).port 7).deskew.collection = n ∧ (unstablePort n).plan.state ≠ .closed
        ∧ ((unstablePort n).port 7).holdEnable = false ∧ ((unstablePort n).port 7).deskew.reference = some 0)
      ∧ (reversedPort absentBase).settled
      ∧ (∀ l : Fin 4, (((reversedPort absentBase).port 7).collecting l
          && !((reversedPort absentBase).port 7).formDifferences.stable l) = false)
      ∧ State.reset.settled ∧ (State.reset.port 5).state ≠ .align := by decide +kernel

theorem test_witness_BackoffWaitsFollowTheirFormula :
    (((autoPlan 15 (engagedIn .laneLock fun pt => { pt with retryCount := 14 })).fail 5 .noLanes 2 none).port 5).state = .backoff
      ∧ Params.reset.inRange ∧ { Params.reset with backoffBase := 1000, backoffCap := 60000 }.inRange := by decide +kernel

theorem test_witness_FindComparesAsItsTableSays :
    281474976710655 < 2 ^ 48 ∧ (State.reset.port 0).neighbor.identity = none
      ∧ ((engagedIn .fault id).port 5).neighbor.identity = some ⟨0xB20, 31⟩ := by decide +kernel

/-- The swapped pair with the records that their entries give in force. -/
def swappedInForce : State :=
  let entry := swapped.plan.entries
  { swapped with plan := { swapped.plan with
      cache := (swapped.plan.cache.set 4 (effectiveOf (entry.get 4) [] 4)).set 5 (effectiveOf (entry.get 5) [] 5) } }

theorem test_witness_VerdictsAreFormedFromTheirCodes :
    (swapped.port 4).neighbor.identity = some ⟨0xE0B20, 5⟩
      ∧ (swapped.modPort 6 fun pt => { pt with neighbor := record 0xE0B20 5, state := .active }).duplicatePartner 4 = some 6
      ∧ swappedInForce.currentPeer 4 = some ⟨0xE0B20, 5⟩ ∧ swappedInForce.swapPartner 4 = some 5 := by decide +kernel

/-! ## The line and the receiver (chapters 3, 4, 6 and 7) -/

/-- R60: 0x3C then 0xE1, least significant bit first, open a frame of 272 bits. -/
theorem test_sync_sequence_on_the_line :
    (sidebandLineBits .beacon (frameFrom 1 2 0 false)).take 16
        = [false, false, true, true, true, true, false, false, true, false, false, false, false, true, true, true]
      ∧ (sidebandLineBits .beacon (frameFrom 1 2 0 false)).length = 272 := by decide +kernel

/-- R66: a frame without a sync sequence found by the running receiver is not taken. -/
theorem test_no_frame_without_sync :
    let s := inState .sideband fun pt => { pt with rx := none }
    after (.beaconReceived 5 (frameFrom 9 9 0 false)) s = some s := by decide +kernel

/-- R66: 32 bytes make their command: kind byte 4 is rejected. -/
theorem test_bytes_of_no_kind_are_rejected :
    let bytes := sidebandBytes .echo (frameFrom 9 9 5 true)
    sidebandCommand 5 7 bytes = .echoReceived 5 (frameFrom 9 9 5 true) 7
      ∧ sidebandCommand 5 7 (bytes.set 0 4) = .sidebandFrameRejected 5 := by decide +kernel

/-- R71 and R76: a capture starts a pass even where the same event fails the port (NO_LANES, all lanes fenced): while the plan
is LOADING the ACTIVE port 6 is marked pending. -/
def captureAndFail : State :=
  let s := (inState .sideband fun pt => { pt with flags := 0x3D, rx := some 1 }).modPort 6 fun pt => { pt with
    state := .active, ready := true, neighbor := record 0xB20 6, tx := { pt.tx with beaconTimer := .running 9 }
    verdict := { pt.verdict with cls := .pass } }
  { s with plan := { s.plan with state := .loading } }

theorem test_a_capture_is_reported_though_the_port_fails :
    leaves (.beaconReceived 5 (frameFrom 0xB20 31 1 false)) captureAndFail (fun t =>
      decide ((t.port 5).state = .fault ∧ (t.port 6).verdict.pending = true)) = true := by decide +kernel

/-- Port 6 ACTIVE with peer 0xB20 port 31 under a CLOSED plan that expects a kind at every port, and port 5 in SIDEBAND. -/
def captureInForce (kind : Expectation) (flags : BitVec 6) : State :=
  let s := captureAndFail.modPort 6 fun pt => { pt with neighbor := record 0xB20 31 }
  { s.modPort 5 (fun pt => { pt with flags := flags }) with
    plan := { closed.plan with cache := .replicate 32 { absentEffective with kind := kind } } }

/-- R155 with R71: a later capture of its peer fails the ACTIVE port, also where the port that captured fails at the same event. -/
theorem test_a_capture_fails_the_active_port_of_its_peer :
    ∀ x ∈ [(captureInForce .any 0x3D, Cause.noLanes), (captureInForce .unused 1, .verdictFail)],
      leaves (.beaconReceived 5 (frameFrom 0xB20 31 1 false)) x.1 (fun t => decide ((t.port 6).state = .fault
        ∧ (t.port 6).verdict.codes.head? = some .duplicatePeer ∧ (t.port 6).verdict.partner = some 5
        ∧ (t.port 6).counters.linkLosses = 1 ∧ (t.port 5).state = .fault
        ∧ ((t.port 5).lastFailure.map (·.cause)) = some x.2)) = true := by decide +kernel

/-- R118: the stamp is the counter as it stood at the marker's first bit, 8 per TU ago. -/
theorem test_stamp_is_the_counters_value :
    let s := (reversedPort absentBase).modPort 7 fun pt => { pt with deskew := { pt.deskew with
      stampCounter := 6, lanes := pt.deskew.lanes.set 2 { stampsOf 1 0 0 0 0 with stamps := .replicate 4 none } } }
    leaves (.markerDecoded 7 2 false 1 9 36) s
      (fun t => decide (((t.port 7).dlane 2).stamps.get 0 = some 65506)) = true := by decide +kernel

/-- R118 and R120: with the lane's receive inversion on, a marker inverted on the line arrives true. -/
theorem test_inversion_makes_a_marker_true :
    leaves (.markerDecoded 5 0 true 2 9 0)
      (engagedIn .align fun pt => { pt with
        lanes := .replicate 4 { goodLane with inversion := true }
        deskew := { pt.deskew with phase := .markerWait, waitTimer := .running 9 } })
      (fun t => decide (((t.port 5).dlane 0).seen = true ∧ ((t.port 5).lane 0).inversion = true)) = true := by decide +kernel

/-- R136 with Table 6-7: logical lane 0 of the reversed port is fed by physical lane 3 with delay 0, lane 3 by lane 0 with 47. -/
theorem test_reversed_port_feeds_lane_0_from_lane_3 :
    leaves (.collectionClose 7) (reversedPort { absentBase with minWidth := .two }) (fun t =>
      let pt := { t.port 7 with state := .active, verdict := { Verdict.reset with finalSet := some 0b0011 } }
      decide (pt.receivePath 0 = some ⟨3, some 0, false, true⟩ ∧ pt.receivePath 3 = some ⟨0, some 47, false, false⟩)) = true := by
  decide +kernel

/-- R144: a probe's timeout runs to 1 ms after its T1, of which a frame and its gap have used 36,000 − 2,000 TU here. -/
theorem test_probe_timeout_counts_from_t1 :
    leaves (.sidebandFrameEnd 5)
      { rangingAt5 with
        timestamp := 37000
        ports := (rangingAt5.modPort 5 fun pt => { pt with
          tx := { pt.tx with sending := some ⟨.probe, { frameFrom 1 5 4 true with probeStamp := 3000 }, some 2⟩ }
          burst := { pt.burst with probes := pt.burst.probes.set 2 { Probe.reset with status := .waiting } } }).ports }
      (fun t => decide (((t.port 5).burst.probes.get 2).timeout = .running 1216000
        ∧ ((t.port 5).burst.probes.get 2).t1 = some 3000)) = true := by decide +kernel

/-- R158: a marginal KEPT lane outside the final set raises no EQ_MARGINAL. -/
theorem test_marginal_lane_outside_the_final_set :
    let lanes : Table HeldLane 4 := .ofFn fun l => ⟨.kept, some l, decide (l = 3), false⟩
    let held := fun (m : BitVec 4) => (⟨some m, some .identity, some 300, false, false, some ⟨false, lanes⟩⟩ : Held)
    swapped.codeHolds 4 (held 0b0011) .eqMarginal = false ∧ swapped.codeHolds 4 (held 0b1111) .eqMarginal = true := by
  decide +kernel

/-! ## Witnesses of the statements about closes, verdicts, frames, lanes and deskew -/

theorem test_witness_EffectiveExpectationsFollowTheOverrides :
    recabling.plan.overrides = [] ++ ⟨8, 4, 0xB307, 16, .either⟩ :: []
      ∧ (∀ p ∈ [(8 : Fin 32), 11], 8 ≤ p.val ∧ p.val < 8 + 4) ∧ ¬ (12 : Nat) < 8 + 4
      ∧ recabling.plan.entries.get 8 = some (plannedTo 0xA201 0) ∧ recabling.plan.entries.get 10 = none
      ∧ (plannedTo 0xA201 0).base.recovery = .auto ∧ absentBase.recovery = .manual
      ∧ (⟨0xB307, 19⟩ : PeerId).port.val = (16 : Fin 32).val + (11 - 8) := by decide +kernel

theorem test_witness_ParametersTakeTheirValues :
    Params.reset.inRange ∧ { Params.reset with backoffBase := 100, backoffCap := 100 }.inRange
      ∧ (applyPair ({ Params.reset with backoffBase := 100, backoffCap := 100 }, []) (9, 1000)).1.backoffCap = 1000
      ∧ (23 : Byte) ∈ parameterIds ∧ (0x10001 : BitVec 48).toNat % 65536 ≤ 1 := by decide +kernel

theorem test_witness_CodesHoldAsTheirTablesSay : swapped.currentPeer 4 = some ⟨0xE0B20, 5⟩ := by decide +kernel

/-- Port 12's last probe open under a CLOSED plan, whose record of the port is ANY with a minimum width. -/
def lastProbe (minWidth : MinWidth) (ready : Bool) : State :=
  let s := rangingPort.modPort 12 fun pt => { pt with
    flags := 2
    neighbor := { pt.neighbor with ready := ready }
    deskew := { pt.deskew with phase := .fixed, keptMask := 3, mapClass := some .identity } }
  { s with plan := { s.plan with
      state := .closed
      generation := 7
      cache := s.plan.cache.set 12 { absentEffective with kind := .any, base := { absentBase with minWidth := minWidth } } } }

def holdingAtVerify (s : State) : State :=
  { s with mli := { s.mli with params := { s.mli.params with holdPoint := .verify } } }

theorem test_witness_VerdictsAreMadeAtTheirTriggers_burst :
    (∀ s ∈ [lastProbe .four false, lastProbe .two false, lastProbe .two true, holdingAtVerify (lastProbe .two true)],
      s.settled ∧ s.plan.state = .closed ∧ (s.port 12).state = .verify .ranging ∧ (s.port 12).burst.running = true
        ∧ ((s.port 12).burst.probes.get 4).timeout.isRunning = true
        ∧ ∀ j : Fin 8, j ≠ 4 → ((s.port 12).burst.probes.get j).status = .answered)
      ∧ leaves (.probeTimeoutExpiry 12 4) (lastProbe .four false)
        (fun t => decide ((t.port 12).verdict.cls = .fail ∧ (t.port 12).state = .fault)) = true
      ∧ leaves (.probeTimeoutExpiry 12 4) (lastProbe .two false)
        (fun t => decide ((t.port 12).verdict.cls = .warn ∧ (t.port 12).state = .verify .readyWait)) = true
      ∧ leaves (.probeTimeoutExpiry 12 4) (lastProbe .two true) (fun t => decide ((t.port 12).state = .active)) = true
      ∧ leaves (.probeTimeoutExpiry 12 4) (holdingAtVerify (lastProbe .two true))
        (fun t => decide ((t.port 12).state = .held .verify .ready)) = true := by decide +kernel

/-- Ports 4 and 5 HELD at VERIFY as planned, port 6 in PLAN_WAIT with its burst done, port 8 pending, at the load's end. -/
def closing : State :=
  let s := (swapped.modPort 6 fun pt => { pt with
      state := .verify (.planWait true), neighbor := record 0xE0B20 9, deskew := { pt.deskew with phase := .fixed, keptMask := 15, mapClass := some .identity }
      tx := { pt.tx with beaconTimer := .running 9 } }).modPort 8 fun pt => { pt with
      state := .active, ready := true, neighbor := record 0xE0B20 8, tx := { pt.tx with beaconTimer := .running 9 }
      verdict := { Verdict.reset with cls := .pass, pending := true } }
  { s with plan := { s.plan with
      entries := (((s.plan.entries.set 4 (some (plannedTo 0xE0B20 5))).set 5 (some (plannedTo 0xE0B20 4))).set 6
        (some (plannedTo 0xE0B20 9))).set 8 (some (plannedTo 0xE0B20 8)) } }

theorem test_witness_VerdictsAreMadeAtTheirTriggers_close :
    closing.ready ∧ closing.plan.state = .loading ∧ (closing.port 6).state = .verify (.planWait true)
      ∧ (closing.port 4).state.bearing = true ∧ (closing.port 8).verdict.pending = true
      ∧ leaves (.planEnd 1 7) closing (fun t => decide (t.plan.changed.get 4 = true
        ∧ ∀ p ∈ [(4 : Fin 32), 5, 6, 8], (t.port p).verdict.cls ≠ .fail ∧ (t.port p).verdict.epoch = 4
          ∧ (t.port p).verdict.pending = false)) = true := by decide +kernel

theorem test_witness_VerdictsAreMadeAtTheirTriggers_capture :
    captureAndFail.settled ∧ captureAndFail.plan.state = .loading ∧ (captureAndFail.port 5).state = .sideband
      ∧ (captureAndFail.port 5).rx ≠ none ∧ captureAndFail.currentPeer 5 ≠ some ⟨0xB20, 31⟩
      ∧ (captureAndFail.port 6).state.bearing = true
      ∧ ∀ s ∈ [captureInForce .any 0x3D, captureInForce .unused 1, captureInForce .any 1],
        s.settled ∧ s.plan.state = .closed ∧ (s.port 5).state = .sideband ∧ (s.port 5).rx ≠ none
          ∧ s.currentPeer 5 ≠ some ⟨0xB20, 31⟩ ∧ (s.port 6).state.bearing = true ∧ s.currentPeer 6 = some ⟨0xB20, 31⟩ := by
  decide +kernel

/-- Port 5 with a record of another status, a frame under way. -/
def knowing (st : PortState) (status : NeighborStatus) : State :=
  inState st fun pt => { pt with
    neighbor := { record 0xB20 31 with status := status }
    verdict := { pt.verdict with cls := .pass }
    tx := { pt.tx with sending := some ⟨.beacon, frameFrom 1 5 4 true, none⟩ } }

theorem test_witness_FramesFromOthersAndOutsideTheStages :
    (∀ st ∈ [PortState.active, .laneLock, .sideband, .held .sideband .laneLock, .verify .maskWait],
      (knowing st .current).settled ∧ ((knowing st .current).port 5).neighbor.status = .current
        ∧ ((knowing st .current).port 5).rx ≠ none ∧ ((knowing st .current).port 5).tx.sending ≠ none)
      ∧ (∀ st ∈ [PortState.backoff, .fault], ∀ status ∈ [NeighborStatus.stale, .empty],
        (knowing st status).settled ∧ ((knowing st status).port 5).neighbor.status = status
          ∧ ((knowing st status).port 5).burst.running = false)
      ∧ PortState.active.engaged = true ∧ (⟨0xB20, 30⟩ : PeerId) ≠ ⟨0xB20, 31⟩
      ∧ (record 0xB20 31).cls = classTaken 0 ∧ (record 0xB20 31).expected = expectedTaken 0 0
      ∧ (let f := frameFrom 0xB20 31 2 true
         f.keptValid = true ∧ 2 ≤ f.stage.toNat ∧ f.stage.toNat ≤ 5 ∧ f.senderPort.toNat = (31 : Fin 32).val) := by decide +kernel

/-- Port 5 in READY_WAIT or another state under a plan whose record of it is ANY. -/
def reporting (st : PortState) (plan : PlanState) : State :=
  let s := engagedIn st fun pt => { pt with
    ready := decide (st = .verify .readyWait), verdict := { pt.verdict with cls := .pass } }
  { s with plan := { s.plan with
      state := plan, generation := 7, cache := s.plan.cache.set 5 { absentEffective with kind := .any } } }

/-- Verdict class 3 with stage code 0 is PEER_FAILED, class 2 with READY is no failure. -/
theorem test_witness_ReportedFieldsStartAPass :
    (∀ st ∈ [PortState.verify .readyWait, .laneLock, .align, .verify .maskWait, .held .sideband .laneLock],
      ∀ plan ∈ [PlanState.loading, .closed], (reporting st plan).settled ∧ ((reporting st plan).port 5).rx ≠ none
        ∧ ((reporting st plan).port 5).neighbor.status = .current ∧ ((reporting st plan).port 5).neighbor.cls ≠ classTaken 2)
      ∧ (let f := { frameFrom 0xB20 31 4 true with ready := true, verdictClass := 2 }
         f.stage.toNat ≤ 5 ∧ 4 ≤ f.stage.toNat ∧ f.ready = true ∧ f.keptValid = true
          ∧ leaves (.beaconReceived 5 f) (reporting (.verify .readyWait) .closed)
            (fun t => decide ((t.port 5).verdict.cls ≠ .fail ∧ (t.port 5).state = .active)) = true
          ∧ leaves (.beaconReceived 5 f) (reporting (.verify .readyWait) .loading)
            (fun t => decide ((t.port 5).verdict.pending = true ∧ (t.port 5).state = .active)) = true)
      ∧ leaves (.beaconReceived 5 { frameFrom 0xB20 31 0 false with verdictClass := 3 }) (reporting (.verify .readyWait) .closed)
        (fun t => decide ((t.port 5).verdict.cls = .fail ∧ (t.port 5).state = .fault)) = true := by decide +kernel

/-- Lane 49's step with the lane's marker as given. -/
def lane49With (method : SearchMethod) (step : Fin 32) (best : Option Run) (state : LaneState) (marker : Marker) : State :=
  (lane49 method step best).modPort 12 fun pt => { pt with
    lanes := pt.lanes.modify 1 fun ln => { ln with state := state, marker := marker } }

theorem test_witness_DeliveredResultsDriveTheSearch :
    (∀ s ∈ [lane49 .forced 9 none, lane49 .hold 27 none, lane49 .midpoint 30 none, lane49 .midpoint 31 (some ⟨9, 21⟩),
        lane49With .hold 27 none .searching .abandoned, lane49With .hold 27 none (.failed .noLock) .abandoned],
      s.settled ∧ s.monitor.jobs = [] ∧ s.monitor.queue = [] ∧ ((s.port 12).lane 0).state = .idle
        ∧ (s.monitor.engine.map fun m => m.source) = some (.bringUp (s.port 12).attempt) ∧ (49 : Fin 128).val = 4 * 12 + 1)
      ∧ ((lane49 .hold 27 none).port 12).attempt = 6
      ∧ (((lane49 .hold 27 none).port 12).lane 1).passMv ≤ (max 0 (min 1023 ((128 : Int) + (-8)))).toNat := by decide +kernel

/-- Port 5 in LANE_LOCK with its last open lane searching at the engine. -/
def lastStep (method : SearchMethod) (others : LaneState) : State :=
  let s := engagedIn .laneLock fun pt => { pt with
    attempt := 6
    lanes := (pt.lanes.mapFin fun _ ln => { ln with state := others }).set 2 { Lane.reset with
      state := .searching, method := method, step := 4, passMv := 120, marker := .inService } }
  { s with monitor := { s.monitor with engine := some ⟨22, .bringUp 6, 4, .running 0⟩ } }

/-- The same with a request of lane 40 and a scan job waiting, and at the last step of a sweep. -/
def lastStepBusy (method : SearchMethod) (best : Option Run) (others : LaneState) : State :=
  let s := (lastStep method others).modPort 5 fun pt => { pt with
    lanes := pt.lanes.modify 2 fun ln => { ln with step := 31, bestRun := best, lockLosses := 2 } }
  { s with monitor := { s.monitor with queue := [⟨40, 0⟩], jobs := [⟨1, 2, 1, 1, 0, 0⟩] } }

theorem test_witness_LastLaneResultEndsLaneLock :
    (∀ s ∈ [lastStep .forced (.good false), lastStep .hold .fenced, lastStep .forced (.failed .noLock),
        lastStepBusy .midpoint (some ⟨9, 21⟩) .fenced, lastStepBusy .midpoint none (.good false),
        lastStepBusy .midpoint none (.failed .noLock)],
      s.settled ∧ (s.port 5).state = .laneLock ∧ (∀ r ∈ s.monitor.queue, lanePort r.lane ≠ 5)
        ∧ (s.monitor.engine.map fun m => (m.lane, m.source)) = some (22, .bringUp (s.port 5).attempt)
        ∧ ((s.port 5).lane 2).state = .searching ∧ ((s.port 5).lane 2).marker = .inService
        ∧ ∀ o : Fin 4, o ≠ 2 → ((s.port 5).lane o).state = .fenced ∨ (s.port 5).good o = true
          ∨ ((s.port 5).lane o).state.isFailed = true)
      ∧ (∀ other ∈ [LaneState.good false, .fenced],
        let s := locking (fun l => if l = 3 then .locking else if l = 0 then other else .failed .noLock) none
        s.settled ∧ ((s.port 5).lane 3).lockTimer.isRunning = true ∧ s.monitor.queue = [])
      ∧ 2 ≤ (((lastStepBusy .hold none .fenced).port 5).lane 2).lockLosses := by decide +kernel

/-- R36 and R88: a sweep that ends in the middle of 9 to 21 takes the port to ALIGN while lane 40 is served; without a run it fails. -/
theorem test_last_sweep_ends_lane_lock :
    leaves (.measurementComplete 50) (lastStepBusy .midpoint (some ⟨9, 21⟩) .fenced) (fun t => decide ((t.port 5).state = .align
        ∧ ((t.port 5).lane 2).current = 15 ∧ (t.monitor.engine.map fun m => m.lane) = some 40)) = true
      ∧ leaves (.measurementComplete 50) (lastStepBusy .midpoint none .fenced) (fun t => decide ((t.port 5).state = .fault
        ∧ (t.monitor.engine.map fun m => m.lane) = some 40)) = true := by decide +kernel

/-- Port 5 in VERIFY with four GOOD lanes, lanes 2 and 3 kept. -/
def verifyingPort (st : PortState) : State := activePort.modPort 5 fun pt => { pt with state := st, ready := false }

theorem test_witness_LossOfLockBeforeActive :
    (let s := locking (fun l => if l = 1 then .searching else if l = 3 then .locking else .good true) none
     s.settled ∧ (s.port 5).state = .laneLock ∧ ((s.port 5).lane 1).state = .searching ∧ (s.port 5).good 2 = true
      ∧ ((s.port 5).lane 3).state = .locking ∧ ((s.port 5).lane 2).lockLosses < 2)
      ∧ (waitingForMarkers 2).settled ∧ ((waitingForMarkers 2).port 5).deskew.phase = .markerWait
      ∧ (reversedPort absentBase).settled ∧ ((reversedPort absentBase).port 7).deskew.reference = some 0
      ∧ ((reversedPort absentBase).port 7).collecting 0 = true ∧ ((reversedPort absentBase).port 7).collecting 1 = true
      ∧ ∀ st ∈ [PortState.verify .maskWait, .verify .readyWait, .held .align .verify, .held .verify .ready],
        (verifyingPort st).settled ∧ ((verifyingPort st).port 5).state = st ∧ ((verifyingPort st).port 5).good 3 = true
          ∧ ((verifyingPort st).port 5).keptLane 3 = true ∧ ((verifyingPort st).port 5).keptLane 0 = false := by decide +kernel

/-- A scan measurement of job 0 ends; one of its lanes is left, or none; a request may wait. -/
def scanning (next pass : Nat) (queue : List BringUpRequest) (runCount : Nat) : State :=
  { arbitration with monitor := { arbitration.monitor with
      engine := some ⟨4, .scan (some 0), 16, .running 0⟩
      queue := queue
      jobs := [⟨0, 0x30, 2, pass, next, 1⟩]
      runCount := runCount } }

theorem test_witness_ArbiterSharesTheEngine :
    (∀ s ∈ [scanning 5 1 [] 0, scanning 6 1 [⟨81, 1⟩] 8, scanning 6 1 [⟨81, 1⟩] 7, scanning 6 2 [] 0, scanning 6 2 [⟨81, 1⟩] 8],
      s.settled ∧ s.mli.notify = false ∧ s.monitor.jobs ≠ [])
      ∧ (scanning 5 1 [] 0).laneFenced 5 = false ∧ (0x30 : BitVec 128).getLsbD 5 = true ∧ (0x30 : BitVec 128).getLsbD 4 = true
      ∧ leaves (.measurementComplete 0) (scanning 5 1 [] 0)
        (fun t => decide ((t.monitor.engine.map (·.lane)) = some 5)) = true
      ∧ leaves (.measurementComplete 0) (scanning 6 1 [⟨81, 1⟩] 8)
        (fun t => decide ((t.monitor.engine.map (·.lane)) = some 4 ∧ t.monitor.runCount = 0)) = true
      ∧ leaves (.measurementComplete 0) (scanning 6 1 [⟨81, 1⟩] 7)
        (fun t => decide ((t.monitor.engine.map (·.lane)) = some 81 ∧ t.monitor.runCount = 8)) = true
      ∧ leaves (.measurementComplete 0) (scanning 6 2 [] 0)
        (fun t => decide (t.notices = [.monitorDone 0 .complete 0] ∧ t.monitor.engine = none)) = true := by decide +kernel

theorem test_witness_CollectionsStampTheirMarkers :
    (waitingForMarkers 1).settled ∧ ((waitingForMarkers 1).port 5).good 0 = true
      ∧ (((waitingForMarkers 1).port 5).deskew.lanes.get 0).seen = false
      ∧ (∀ o : Fin 4, o ≠ 0 → (((waitingForMarkers 1).port 5).deskew.lanes.get o).seen = true)
      ∧ (reversedPort absentBase).settled ∧ ((reversedPort absentBase).port 7).deskew.firstSequence = some 9
      ∧ ((reversedPort absentBase).port 7).collecting 3 = true ∧ (12 : Fin 16) = 9 + Fin.ofNat 16 (3 : Fin 4).val
      ∧ (((reversedPort absentBase).port 7).deskew.lanes.get 3).logical = some 0
      ∧ (unstablePort 1).settled ∧ ((engagedIn .align id).port 5).collecting 0 = false
      ∧ ((reversedPort absentBase).port 7).formDifferences.stable 3 = true
      ∧ ((unstablePort 1).port 7).formDifferences.stable 3 = false := by decide +kernel

theorem test_witness_MaskIsFixedFromMapAndSkews :
    (∀ l : Fin 4, (((reversedPort absentBase).port 7).formDifferences.dlane l).status ≠ .kept)
      ∧ legalSets = [0b1111, 0b0011] ++ 0b1100 :: [0b0001, 0b0010, 0b0100, 0b1000]
      ∧ (activePort.port 5).state = .active ∧ (activePort.port 5).keptLane 2 = true
      ∧ ∀ o : Fin 4, o < 2 → (activePort.port 5).keptLane o = false := by decide +kernel

/-- A free engine, and a measurement abandoned in an earlier search. -/
theorem test_witness_LockStartsASearchOrFailsTheLane_engine :
    (let s := locking (fun _ => .locking) none
     s.settled ∧ ((s.port 5).lane 3).state = .locking ∧ ((s.port 5).lane 3).marker = .none ∧ s.monitor.engine = none
      ∧ s.monitor.queue = [] ∧ s.monitor.jobs = [] ∧ ((s.port 5).lane 3).forced = none ∧ s.params.eqMethod = .hold)
      ∧ (let s := (locking (fun _ => .locking) (some ⟨23, .bringUp 0, 16, .running 5⟩)).modPort 5 fun pt => { pt with
            lanes := pt.lanes.modify 3 fun ln => { ln with marker := .abandoned } }
         s.settled ∧ ((s.port 5).lane 3).marker = .abandoned ∧ s.monitor.engine ≠ none) := by decide +kernel

/-- The ECHO of the last probe open. -/
theorem test_witness_ProbesAreEchoedAndEchoesMatched_last :
    let s := rangingPort.modPort 12 fun pt => { pt with rx := some 502000 }
    let f := { frameFrom 0xB20 3 4 true with probeStamp := 498704, turnaround := 3000, trim := 20 }
    s.settled ∧ (s.port 12).rx = some 502000 ∧ (s.port 12).neighbor.status = .current
      ∧ (s.port 12).neighbor.identity = some ⟨0xB20, 3⟩ ∧ (s.port 12).neighbor.cls = classTaken f.verdictClass
      ∧ (s.port 12).neighbor.expected = expectedTaken f.expectedChassis f.expectedPort ∧ s.plan.state ≠ .closed
      ∧ ((s.port 12).burst.probes.get 4).t1 = some f.probeStamp
      ∧ (∀ j : Fin 8, j < 4 → ((s.port 12).burst.probes.get j).t1 ≠ some f.probeStamp)
      ∧ leaves (.echoReceived 12 f 125) s (fun t => decide ((t.port 12).state = .verify (.planWait true)
        ∧ (t.port 12).summary.validSamples = some 8)) = true := by decide +kernel

/-- A mask fixed under a CLOSED plan, with and without the peer's, and at a port to be HELD. -/
theorem test_witness_ClosesFixTheMaskOrCollectAgain_closed :
    (let s := reversedPort { absentBase with minWidth := .two }
     let any := { s with plan := { s.plan with
       state := .closed, cache := s.plan.cache.set 7 { absentEffective with kind := .any } } }
     let known := any.modPort 7 fun pt => { pt with neighbor := { record 2 2 with kept := some 15 } }
     let holding := { s with mli := { s.mli with params := { s.mli.params with holdPoint := .align } } }.modPort 7
      fun pt => { pt with flags := 2 }
     (∀ u ∈ [any, known, holding], u.settled ∧ (u.port 7).state = .align ∧ (u.port 7).deskew.phase = .collecting
        ∧ (u.port 7).deskew.closeTimer.isRunning = true)
      ∧ any.plan.state = .closed ∧ (any.expected 7).kind ≠ .unused ∧ (any.port 7).neighbor.kept = none
      ∧ (known.port 7).neighbor.kept ≠ none ∧ holding.params.holdPoint = .align ∧ (holding.port 7).holdEnable = true
      ∧ leaves (.collectionClose 7) any (fun t => decide ((t.port 7).state = .verify .maskWait)) = true
      ∧ leaves (.collectionClose 7) known (fun t => decide ((t.port 7).state = .verify .ranging)) = true) := by decide +kernel

/-- A view with a label of 16 characters and 13 codes fits one frame (R172, R186); no primary code is a clear presence byte; a cause is
numbered from 0 in the record (R197) and from 1 in a notice (Table 11-5). -/
theorem test_port_status_fits_one_frame :
    let named := fun codes => { State.reset.port 0 with verdict := { Verdict.reset with codes := codes } }
    let label := some (List.replicate 16 (0x41 : Byte))
    let most := [Code.duplicatePeer, .pairSwapped, .wrongPort, .peerDisagrees, .peerFailed, .laneCrossed, .lanesInsufficient,
      .lengthOutOfWindow, .skewUnstable, .eqMarginal, .polarityCorrected, .lengthSuspect, .planGenerationSkew]
    ((named most).view label).length = 247 ∧ (((named most).view label).drop 22).take 2 = [1, 16]
      ∧ ((named []).verdict.bytes).take 4 = [0, 0, 0, 0]
      ∧ ((named [.eqMarginal]).verdict.bytes).take 5 = [0, 1, 15, 1, 15]
      ∧ LastFailure.bytes ⟨.cableRemoved, 3, none, 7⟩ = [0, 3, 0, 0, 0, 0, 0, 7]
      ∧ causeNumber (some .cableRemoved) = 1 ∧ causeNumber (some .peerRestarted) = 7 := by decide +kernel

end Sys2Proof.Tests
end

/-! SUPPORT. Requests at an idle link whose answer moves no port: the refused ones, and those that edit the plan's working
contents. -/

namespace Sys2Proof.Machine

/-! ## Numbers as bytes -/

theorem readNumber_append_byte (bytes : List Byte) (b : Byte) :
    readNumber (bytes ++ [b]) = readNumber bytes * 256 + b.toNat := by simp [readNumber]

/-- A number that fits its bytes is read back from them (R197). -/
theorem readNumber_numberBytes (len n : Nat) (h : n < 256 ^ len) : readNumber (numberBytes len n) = n := by
  induction len generalizing n with
  | zero => simp only [Nat.pow_zero, Nat.lt_one_iff] at h; subst h; rfl
  | succ len ih =>
    have high : n / 256 < 256 ^ len := Nat.div_lt_of_lt_mul (by rwa [Nat.pow_succ'] at h)
    rw [numberBytes, readNumber_append_byte, ih _ high, BitVec.toNat_ofNat]
    omega

/-! ## Requests that move no port -/

/-- A frame of a known kind and an allowed length is answered by the owning block (R176). -/
theorem State.answer_of_known (s : State) {f : Frame} (kind : isRequestKind f.kind = true)
    (length : lengthAllowed f.kind f.payload.length = true) : s.answer f = s.own f.kind f.payload := by
  simp [State.answer, kind, length]

/-- A request refused at an idle link changes nothing but that its reply is being sent (R177). -/
theorem State.takeWhole_of_refuse {s : State} (h : s.ready) {f : Frame} {st : Status}
    (answer : s.hunt.answer f = refuse s.hunt st) : s.takeWhole f = s.replying f.tag f.kind st [] := by
  obtain ⟨idle, settled, -⟩ := h
  have quiet : s.hunt.conclude s.hunt [] [] = s.hunt := State.conclude_self settled
  have ⟨_, _, _, noReset⟩ := idle
  rw [State.takeWhole_idle idle, answer]
  dsimp only [refuse]
  rw [quiet]
  simp [State.hunt, State.modMli, State.replying, replyTo, Answer.payload, noReset]

/-- What frames carry of the plan: its state, the cached records and the generation. The working contents are no part of it. -/
structure Plan.SameOutside (before after : Plan) : Prop where
  state : after.state = before.state
  cache : after.cache = before.cache
  generation : after.generation = before.generation

/-- An edit of the working contents concludes without effect on ports and notices. -/
theorem State.conclude_withPlan {s : State} {pl : Plan} (same : s.plan.SameOutside pl) (settled : s.sidebandSettled) :
    s.conclude (s.withPlan pl) [] [] = s.withPlan pl := by
  have advertised : ∀ p, (s.withPlan pl).advertised p = s.advertised p := fun p => by
    simp [State.advertised, State.advertisedPeer, State.expected, same.state, same.cache, same.generation]
  exact State.conclude_quiet same.state.symm (fun p => Port.noticeDue_self _) (fun p => by simp)
    (fun p => promptDue_same rfl (advertised p)) settled

/-- A request that edits the working contents at an idle link changes the plan alone, and its reply is being sent. -/
theorem State.takeWhole_of_takes {s : State} (h : s.ready) {f : Frame} {pl : Plan} {st : Status} {content : List Byte}
    (answer : s.hunt.answer f = takes (s.hunt.withPlan pl) st content) (same : s.plan.SameOutside pl) :
    s.takeWhole f = State.replying { s with plan := pl } f.tag f.kind st content := by
  obtain ⟨idle, settled, -⟩ := h
  have quiet : s.hunt.conclude (s.hunt.withPlan pl) [] [] = s.hunt.withPlan pl := State.conclude_withPlan same settled
  have ⟨_, _, _, noReset⟩ := idle
  rw [State.takeWhole_idle idle, answer]
  dsimp only [takes]
  rw [quiet]
  simp [State.hunt, State.modMli, State.withPlan, State.replying, replyTo, Answer.payload, noReset]

end Sys2Proof.Machine

/-! SUPPORT. PLAN_OVERRIDE APPEND: its payload, the check of its fields, and its answer (R4, R5). -/

namespace Sys2Proof.Machine

/-! ## The payload -/

@[simp] theorem rawOverrideBytes_length (o : RawOverride) : (rawOverrideBytes o).length = 10 := by
  simp [rawOverrideBytes]

/-- The owning block reads the fields that the request carries (R197). -/
theorem readOverride_rawOverrideBytes (o : RawOverride) : readOverride (0 :: rawOverrideBytes o) = o := by
  have chassis : readNumber (byte6 o.chassis.toNat) = o.chassis.toNat := readNumber_numberBytes 6 _ (by omega)
  have places : readOverride (0 :: rawOverrideBytes o) =
      { o with chassis := BitVec.ofNat 48 (readNumber (byte6 o.chassis.toNat)) } := rfl
  rw [places, chassis, BitVec.ofNat_toNat, BitVec.setWidth_eq]

/-! ## The check of the fields -/

theorem portOf_of_le {b : Byte} (h : b.toNat ≤ 31) : portOf b = some ⟨b.toNat, by omega⟩ := dif_pos (by omega)

theorem portOf_of_gt {b : Byte} (h : 31 < b.toNat) : portOf b = none := dif_neg (by omega)

theorem overrideModeOf_of_gt {b : Byte} (h : 1 < b.toNat) : overrideModeOf b = none := by
  have notReplace : b ≠ 0 := by rintro rfl; simp at h
  have notEither : b ≠ 1 := by rintro rfl; simp at h
  rw [overrideModeOf, if_neg notReplace, if_neg notEither]

theorem overrideModeOf_of_le {b : Byte} (h : b.toNat ≤ 1) :
    ∃ m, overrideModeOf b = some m ∧ (m = .replace ↔ b = 0) ∧ (m = .either ↔ b = 1) := by
  obtain rfl | rfl : b = 0 ∨ b = 1 := by bv_omega
  · exact ⟨.replace, by decide⟩
  · exact ⟨.either, by decide⟩

/-- The cases in which R4 refuses an override. -/
abbrev OverrideOutOfTable (o : RawOverride) : Prop :=
  31 < o.localStart.toNat ∨ o.count.toNat = 0 ∨ 32 < o.count.toNat ∨ 32 < o.localStart.toNat + o.count.toNat
    ∨ o.chassis = 0 ∨ 31 < o.portStart.toNat ∨ 32 < o.portStart.toNat + o.count.toNat ∨ 1 < o.mode.toNat

/-- A stored override with exactly the fields carried. -/
abbrev OverrideStoredAs (o : RawOverride) (r : Override) : Prop :=
  r.localStart.val = o.localStart.toNat ∧ r.count = o.count.toNat ∧ r.chassis = o.chassis
    ∧ r.portStart.val = o.portStart.toNat ∧ (r.mode = .replace ↔ o.mode = 0) ∧ (r.mode = .either ↔ o.mode = 1)

/-- The three fields that are decoded decide first; the ranges and the chassis decide among decodable ones. -/
theorem checkOverride_of_outOfTable {o : RawOverride} (bad : OverrideOutOfTable o) : checkOverride o = none := by
  by_cases start : 31 < o.localStart.toNat
  · simp [checkOverride, portOf_of_gt start]
  by_cases peerStart : 31 < o.portStart.toNat
  · simp [checkOverride, portOf_of_gt peerStart]
  by_cases mode : 1 < o.mode.toNat
  · simp [checkOverride, overrideModeOf_of_gt mode]
  obtain ⟨m, hm, -⟩ := overrideModeOf_of_le (Nat.le_of_not_lt mode)
  simp only [checkOverride, portOf_of_le (Nat.le_of_not_lt start), portOf_of_le (Nat.le_of_not_lt peerStart), hm]
  exact if_pos (by tauto)

theorem checkOverride_of_not_outOfTable {o : RawOverride} (good : ¬ OverrideOutOfTable o) :
    ∃ r, checkOverride o = some r ∧ OverrideStoredAs o r := by
  simp only [OverrideOutOfTable, not_or, Nat.not_lt] at good
  obtain ⟨start, nonzero, count, range, chassis, peerStart, peerRange, mode⟩ := good
  obtain ⟨m, hm, replace, either⟩ := overrideModeOf_of_le mode
  refine ⟨⟨⟨o.localStart.toNat, by omega⟩, o.count.toNat, o.chassis, ⟨o.portStart.toNat, by omega⟩, m⟩, ?_,
    rfl, rfl, rfl, rfl, replace, either⟩
  simp only [checkOverride, portOf_of_le start, portOf_of_le peerStart, hm]
  exact if_neg (by simp only [not_or, Nat.not_lt]; tauto)

/-! ## The answer -/

theorem exec_planOverrideAppend (tag : Byte) (o : RawOverride) (s : State) :
    exec (.planOverrideAppend tag o) s = .next (s.takeWhole ⟨tag, 0x03, 0 :: rawOverrideBytes o⟩) := rfl

/-- An APPEND frame comes to the Plan Table, which reads its fields (R176). -/
theorem State.answer_append (s : State) (tag : Byte) (o : RawOverride) :
    s.answer ⟨tag, 0x03, 0 :: rawOverrideBytes o⟩ =
      if s.plan.state ≠ .loading then refuse s .wrongState else s.appendOverride (checkOverride o) := by
  rw [s.answer_of_known rfl (by simp [lengthAllowed])]
  change s.takePlanOverride (0 :: rawOverrideBytes o) = _
  have append : byteAt (0 :: rawOverrideBytes o) 0 = 0 ∧ (0 :: rawOverrideBytes o).length = 11 := ⟨rfl, by simp⟩
  dsimp only [State.takePlanOverride]
  rw [if_pos append, readOverride_rawOverrideBytes]

/-- Outside LOADING an APPEND is refused before its fields are checked (R6). -/
theorem State.answer_append_of_not_loading {s : State} (other : s.plan.state ≠ .loading) (tag : Byte) (o : RawOverride) :
    s.answer ⟨tag, 0x03, 0 :: rawOverrideBytes o⟩ = refuse s .wrongState := by
  rw [State.answer_append, if_pos other]

/-- In LOADING the check of its fields decides (R4). -/
theorem State.answer_append_of_loading {s : State} (loading : s.plan.state = .loading) (tag : Byte) (o : RawOverride) :
    s.answer ⟨tag, 0x03, 0 :: rawOverrideBytes o⟩ = s.appendOverride (checkOverride o) := by
  rw [State.answer_append, if_neg (not_not_intro loading)]

/-- The Plan Table refuses an APPEND: nothing changes but that the reply is being sent. -/
theorem exec_append_of_refuse {s : State} (h : s.ready) (tag : Byte) (o : RawOverride) {st : Status}
    (answer : s.hunt.answer ⟨tag, 0x03, 0 :: rawOverrideBytes o⟩ = refuse s.hunt st) :
    exec (.planOverrideAppend tag o) s = .next (s.replying tag 0x03 st []) := by
  rw [exec_planOverrideAppend, State.takeWhole_of_refuse h answer]

/-- An override that fails the checks of R4 is refused before the list's room is looked at (R5). -/
theorem State.appendOverride_none (s : State) : s.appendOverride none = refuse s .argRange := rfl

theorem State.appendOverride_full {s : State} (full : 16 ≤ s.plan.overrides.length) (r : Override) :
    s.appendOverride (some r) = refuse s .tableFull := if_pos full

theorem State.appendOverride_room {s : State} (room : s.plan.overrides.length < 16) (r : Override) :
    s.appendOverride (some r) = takes (s.withPlan { s.plan with overrides := s.plan.overrides ++ [r] }) .ok
      [BitVec.ofNat 8 s.plan.overrides.length, BitVec.ofNat 8 (s.plan.overrides.length + 1)] :=
  if_neg (Nat.not_le_of_lt room)

/-- Settles O17: each of the four answers is the one of `State.answer_append`, whose check passes or fails as
`checkOverride_of_not_outOfTable` and `checkOverride_of_outOfTable` say. -/
theorem overrideAppendIsCheckedAgainstItsTable : Obligations.OverrideAppendIsCheckedAgainstItsTable := by
  intro s tag o ready bad
  refine ⟨fun other => ?wrongState, fun loading isBad => ?argRange, fun loading good full => ?tableFull,
    fun loading good room => ?stored⟩
  case wrongState =>
    exact exec_append_of_refuse ready tag o (State.answer_append_of_not_loading (s := s.hunt) other tag o)
  case argRange =>
    refine exec_append_of_refuse ready tag o ?_
    rw [State.answer_append_of_loading (s := s.hunt) loading, checkOverride_of_outOfTable isBad, State.appendOverride_none]
  case tableFull =>
    obtain ⟨r, checked, -⟩ := checkOverride_of_not_outOfTable good
    refine exec_append_of_refuse ready tag o ?_
    rw [State.answer_append_of_loading (s := s.hunt) loading, checked, State.appendOverride_full (s := s.hunt) full]
  case stored =>
    obtain ⟨r, checked, start, count, chassis, peerStart, replace, either⟩ := checkOverride_of_not_outOfTable good
    refine ⟨r, start, count, chassis, peerStart, replace, either, ?_⟩
    have answer := State.answer_append_of_loading (s := s.hunt) loading tag o
    rw [checked, State.appendOverride_room (s := s.hunt) room] at answer
    rw [exec_planOverrideAppend, State.takeWhole_of_takes ready answer ⟨rfl, rfl, rfl⟩]
    rfl

end Sys2Proof.Machine

/-! SUPPORT. Failures and the backoff wait (R44 to R46). -/

namespace Sys2Proof.Machine

/-! ## What a failure leaves of recovery -/

/-- A recovery is the one its record asks for (R44, item 4). -/
theorem Port.recovered_recover (base : BaseFields) (pr : Params) (p : Fin 32) (pt : Port) :
    Port.recovered base pr p pt (pt.recover base pr p) := by
  dsimp only [Port.recovered, Port.recover]
  cases base.recovery with
  | manual => exact ⟨rfl, rfl⟩
  | auto =>
    by_cases retries : pt.retryCount < base.retryLimit
    · simp only [if_pos retries, and_self]
    · simp only [if_neg retries, and_self]

@[simp] theorem Port.retryCount_countLinkLoss (pt : Port) : pt.countLinkLoss.retryCount = pt.retryCount := by
  unfold Port.countLinkLoss
  split <;> rfl

/-- A failure ends in a recovery: what it does before leaves the retry count alone (R44). -/
theorem Port.recovered_fail (base : BaseFields) (pr : Params) (p : Fin 32) (cause : Cause) (stage : Nat)
    (lane : Option (Fin 4)) (pt : Port) : Port.recovered base pr p pt (pt.fail base pr p cause stage lane) := by
  have departed : Port.recovered base pr p _ (pt.fail base pr p cause stage lane) := Port.recovered_recover ..
  have kept : (pt.record cause stage lane).countLinkLoss.leaveStages.makeStale.retryCount = pt.retryCount :=
    Port.retryCount_countLinkLoss (pt.record cause stage lane)
  simpa only [Port.recovered, kept] using departed

/-- The recovery is that of the port's cached record. -/
theorem State.recovered_fail (s : State) (p : Fin 32) (cause : Cause) (stage : Nat) (lane : Option (Fin 4)) :
    Port.recovered (s.expected p).base s.params p (s.port p) ((s.fail p cause stage lane).port p) := by
  rw [State.fail, State.port_withdrawPort, State.port_modPort_self]
  exact Port.recovered_fail ..

/-- A recovery that answers BACKOFF has armed the timer for the retry count it leaves: MANUAL recovery and a spent retry
limit answer FAULT. -/
theorem Port.backoffTimer_of_recovered {base : BaseFields} {pr : Params} {p : Fin 32} {before after : Port}
    (h : Port.recovered base pr p before after) (backoff : after.state = .backoff) :
    after.backoffTimer = .running (backoffWait pr p after.retryCount) := by
  cases recovery : base.recovery with
  | manual => simp [Port.recovered, recovery, backoff] at h
  | auto =>
    by_cases retries : before.retryCount < base.retryLimit
    · simp only [Port.recovered, recovery, if_pos retries] at h
      obtain ⟨-, count, timer⟩ := h
      rw [timer, count]
    · simp [Port.recovered, recovery, retries, backoff] at h

/-! ## The wait -/

/-- The formula of R46 in TU: 1 ms is 1,250,000 and 0.25 ms is 312,500. -/
theorem backoffWait_eq (pr : Params) (p : Fin 32) (n : Nat) :
    backoffWait pr p n = min (pr.backoffBase * 2 ^ (n - 1)) pr.backoffCap * 1250000 + p.val * 312500 := rfl

/-- The port number adds a quarter millisecond each to the wait of port 0. -/
theorem backoffWait_eq_add_port (pr : Params) (p : Fin 32) (n : Nat) :
    backoffWait pr p n = backoffWait pr 0 n + p.val * 312500 := by
  simp [backoffWait_eq]

theorem backoffWait_le_cap (pr : Params) (p : Fin 32) (n : Nat) :
    backoffWait pr p n ≤ pr.backoffCap * 1250000 + p.val * 312500 := by
  have capped := Nat.min_le_right (pr.backoffBase * 2 ^ (n - 1)) pr.backoffCap
  rw [backoffWait_eq]
  omega

/-- No wait passes the largest cap's at port 31. -/
theorem backoffWait_le_of_inRange {pr : Params} (h : pr.inRange) (p : Fin 32) (n : Nat) :
    backoffWait pr p n ≤ 60007 * 1250000 + 3 * 312500 := by
  obtain ⟨-, -, -, -, -, -, -, -, ⟨-, cap⟩, -⟩ := h
  calc backoffWait pr p n
    _ ≤ pr.backoffCap * 1250000 + p.val * 312500 := backoffWait_le_cap pr p n
    _ ≤ 60007 * 1250000 + 3 * 312500 := by omega

/-- Table 2-6, at port 0. -/
theorem backoffWait_reset_zero : ∀ n : Fin 15, backoffWait Params.reset 0 (n.val + 1) =
    [10, 20, 40, 80, 160, 320, 640, 1280, 1280, 1280, 1280, 1280, 1280, 1280, 1280].getD n.val 0 * 1250000 := by
  decide

/-- Settles O56: a failure ends in a recovery (`State.recovered_fail`), which arms the timer with `backoffWait`; the cap
bounds that wait, and the port's share adds to the waits of Table 2-6. -/
theorem backoffWaitsFollowTheirFormula : Obligations.BackoffWaitsFollowTheirFormula := by
  refine ⟨fun s p cause stage lane backoff => ?armed, fun pr p n inRange _ _ => backoffWait_le_of_inRange inRange p n,
    ?largest, fun n => ⟨backoffWait_reset_zero n, ?port31⟩, ?example5⟩
  case armed =>
    rw [Port.backoffTimer_of_recovered (s.recovered_fail p cause stage lane) backoff, backoffWait_eq]
  case largest => decide
  case port31 =>
    have share : (31 : Fin 32).val * 312500 = 7 * 1250000 + 3 * 312500 := rfl
    rw [backoffWait_eq_add_port, share, Nat.add_assoc]
  case example5 => decide

end Sys2Proof.Machine

/-! SUPPORT. Code lists, their class, and the partners of a verdict (R155, R156, R162). -/

namespace Sys2Proof.Machine

/-! ## The code list -/

theorem mem_allCodes (c : Code) : c ∈ allCodes := by cases c <;> decide

theorem allCodes_pairwise_number : allCodes.Pairwise fun a b => a.number < b.number := by decide

theorem State.mem_codes_iff (s : State) (p : Fin 32) (h : Held) (c : Code) :
    c ∈ s.codes p h ↔ c.judged (s.expected p).kind = true ∧ s.codeHolds p h c = true := by
  simp [State.codes, mem_allCodes]

/-- Strict priority order, so no code stands twice. -/
theorem State.codes_pairwise_number (s : State) (p : Fin 32) (h : Held) :
    (s.codes p h).Pairwise fun a b => a.number < b.number :=
  allCodes_pairwise_number.filter _

theorem number_head?_le {codes : List Code} (order : codes.Pairwise fun a b => a.number < b.number) {c x : Code}
    (head : codes.head? = some c) (mem : x ∈ codes) : c.number ≤ x.number := by
  obtain ⟨rest, rfl⟩ := List.head?_eq_some_iff.mp head
  obtain ⟨below, -⟩ := List.pairwise_cons.mp order
  cases mem with
  | head => exact Nat.le_refl _
  | tail _ later => exact Nat.le_of_lt (below x later)

/-! ## The class -/

theorem any_isFail_iff (codes : List Code) : codes.any Code.isFail = true ↔ ∃ c ∈ codes, c.number ≤ 12 := by
  simp [Code.isFail]

theorem classOf_of_fail {codes : List Code} (fail : ∃ c ∈ codes, c.number ≤ 12) : classOf codes = .fail :=
  if_pos ((any_isFail_iff codes).mpr fail)

theorem classOf_of_not_fail {c : Code} {rest : List Code} (notFail : ¬ ∃ x ∈ c :: rest, x.number ≤ 12) :
    classOf (c :: rest) = .warn :=
  if_neg (mt (any_isFail_iff _).mp notFail)

theorem classOf_eq_fail_iff (codes : List Code) : classOf codes = .fail ↔ ∃ c ∈ codes, c.number ≤ 12 := by
  refine ⟨fun fail => ?_, classOf_of_fail⟩
  by_contra notFail
  cases codes with
  | nil => exact absurd fail (by decide)
  | cons c rest => rw [classOf_of_not_fail notFail] at fail; cases fail

theorem classOf_eq_pass_iff (codes : List Code) : classOf codes = .pass ↔ codes = [] := by
  refine ⟨fun pass => ?_, fun empty => empty ▸ rfl⟩
  cases codes with
  | nil => rfl
  | cons c rest =>
    by_cases fail : ∃ x ∈ c :: rest, x.number ≤ 12
    · rw [classOf_of_fail fail] at pass; cases pass
    · rw [classOf_of_not_fail fail] at pass; cases pass

theorem classOf_eq_warn_iff (codes : List Code) :
    classOf codes = .warn ↔ (∀ c ∈ codes, 13 ≤ c.number) ∧ ∃ c, c ∈ codes := by
  constructor
  · intro warn
    have notFail : ¬ ∃ c ∈ codes, c.number ≤ 12 := fun fail => by rw [classOf_of_fail fail] at warn; cases warn
    have notPass : codes ≠ [] := fun empty => by rw [(classOf_eq_pass_iff codes).mpr empty] at warn; cases warn
    exact ⟨fun c mem => Nat.lt_of_not_le fun low => notFail ⟨c, mem, low⟩, List.exists_mem_of_ne_nil codes notPass⟩
  · rintro ⟨high, c, mem⟩
    cases codes with
    | nil => cases mem
    | cons first rest => exact classOf_of_not_fail fun ⟨x, present, low⟩ => Nat.not_le_of_lt (high x present) low

/-! ## The partners -/

/-- `allPorts` is searched from port 0 up. -/
theorem find?_allPorts_eq_some_iff {test : Fin 32 → Bool} {meets : Fin 32 → Prop}
    (test_iff : ∀ r, test r = true ↔ meets r) {q : Fin 32} : allPorts.find? test = some q ↔ meets q ∧ ∀ r < q, ¬ meets r := by
  simp only [allPorts, ← Fin.find?_eq_find?_finRange, Fin.find?_eq_some_iff, ← test_iff, Bool.not_eq_true]

theorem State.duplicatePartner_eq_some_iff {s : State} {p q : Fin 32} {i : PeerId}
    (identity : (s.port p).neighbor.identity = some i) :
    s.duplicatePartner p = some q ↔
      (q ≠ p ∧ s.currentPeer q = some i) ∧ ∀ r < q, ¬(r ≠ p ∧ s.currentPeer r = some i) := by
  simp only [State.duplicatePartner, identity]
  exact find?_allPorts_eq_some_iff (meets := fun r => r ≠ p ∧ s.currentPeer r = some i) fun r => by simp

/-- Port `q` expects `i`, the peer found at `p`, and has found a peer that `p` expects (R156). -/
def State.Exchanged (s : State) (p : Fin 32) (i : PeerId) (q : Fin 32) : Prop :=
  q ≠ p ∧ (s.expected q).kind = .planned ∧ i ∈ (s.expected q).accepted
    ∧ ∃ j ∈ (s.expected p).accepted, s.currentPeer q = some j

theorem State.swapPartner_eq_some_iff {s : State} {p q : Fin 32} {i : PeerId} (peer : s.currentPeer p = some i) :
    s.swapPartner p = some q ↔ ((s.expected p).kind = .planned ∧ i ∉ (s.expected p).accepted)
      ∧ s.Exchanged p i q ∧ ∀ r < q, ¬ s.Exchanged p i r := by
  by_cases foreign : (s.expected p).kind = .planned ∧ i ∉ (s.expected p).accepted
  · simp only [State.swapPartner, peer, if_pos foreign]
    refine (find?_allPorts_eq_some_iff fun r => ?_).trans (and_iff_right foreign).symm
    cases found : s.currentPeer r <;> simp [State.Exchanged, found, and_assoc]
  · simp [State.swapPartner, peer, foreign]

/-- Settles O58: the code list is `allCodes` filtered, which keeps its order (`State.mem_codes_iff`,
`State.codes_pairwise_number`); the class follows by the three equivalences of `classOf`, and the partners are the first
ports that the searches of R155 and R156 find. -/
theorem verdictsAreFormedFromTheirCodes : Obligations.VerdictsAreFormedFromTheirCodes := by
  intro s p h attempt
  have order := s.codes_pairwise_number p h
  refine ⟨s.mem_codes_iff p h, order, classOf_eq_fail_iff _, classOf_eq_warn_iff _, classOf_eq_pass_iff _,
    fun c head x mem => number_head?_le order head mem,
    List.head?_eq_none_iff.trans (classOf_eq_pass_iff _).symm, rfl, fun i q identity partner => ?duplicate,
    fun i q peer partner => ?swap⟩
  case duplicate =>
    obtain ⟨⟨other, same⟩, lowest⟩ := (State.duplicatePartner_eq_some_iff identity).mp partner
    exact ⟨other, same, fun r below distinct found => lowest r below ⟨distinct, found⟩⟩
  case swap =>
    obtain ⟨-, ⟨other, -, expects, theirs⟩, lowest⟩ := (State.swapPartner_eq_some_iff peer).mp partner
    exact ⟨other, expects, theirs, fun r below distinct planned accepts j mine found =>
      lowest r below ⟨distinct, planned, accepts, j, mine, found⟩⟩

end Sys2Proof.Machine

/-! SUPPORT. The comparison of FIND and the value it compares (R189, Table 10-1). -/

namespace Sys2Proof.Machine

/-! ## The mask comparisons -/

/-- A value and a key share a set bit exactly when their conjunction is not zero; bits of the value above the key's width meet
no bit of the key, so the value needs no bound. -/
theorem ofNat_and_ne_zero_iff {w : Nat} (value : Nat) (key : BitVec w) :
    BitVec.ofNat w value &&& key ≠ 0#w ↔ ∃ i, value.testBit i = true ∧ key.getLsbD i = true := by
  have bit : ∀ i, (BitVec.ofNat w value &&& key).getLsbD i = (value.testBit i && key.getLsbD i) := fun i => by
    rw [BitVec.getLsbD_and, BitVec.getLsbD_ofNat]
    cases set : key.getLsbD i with
    | false => rw [Bool.and_false, Bool.and_false]
    | true => rw [decide_eq_true (BitVec.lt_of_getLsbD set), Bool.true_and]
  constructor
  · intro nonzero
    by_contra apart
    refine nonzero (BitVec.eq_of_getLsbD_eq fun i _ => ?_)
    rw [bit, BitVec.getLsbD_zero, ← Bool.not_eq_true, Bool.and_eq_true]
    exact fun both => apart ⟨i, both⟩
  · rintro ⟨i, both⟩ zero
    rw [← Bool.and_eq_true, ← bit, zero, BitVec.getLsbD_zero] at both
    exact Bool.false_ne_true both

/-- The selectors whose value is a mask: its own bits are tested. -/
theorem sharesBit_iff_of_mask {sel : Selector} (mask : sel ∈ [Selector.flags, .retryCount, .peerChassis]) (value : Nat)
    (key : BitVec 48) : sharesBit sel value key = true ↔ ∃ i, value.testBit i = true ∧ key.getLsbD i = true := by
  have own : sharesBit sel value key = decide (BitVec.ofNat 48 value &&& key ≠ 0) := by
    cases sel with
    | flags | retryCount | peerChassis => rfl
    | state | verdictClass | primaryCode | peerPort => exact absurd mask (by decide)
  rw [own, decide_eq_true_iff]
  exact ofNat_and_ne_zero_iff value key

/-- The selectors whose value is a number: it numbers a bit of the key. -/
theorem sharesBit_of_membership {sel : Selector} (number : sel ∈ [Selector.state, .verdictClass, .primaryCode, .peerPort])
    (value : Nat) (key : BitVec 48) : sharesBit sel value key = key.getLsbD value := by
  cases sel with
  | state | verdictClass | primaryCode | peerPort => rfl
  | flags | retryCount | peerChassis => exact absurd number (by decide)

theorem meets_anySet (sel : Selector) (key : BitVec 48) (value : Nat) :
    meets sel .anySet key value = sharesBit sel value key := rfl

theorem meets_noneSet_iff (sel : Selector) (key : BitVec 48) (value : Nat) :
    meets sel .noneSet key value = true ↔ ¬ sharesBit sel value key = true := by
  rw [Bool.not_eq_true, ← Bool.not_eq_true']
  rfl

/-! ## The value of a port -/

section
variable {pt : Port} {sel : Selector} {cmp : Comparison} {key : BitVec 48}

theorem Port.matchesKey_of_value {v : Nat} (value : pt.selectValue sel = some v) :
    pt.matchesKey sel cmp key = meets sel cmp key v := by
  rw [Port.matchesKey, value]

/-- A port without a value matches under no comparison, NE and NONE_SET included. -/
theorem Port.matchesKey_of_no_value (absent : pt.selectValue sel = none) : pt.matchesKey sel cmp key = false := by
  rw [Port.matchesKey, absent]

/-- A port whose value is the number of `a` is compared by the number that a table of such numbers gives `a`. -/
theorem Port.matchesKey_of_row {α : Type} {number : α → Nat} {a : α} (value : pt.selectValue sel = some (number a))
    {table : List (α × Nat)} (agrees : ∀ row ∈ table, number row.1 = row.2) :
    ∀ row ∈ table, a = row.1 → pt.matchesKey sel cmp key = meets sel cmp key row.2 := by
  rintro row mem rfl
  rw [Port.matchesKey_of_value value, agrees row mem]

end

theorem Port.selectValue_peerChassis (pt : Port) :
    pt.selectValue .peerChassis = pt.neighbor.identity.map fun i => i.chassis.toNat := rfl

theorem Port.selectValue_peerPort (pt : Port) :
    pt.selectValue .peerPort = pt.neighbor.identity.map fun i => i.port.val := rfl

/-- The primary code is the first of the list (R162). -/
theorem Port.selectValue_primaryCode_cons {pt : Port} {c : Code} {rest : List Code} (codes : pt.verdict.codes = c :: rest) :
    pt.selectValue .primaryCode = some c.number := by
  rw [Port.selectValue, codes, List.head?_cons, primaryNumber]

theorem Port.selectValue_primaryCode_nil {pt : Port} (codes : pt.verdict.codes = []) :
    pt.selectValue .primaryCode = some 0 := by
  rw [Port.selectValue, codes, List.head?_nil, primaryNumber]

/-- Key 0x300 holds bits 8 and 9, the codes of BACKOFF and FAULT. -/
theorem PortState.getLsbD_code_iff (st : PortState) :
    (0x300 : BitVec 48).getLsbD st.name.code = true ↔ st = .backoff ∨ st = .fault := by
  cases st <;> simp [PortState.name, StateName.code]

/-- Settles O57: `meets` decides the order comparisons as they stand, and the mask comparisons by `sharesBit_iff_of_mask` and
`sharesBit_of_membership`; a port is compared by its value (`Port.matchesKey_of_value`), which only a record without an
identity lacks. -/
theorem findComparesAsItsTableSays : Obligations.FindComparesAsItsTableSays := by
  intro key value _
  refine ⟨fun sel => ⟨decide_eq_true_iff, decide_eq_true_iff, decide_eq_true_iff, decide_eq_true_iff⟩,
    fun sel mask => ?ownBits, fun sel number => ?membership, fun pt cmp absent => ?noIdentity,
    fun pt cmp i known => ?identity, fun pt => ?backoffOrFault, fun pt cmp => ⟨?state, ?verdictClass, ?noCode, ?primaryCode,
      Port.matchesKey_of_value rfl, Port.matchesKey_of_value rfl⟩⟩
  case ownBits =>
    rw [meets_noneSet_iff, meets_anySet, sharesBit_iff_of_mask mask]
    exact ⟨Iff.rfl, Iff.rfl⟩
  case membership =>
    rw [meets_noneSet_iff, meets_anySet, sharesBit_of_membership number, Bool.not_eq_true]
    exact ⟨Iff.rfl, Iff.rfl⟩
  case noIdentity =>
    exact ⟨Port.matchesKey_of_no_value (by rw [Port.selectValue_peerChassis, absent, Option.map_none]),
      Port.matchesKey_of_no_value (by rw [Port.selectValue_peerPort, absent, Option.map_none])⟩
  case identity =>
    exact ⟨Port.matchesKey_of_value (by rw [Port.selectValue_peerChassis, known, Option.map_some]),
      Port.matchesKey_of_value (by rw [Port.selectValue_peerPort, known, Option.map_some])⟩
  case backoffOrFault => exact pt.state.getLsbD_code_iff
  case state => exact Port.matchesKey_of_row (number := StateName.code) rfl (by decide)
  case verdictClass => exact Port.matchesKey_of_row (number := VerdictClass.code) rfl (by decide)
  case noCode => exact fun codes => Port.matchesKey_of_value (Port.selectValue_primaryCode_nil codes)
  case primaryCode =>
    exact fun row mem rest codes =>
      Port.matchesKey_of_row (number := Code.number) (Port.selectValue_primaryCode_cons codes) (by decide) row mem rfl

end Sys2Proof.Machine

/-! SUPPORT. What an event can do to a port, told once: the part of a port that the laws of the whole part speak of, and the moves
of that part. Every operation of the model is a chain of them. -/

namespace Sys2Proof.Machine

/-! ## The part of a port that the laws speak of -/

/-- What DISABLED and WAIT_CABLE keep off: waiting frames, the beacon, stage, backoff and silence timers, the receiver. -/
def Port.silent (pt : Port) : Bool :=
  decide (pt.tx.beaconTimer = .stopped) && !pt.tx.beaconWaiting && pt.tx.probeWaiting.isNone && pt.tx.echoes.isEmpty
    && decide (pt.stageTimer = .stopped) && decide (pt.backoffTimer = .stopped) && decide (pt.silence = .stopped)
    && pt.rx.isNone

/-- The fields of a port that the laws of the whole part speak of. `hush` says that the port is silent where its state asks for it. -/
structure Core where
  state : PortState
  retry : Nat
  ready : Bool
  admin : Bool
  present : Bool
  verdict : Verdict
  status : NeighborStatus
  identity : Option PeerId
  phase : AlignPhase
  running : Bool
  hush : Bool

def Port.core (pt : Port) : Core where
  state := pt.state
  retry := pt.retryCount
  ready := pt.ready
  admin := pt.adminEnable
  present := pt.present
  verdict := pt.verdict
  status := pt.neighbor.status
  identity := pt.neighbor.identity
  phase := pt.deskew.phase
  running := pt.burst.running
  hush := pt.state.sending || pt.silent

/-- The status of a record that leaves CURRENT: an EMPTY one stays EMPTY (R69, R74). -/
def NeighborStatus.aged : NeighborStatus → NeighborStatus
  | .empty => .empty
  | .current | .stale => .stale

/-- The port has completed SIDEBAND, or is held there. -/
abbrev Core.pastSideband (c : Core) : Prop :=
  (c.state = .sideband ∧ c.status = .current) ∨ ∃ n, c.state = .held .sideband n

/-- A departure from the lane stages: READY clear, no alignment, no mask, no burst (R33). -/
abbrev Core.departed (c : Core) : Core := { c with ready := false, phase := .idle, running := false, hush := true }

/-- The sub-states of VERIFY at its entry, and whether a burst then runs (R38). -/
abbrev entersVerify (before : Bool) (sub : VerifySub) (running : Bool) : Prop :=
  (sub = .planWait false ∨ sub = .maskWait) ∧ running = before ∨ sub = .ranging ∧ running = true

/-- The outcome of a recovery (R44). -/
abbrev Core.recovers (base : BaseFields) (c : Core) (state : PortState) (retry : Nat) : Prop :=
  state = .fault ∧ retry = c.retry
    ∨ state = .backoff ∧ base.recovery = .auto ∧ c.retry < base.retryLimit ∧ retry = c.retry + 1

/-- What an operation at a port does to the fields the laws speak of, verdict passes apart. -/
inductive Core.Move (pl : Plan) (dev : DeviceState) (p : Fin 32) (c : Core) : Core → Prop
  | quiet (x : Bool) (h : c.hush = true → x = true) : Move pl dev p c { c with hush := x }
  | fail (sends : c.state.sending = true) (state : PortState) (retry : Nat)
      (h : c.recovers (pl.cache.get p).base state retry) :
      Move pl dev p c { c.departed with state := state, retry := retry, status := c.status.aged }
  | peerRestart (sends : c.state.sending = true) : Move pl dev p c { c.departed with state := .sideband }
  | holdSideband (next : NextStep) (at_ : c.state = .sideband) (current : c.status = .current) :
      Move pl dev p c { c with state := .held .sideband next, hush := true }
  | laneLock (past : c.pastSideband) : Move pl dev p c { c with state := .laneLock, hush := true }
  | verify (past : c.pastSideband ∨ ∃ n, c.state = .held .align n) (sub : VerifySub) (running : Bool)
      (h : entersVerify c.running sub running) :
      Move pl dev p c { c with state := .verify sub, running := running, hush := true }
  | align (at_ : c.state = .laneLock) : Move pl dev p c { c with state := .align, phase := .markerWait, hush := true }
  | collect (at_ : c.state = .align) (phase : AlignPhase) (h : phase = .markerWait ∨ phase = .collecting) :
      Move pl dev p c { c with phase := phase }
  | fixHeld (at_ : c.state = .align) : Move pl dev p c { c with state := .held .align .verify, phase := .fixed, hush := true }
  | fixVerify (at_ : c.state = .align) (sub : VerifySub) (running : Bool) (h : entersVerify c.running sub running) :
      Move pl dev p c { c with state := .verify sub, phase := .fixed, running := running, hush := true }
  | realign (engaged : c.state.engaged = true) :
      Move pl dev p c { c with state := .align, phase := .markerWait, running := false, ready := false, hush := true }
  | fence (engaged : c.state.engaged = true) : Move pl dev p c { c.departed with state := .laneLock }
  | ranging (at_ : c.state = .verify .maskWait) :
      Move pl dev p c { c with state := .verify .ranging, running := true, hush := true }
  | measured (at_ : c.state = .verify .ranging) :
      Move pl dev p c { c with state := .verify (.planWait true), running := false, hush := true }
  | active (at_ : c.state = .verify .readyWait) : Move pl dev p c { c with state := .active, retry := 0, hush := true }
  | release (at_ : ∃ n, c.state = .held .verify n) :
      Move pl dev p c { c with state := .verify .readyWait, ready := true, hush := true }
  | capture (free : c.state.engaged = false) (open_ : c.state = .sideband ∨ c.status = .current) (i : PeerId) (x : Bool)
      (h : c.hush = true → c.state.sending = false → x = true) (h' : c.state.sending = true → x = true) :
      Move pl dev p c { c with status := .current, identity := some i, hush := x }
  | stale (at_ : c.status = .stale) (i : PeerId) : Move pl dev p c { c with identity := some i }
  | seat (at_ : c.state = .waitCable) :
      Move pl dev p c { c with state := .sideband, present := true, retry := 0, ready := false, hush := true }
  | present (other : c.state ≠ .waitCable) : Move pl dev p c { c with present := true }
  | absent (off : c.state.sending = false) : Move pl dev p c { c with present := false }
  | flags (x : Bool) (h : c.state = .disabled ∧ (x = false ∨ dev = .unconfigured)
      ∨ x = true ∧ (c.admin = true ∨ c.state ≠ .disabled)) : Move pl dev p c { c with admin := x }
  | enableSeated (at_ : c.state = .disabled) (run : dev = .running) (x : Bool) (set : x = true) (h : c.present = true) :
      Move pl dev p c { c with admin := x, state := .sideband, retry := 0, ready := false, hush := true }
  | enableOpen (at_ : c.state = .disabled) (run : dev = .running) (x : Bool) (set : x = true) (h : c.present = false)
      (y : Bool) (quiet : c.hush = true → y = true) :
      Move pl dev p c { c with admin := x, state := .waitCable, hush := y }
  | restartSeated (other : c.state ≠ .disabled) (h : c.present = true) :
      Move pl dev p c { c.departed with state := .sideband, verdict := Verdict.reset, retry := 0, status := c.status.aged }
  | again (at_ : c.state = .backoff) : Move pl dev p c { c with state := .sideband, ready := false, hush := true }

/-- What an operation that turns a port's Sideband Unit off does to the fields the laws speak of: a removal, a disable, a restart
without a cable (R28, R29, R57). -/
inductive Core.Off (c : Core) : Core → Prop
  | remove (sends : c.state.sending = true) :
      Off c { c.departed with state := .waitCable, present := false, retry := 0, status := c.status.aged }
  | disable (x : Bool) (h : x = false) : Off c
      { c.departed with admin := x, state := .disabled, retry := 0, status := c.status.aged }
  | restartOpen (other : c.state ≠ .disabled) (h : c.present = false) :
      Off c { c.departed with state := .waitCable, verdict := Verdict.reset, retry := 0, status := c.status.aged }

/-- A first computation falls due in PLAN_WAIT. -/
abbrev Core.waits (c : Core) : Prop := ∃ taken, c.state = .verify (.planWait taken)

/-- What a trigger does to a port: its record is written and acted on under a CLOSED plan, and it is marked pending under another
(R163 to R166). -/
inductive Core.Judged (pl : Plan) (p : Fin 32) (c : Core) : Core → Prop
  | pend (open_ : pl.state ≠ .closed) (bears : c.state.bearing = true) :
      Judged pl p c { c with verdict := { c.verdict with pending := true } }
  | fail (closed : pl.state = .closed) (judgeable : c.state.bearing = true ∨ c.waits) (v : Verdict) (settled : v.pending = false)
      (state : PortState) (retry : Nat) (h : c.recovers (pl.cache.get p).base state retry) :
      Judged pl p c { c.departed with state := state, retry := retry, status := c.status.aged, verdict := v }
  | keep (closed : pl.state = .closed) (bears : c.state.bearing = true) (v : Verdict) (settled : v.pending = false)
      (passes : v.cls = .pass ∨ v.cls = .warn) : Judged pl p c { c with verdict := v }
  | held (closed : pl.state = .closed) (waits : c.waits) (v : Verdict) (settled : v.pending = false)
      (passes : v.cls = .pass ∨ v.cls = .warn) :
      Judged pl p c { c with state := .held .verify .ready, verdict := v, hush := true }
  | ready (closed : pl.state = .closed) (waits : c.waits) (v : Verdict) (settled : v.pending = false)
      (passes : v.cls = .pass ∨ v.cls = .warn) :
      Judged pl p c { c with state := .verify .readyWait, ready := true, verdict := v, hush := true }
  | active (closed : pl.state = .closed) (waits : c.waits) (v : Verdict) (settled : v.pending = false)
      (passes : v.cls = .pass ∨ v.cls = .warn) :
      Judged pl p c { c with state := .active, ready := true, retry := 0, verdict := v, hush := true }

/-! ## Port operations in one record -/

theorem Port.countLinkLoss_eq (pt : Port) : pt.countLinkLoss =
    { pt with counters := { pt.counters with
        linkLosses := if pt.state = .active then bump pt.counters.linkLosses else pt.counters.linkLosses } } := by
  unfold Port.countLinkLoss; split <;> rfl

/-- The sending states are those that need not be silent. -/
theorem Port.hush_of_sending {pt : Port} (h : pt.state.sending = true) : pt.core.hush = true := by
  simp [Port.core, h]

@[simp] theorem Port.core_countLinkLoss (pt : Port) : pt.countLinkLoss.core = pt.core := by
  rw [Port.countLinkLoss_eq]; rfl

@[simp] theorem Port.core_countPeerRestart (pt : Port) : pt.countPeerRestart.core = pt.core := rfl

@[simp] theorem Port.core_record (pt : Port) (cause : Cause) (stage : Nat) (lane : Option (Fin 4)) :
    (pt.record cause stage lane).core = pt.core := rfl

@[simp] theorem Port.core_newAttempt (pt : Port) : pt.newAttempt.core = pt.core := rfl

/-- Leaving the lane stages: no alignment, no mask, no burst (R33). -/
theorem Port.core_leaveStages (pt : Port) :
    pt.leaveStages.core = { pt.core with phase := .idle, running := false, hush := pt.leaveStages.core.hush } := rfl

/-- The record leaves CURRENT (R74). -/
theorem Port.core_makeStale (pt : Port) :
    pt.makeStale.core = { pt.core with status := pt.core.status.aged, hush := pt.makeStale.core.hush } := by
  obtain ⟨_, _, _, _, _, _, _, _, _, _, _, _, _, _, _, ⟨status, _⟩, _⟩ := pt
  cases status <;> rfl

theorem Port.core_enterSideband (pr : Params) (pt : Port) :
    (pt.enterSideband pr).core = { pt.core with state := .sideband, ready := false, hush := true } := rfl

/-- A port that has left the lane stages, sends nothing and has stopped its timers is silent in any state. -/
theorem Port.core_rest (pt : Port) (state : PortState) :
    ({ pt.leaveStages.stopSending.makeStale with
        state := state, retryCount := 0, ready := false, stageTimer := .stopped, backoffTimer := .stopped }).core =
      { pt.core.departed with state := state, retry := 0, status := pt.core.status.aged } := by
  obtain ⟨_, _, _, _, _, _, _, _, _, _, _, _, _, _, _, ⟨status, _⟩, _⟩ := pt
  cases status <;> exact congrArg (Core.mk _ _ _ _ _ _ _ _ _ _) (Bool.or_true _)

end Sys2Proof.Machine

namespace Sys2Proof.Machine

open Relation (ReflTransGen)

/-! ## The operations at a port as moves -/

section
variable {pl : Plan} {dev : DeviceState} {p : Fin 32} (pr : Params) (pt : Port)

/-- The recovery of a port that has left the lane stages (R44, item 4). -/
theorem Port.core_recover (base : BaseFields) : ∃ state retry, pt.core.recovers base state retry
      ∧ (pt.recover base pr p).core = { pt.core with state := state, retry := retry, hush := true } := by
  unfold Port.recover
  cases hb : base.recovery with
  | manual => exact ⟨.fault, _, .inl ⟨rfl, rfl⟩, rfl⟩
  | auto =>
    dsimp only
    split
    · next hlt => exact ⟨.backoff, _, .inr ⟨rfl, hb, hlt, rfl⟩, rfl⟩
    · exact ⟨.fault, _, .inl ⟨rfl, rfl⟩, rfl⟩

/-- A failure: the record leaves CURRENT, the lane stages are left, and the recovery follows (R44). -/
theorem Port.core_fail (base : BaseFields) (cause : Cause) (stage : Nat) (lane : Option (Fin 4)) :
    ∃ state retry, pt.core.recovers base state retry
      ∧ (pt.fail base pr p cause stage lane).core =
        { pt.core.departed with state := state, retry := retry, status := pt.core.status.aged } := by
  obtain ⟨state, retry, h, e⟩ := Port.core_recover (p := p) pr
    { (pt.record cause stage lane).countLinkLoss.leaveStages.makeStale with ready := false, stageTimer := .stopped } base
  have before : ∀ x : Port, ({ x with ready := false, stageTimer := .stopped }).core =
      { x.core with ready := false, hush := ({ x with ready := false, stageTimer := .stopped } : Port).core.hush } :=
    fun _ => rfl
  rw [before, Port.core_makeStale, Port.core_leaveStages, Port.core_countLinkLoss, Port.core_record] at h e
  exact ⟨state, retry, h, e⟩

theorem Core.Move.of_fail (sends : pt.state.sending = true) (cause : Cause) (stage : Nat) (lane : Option (Fin 4)) :
    Core.Move pl dev p pt.core (pt.fail (pl.cache.get p).base pr p cause stage lane).core := by
  obtain ⟨state, retry, h, e⟩ := pt.core_fail (p := p) pr (pl.cache.get p).base cause stage lane
  rw [e]
  exact .fail sends state retry h

theorem Core.Move.of_peerRestart (sends : pt.state.sending = true) :
    Core.Move pl dev p pt.core (pt.peerRestart pr).core := by
  unfold Port.peerRestart
  rw [Port.core_enterSideband, Port.core_leaveStages, Port.core_countPeerRestart, Port.core_countLinkLoss, Port.core_record]
  exact .peerRestart sends

theorem Core.Move.of_enterLaneLock (past : pt.core.pastSideband) :
    Core.Move pl dev p pt.core (pt.enterLaneLock pr).core := .laneLock past

theorem Core.Move.of_enterAlign (at_ : pt.state = .laneLock) : Core.Move pl dev p pt.core (pt.enterAlign pr).core :=
  .align at_

theorem Core.Move.of_fenceRestart (engaged : pt.state.engaged = true) :
    Core.Move pl dev p pt.core (pt.fenceRestart pr).core := by
  unfold Port.fenceRestart
  rw [Port.countLinkLoss_eq]
  exact .fence engaged

theorem Core.Move.of_realign (engaged : pt.state.engaged = true) (lost : Fin 4 → Bool) :
    Core.Move pl dev p pt.core (pt.realign pr lost).core := .realign engaged

theorem Core.Move.of_enterRanging (at_ : pt.state = .verify .maskWait) :
    Core.Move pl dev p pt.core pt.enterRanging.core := .ranging at_

/-- The entry to VERIFY: PLAN_WAIT, MASK_WAIT, or RANGING with its burst (R38). -/
theorem Port.core_enterVerify (closed unused : Bool) : ∃ sub running, entersVerify pt.burst.running sub running
    ∧ (pt.enterVerify pr closed unused).core = { pt.core with state := .verify sub, running := running, hush := true } := by
  unfold Port.enterVerify
  dsimp only
  split
  · unfold Port.enterMaskWait
    split
    · exact ⟨.ranging, true, .inr ⟨rfl, rfl⟩, rfl⟩
    · exact ⟨.maskWait, _, .inl ⟨.inr rfl, rfl⟩, rfl⟩
  · unfold Port.fallDue
    split
    all_goals exact ⟨.planWait false, _, .inl ⟨.inl rfl, rfl⟩, rfl⟩

theorem Core.Move.of_enterVerify (past : pt.core.pastSideband ∨ ∃ n, pt.state = .held .align n) (closed unused : Bool) :
    Core.Move pl dev p pt.core (pt.enterVerify pr closed unused).core := by
  obtain ⟨sub, running, h, e⟩ := pt.core_enterVerify pr closed unused
  rw [e]
  exact .verify past sub running h

theorem Port.core_finishBurst (kind : Fin 8) (delay : Nat) :
    (pt.finishBurst kind delay).core = { pt.core with running := false } := by
  unfold Port.finishBurst
  dsimp only
  split
  · rfl
  · split <;> rfl

theorem Core.Move.of_fallDue (at_ : pt.state = .verify .ranging) (kind : Fin 8) (delay : Nat) (closed : Bool) :
    Core.Move pl dev p pt.core ((pt.finishBurst kind delay).fallDue closed true).core := by
  have e : ((pt.finishBurst kind delay).fallDue closed true).core =
      { (pt.finishBurst kind delay).core with state := .verify (.planWait true), hush := true } := by
    unfold Port.fallDue
    split <;> rfl
  rw [e, Port.core_finishBurst]
  exact .measured at_

theorem Core.Move.of_enterActive (at_ : pt.state = .verify .readyWait) :
    Core.Move pl dev p pt.core pt.enterActive.core := .active at_

/-- READY_WAIT with READY set, and ACTIVE where the peer's READY is recorded (R40). -/
theorem Port.core_enterReadyWait : pt.enterReadyWait.core = { pt.core with state := .verify .readyWait, ready := true, hush := true }
    ∨ pt.enterReadyWait.core = { pt.core with state := .active, ready := true, retry := 0, hush := true } := by
  unfold Port.enterReadyWait
  dsimp only
  split
  · exact .inr rfl
  · exact .inl rfl

theorem Core.Move.of_release (at_ : ∃ n, pt.state = .held .verify n) (timer : Timer) :
    ReflTransGen (Core.Move pl dev p) pt.core ({ pt with stageTimer := timer }).enterReadyWait.core := by
  have waits := Core.Move.release (pl := pl) (dev := dev) (p := p) (c := pt.core) at_
  rcases ({ pt with stageTimer := timer }).core_enterReadyWait with e | e
  · rw [e]
    exact .single waits
  · rw [e]
    exact .tail (.single waits) (.active rfl)

theorem Core.Off.of_remove (sends : pt.state.sending = true) : Core.Off pt.core (pt.settlePresence false).remove.core := by
  unfold Port.remove
  rw [Port.core_rest, Port.core_countLinkLoss, Port.core_record]
  exact .remove sends

theorem Core.Move.of_seat (at_ : pt.state = .waitCable) : Core.Move pl dev p pt.core ((pt.settlePresence true).seat pr).core :=
  .seat at_

theorem Core.Off.of_disable (flags : BitVec 6) (h : flags.getLsbD 0 = false) :
    Core.Off pt.core ({ pt with flags := flags }).disable.core := by
  unfold Port.disable
  rw [Port.core_rest]
  exact .disable _ h

theorem Core.Move.of_enable (at_ : pt.state = .disabled) (run : dev = .running) (flags : BitVec 6) (lanes : Table Lane 4)
    (h : flags.getLsbD 0 = true) : Core.Move pl dev p pt.core (({ pt with flags := flags, lanes := lanes }).enable pr).core := by
  unfold Port.enable
  dsimp only
  split
  · next present => exact .enableSeated at_ run _ h present
  · next present =>
    have open_ : pt.core.present = false := by rw [← Bool.not_eq_true]; exact present
    have quiet : pt.core.hush = true → pt.silent = true := by simp [Port.core, at_, PortState.sending]
    exact .enableOpen at_ run _ h open_ _ quiet

theorem Core.of_restart (other : pt.state ≠ .disabled) :
    Core.Move pl dev p pt.core (pt.restart pr).core ∨ Core.Off pt.core (pt.restart pr).core := by
  unfold Port.restart
  dsimp only
  split
  · next present =>
    have e : ∀ x : Port, ({ x with
        stageTimer := .stopped, backoffTimer := .stopped, verdict := Verdict.reset, retryCount := 0 }).core =
        { x.core with verdict := Verdict.reset, retry := 0, hush := ({ x with
          stageTimer := .stopped, backoffTimer := .stopped, verdict := Verdict.reset, retryCount := 0 } : Port).core.hush } :=
      fun _ => rfl
    have seated : pt.core.present = true := by rw [← present]; rfl
    rw [Port.core_enterSideband, e, Port.core_makeStale, Port.core_leaveStages]
    exact .inl (.restartSeated other seated)
  · next present =>
    have open_ : pt.core.present = false := by rw [← Bool.not_eq_true]; exact present
    have e := Port.core_rest { pt with verdict := Verdict.reset } .waitCable
    exact .inr (e ▸ .restartOpen other open_)

theorem Core.Move.of_again (at_ : pt.state = .backoff) (timer : Timer) :
    Core.Move pl dev p pt.core (({ pt with backoffTimer := timer }).enterSideband pr).core := .again at_

/-- New flags, with the lanes that they move at rest (R54, R81). -/
theorem Core.Move.of_flags (flags : BitVec 6) (lanes : Table Lane 4)
    (h : pt.state = .disabled ∧ (flags.getLsbD 0 = false ∨ dev = .unconfigured)
      ∨ flags.getLsbD 0 = true ∧ (pt.adminEnable = true ∨ pt.state ≠ .disabled)) :
    Core.Move pl dev p pt.core ({ pt with flags := flags, lanes := lanes }).core := .flags _ h

theorem Core.Move.of_rebuild (free : pt.state.engaged = false) (open_ : pt.state = .sideband ∨ pt.neighbor.status = .current)
    (sends : pt.state.sending = true) (i : PeerId) (f : SidebandFrame) :
    Core.Move pl dev p pt.core ((pt.rebuild .current i f).armSilence pr).core := by
  have e : ((pt.rebuild .current i f).armSilence pr).core.hush = true := Port.hush_of_sending sends
  have := Core.Move.capture (pl := pl) (dev := dev) (p := p) (c := pt.core) free open_ i true (fun _ _ => rfl) fun _ => rfl
  rw [← e] at this
  exact this

theorem Core.Move.of_rebuild_stale (at_ : pt.neighbor.status = .stale) (i : PeerId) (f : SidebandFrame) :
    Core.Move pl dev p pt.core (pt.rebuild .stale i f).core := by
  have e : (pt.rebuild .stale i f).core = { pt.core with status := .stale, identity := some i } := rfl
  have same : NeighborStatus.stale = pt.core.status := at_.symm
  rw [e, same]
  exact .stale at_ i

end

end Sys2Proof.Machine

namespace Sys2Proof.Machine

open Relation (ReflTransGen)

theorem State.modPort_modPort (s : State) (p : Fin 32) (f g : Port → Port) :
    (s.modPort p f).modPort p g = s.modPort p fun pt => g (f pt) := by
  have entries : ∀ q, ((s.modPort p f).modPort p g).port q = (s.modPort p fun pt => g (f pt)).port q := fun q => by
    by_cases h : q = p
    · subst h; simp
    · simp [State.port_modPort_other _ _ h]
  exact congrArg (fun x => { s with ports := x }) (Table.ext_get entries)

/-! ## What alignments and frames leave of a port -/

section
variable (pt : Port) (l : Fin 4)

theorem Port.core_reportInverted : (pt.reportInverted l).core = pt.core := by
  unfold Port.reportInverted
  dsimp only
  split
  · split <;> rfl
  · rfl

theorem Port.core_stampMarker (k : Fin 4) (n : Fin 16) (stamp : BitVec 16) :
    (pt.stampMarker l k n stamp).core = pt.core := by
  unfold Port.stampMarker
  split
  · rfl
  · split
    · rfl
    · split
      · dsimp only
        split <;> rfl
      · rfl

/-- A marker moves no phase by itself. -/
theorem Port.core_takeMarker (inverted : Bool) (k : Fin 4) (n : Fin 16) (stamp : BitVec 16) :
    (pt.takeMarker l inverted k n stamp).core = pt.core := by
  unfold Port.takeMarker
  split
  · split
    · dsimp only
      split
      · exact Port.core_reportInverted ..
      · rfl
    · rfl
  · split
    · dsimp only
      split
      · exact Port.core_reportInverted ..
      · exact Port.core_stampMarker ..
    · rfl
  · rfl
  · rfl

/-- The reference lane kept, or replaced with a collection started afresh (R125). -/
theorem Port.core_replaceReference (lost : Fin 4 → Bool) : (pt.replaceReference lost).core = pt.core
    ∨ (pt.replaceReference lost).core = { pt.core with phase := .collecting } := by
  unfold Port.replaceReference
  split
  · split
    · exact .inr rfl
    · exact .inl rfl
  · exact .inl rfl

theorem Port.core_formDifferences : pt.formDifferences.core = pt.core := by
  unfold Port.formDifferences
  split <;> rfl

/-- A close fixes the mask or starts the next collection (R124). -/
theorem Port.core_closeCollection (base : BaseFields) : (pt.closeCollection base).core = { pt.core with phase := .fixed }
    ∨ (pt.closeCollection base).core = { pt.core with phase := .collecting } := by
  have formed := pt.core_formDifferences
  unfold Port.closeCollection
  dsimp only
  rw [← formed]
  split
  · exact .inl rfl
  · split
    · exact .inr rfl
    · exact .inl rfl

theorem Port.core_requestProbe : pt.requestProbe.core = { pt.core with hush := pt.requestProbe.core.hush } := by
  unfold Port.requestProbe
  split <;> rfl

theorem Port.core_endFrame (now : BitVec 32) : (pt.endFrame now).core = pt.core := by
  unfold Port.endFrame
  split
  · rfl
  · have running : ∀ (k : Fin 8) (t1 : BitVec 32), (pt.burst.handOver k t1 now).running = pt.burst.running := by
      intro k t1
      unfold Burst.handOver
      split <;> rfl
    dsimp only
    split
    · exact congrArg (fun x => { pt.core with running := x }) (running ..)
    · rfl

theorem Port.core_rawChange (pr : Params) (low : Bool) : (pt.rawChange pr low).core = pt.core := rfl

theorem Port.core_placeEcho (now : BitVec 32) (f : SidebandFrame) :
    (pt.placeEcho now f).core = { pt.core with hush := (pt.placeEcho now f).core.hush } := by
  unfold Port.placeEcho
  split <;> rfl

/-- Only a port past SIDEBAND is tested against Table 2-3. -/
theorem Port.engaged_of_showsRestart {pt : Port} {f : SidebandFrame} {d : Bool} (h : pt.showsRestart f d = true) :
    pt.state.engaged = true := by
  unfold Port.showsRestart at h
  dsimp only at h
  split at h <;> simp_all [PortState.engaged]

theorem PortState.sending_of_engaged {st : PortState} (h : st.engaged = true) : st.sending = true := by
  cases st <;> simp_all [PortState.engaged, PortState.sending]

theorem Port.engaged_of_inLaneStages {pt : Port} (h : pt.inLaneStages = true) : pt.state.engaged = true := by
  unfold Port.inLaneStages at h
  split at h <;> simp_all [PortState.engaged]

theorem Port.storeFences_eq (changed : Bool) (pt : Port) :
    pt.storeFences changed = { pt with lanes := (pt.storeFences changed).lanes } := by
  unfold Port.storeFences
  split <;> rfl

end

/-! ## Chains of moves between states -/

/-- `t` is reached from `s` by moves at its ports, the plan and the link staying as they are. -/
structure State.Moves (s t : State) : Prop where
  only : s.Only t
  chain : ∀ p, ReflTransGen (Core.Move s.plan s.mli.device p) (s.port p).core (t.port p).core

namespace State.Moves

variable {s t u : State} {p : Fin 32}

theorem refl (s : State) : s.Moves s := ⟨.refl s, fun _ => .refl⟩

theorem trans (h : s.Moves t) (k : t.Moves u) : s.Moves u :=
  ⟨h.only.trans k.only, fun p => (h.chain p).trans (by simpa only [h.only.plan, h.only.mli] using k.chain p)⟩

/-- A change of what the laws do not speak of. -/
theorem of_ports (only : s.Only t) (same : ∀ p, (t.port p).core = (s.port p).core) : s.Moves t :=
  ⟨only, fun p => by rw [same p]⟩

theorem modPort {f : Port → Port}
    (h : ReflTransGen (Core.Move s.plan s.mli.device p) (s.port p).core (f (s.port p)).core) : s.Moves (s.modPort p f) := by
  refine ⟨.modPort .., fun q => ?_⟩
  by_cases hq : q = p
  · subst hq; simpa using h
  · rw [State.port_modPort_other s f hq]

theorem modPort_move {f : Port → Port} (h : Core.Move s.plan s.mli.device p (s.port p).core (f (s.port p)).core) :
    s.Moves (s.modPort p f) := modPort (.single h)

theorem modPort_same {f : Port → Port} (h : (f (s.port p)).core = (s.port p).core) : s.Moves (s.modPort p f) :=
  modPort (by rw [h])

/-- A change at a sending port of fields that the laws speak of only in silent states. -/
theorem modPort_sending {f : Port → Port} (sends : (s.port p).state.sending = true)
    (h : (f (s.port p)).core = { (s.port p).core with hush := (f (s.port p)).core.hush }) : s.Moves (s.modPort p f) := by
  apply modPort_same
  have state : (f (s.port p)).state = (s.port p).state := congrArg Core.state h
  rw [h, Port.hush_of_sending (state ▸ sends), ← Port.hush_of_sending sends]

/-- A change that may silence a port further. -/
theorem modPort_quiet {f : Port → Port} (h : (f (s.port p)).core = { (s.port p).core with hush := (f (s.port p)).core.hush })
    (quiet : (s.port p).core.hush = true → (f (s.port p)).core.hush = true) : s.Moves (s.modPort p f) :=
  modPort_move (h ▸ .quiet _ quiet)

theorem withMonitor (s : State) (m : Monitor) : s.Moves (s.withMonitor m) := of_ports (.withMonitor ..) fun _ => rfl

theorem withdrawPort (s : State) (p : Fin 32) : s.Moves (s.withdrawPort p) := of_ports (.withdrawPort ..) fun _ => rfl

theorem modLane (s : State) (g : Fin 128) (f : Lane → Lane) : s.Moves (s.modLane g f) := modPort_same rfl

theorem foldl {α : Type} (f : State → α → State) (hf : ∀ (s : State) a, s.Moves (f s a)) (l : List α) (s : State) :
    s.Moves (l.foldl f s) := by
  induction l generalizing s with
  | nil => exact refl s
  | cons a rest ih => exact (hf s a).trans (ih _)

/-! ## Bring-up -/

theorem fail (sends : (s.port p).state.sending = true) (c : Cause) (n : Nat) (l : Option (Fin 4)) :
    s.Moves (s.fail p c n l) :=
  (modPort_move (.of_fail _ _ sends c n l)).trans (withdrawPort ..)

theorem examineLanes (s : State) (p : Fin 32) : s.Moves (s.examineLanes p) := by
  unfold State.examineLanes
  dsimp only
  split
  · next at_ =>
    split
    · exact refl s
    · exact modPort_move (.of_enterAlign _ _ at_)
    · exact fail (by rw [at_]; rfl) _ _ _
  · exact refl s

theorem enterLaneLock (past : (s.port p).core.pastSideband) : s.Moves (s.enterLaneLock p) :=
  (modPort_move (.of_enterLaneLock _ _ past)).trans (examineLanes ..)

theorem enterVerify (past : (s.port p).core.pastSideband ∨ ∃ n, (s.port p).state = .held .align n) :
    s.Moves (s.enterVerify p) := modPort_move (.of_enterVerify _ _ past _ _)

theorem goOn (past : (s.port p).core.pastSideband) (n : NextStep) : s.Moves (s.goOn p n) := by
  cases n
  · exact enterLaneLock past
  · exact enterVerify (.inl past)
  · exact refl s

/-- SIDEBAND is completed (R32): its timer stops, and the port is held or goes on. -/
theorem completeSideband (at_ : (s.port p).state = .sideband) (current : (s.port p).neighbor.status = .current) :
    s.Moves (s.completeSideband p) := by
  unfold State.completeSideband
  dsimp only
  have stop : s.Moves (s.modPort p fun pt => { pt with stageTimer := .stopped }) :=
    modPort_sending (by rw [at_]; rfl) rfl
  refine stop.trans ?_
  have past : ((s.modPort p fun pt => { pt with stageTimer := .stopped }).port p).core.pastSideband :=
    .inl ⟨by simpa [Port.core] using at_, by simpa [Port.core] using current⟩
  split
  · refine modPort_move (.holdSideband _ ?_ ?_)
    · simpa [Port.core] using at_
    · simpa [Port.core] using current
  · exact goOn past _

theorem completeBurst (at_ : (s.port p).state = .verify .ranging) : s.Moves (s.completeBurst p) := by
  unfold State.completeBurst
  exact modPort_move (.of_fallDue _ at_ _ _ _)

theorem checkBurst (s : State) (p : Fin 32) : s.Moves (s.checkBurst p) := by
  unfold State.checkBurst
  split
  · next h => exact completeBurst h.1
  · exact refl s

theorem peerRestart (sends : (s.port p).state.sending = true) : s.Moves (s.peerRestart p) :=
  (modPort_move (.of_peerRestart _ _ sends)).trans (withdrawPort ..)

theorem fenceRestart (engaged : (s.port p).state.engaged = true) : s.Moves (s.fenceRestart p) :=
  ((modPort_move (.of_fenceRestart _ _ engaged)).trans (withdrawPort ..)).trans (examineLanes ..)

theorem realign (engaged : (s.port p).state.engaged = true) (lost : Fin 4 → Bool) : s.Moves (s.realign p lost) := by
  have start : s.Moves (s.modPort p (Port.realign s.params lost)) := modPort_move (.of_realign _ _ engaged lost)
  unfold State.realign
  dsimp only
  split
  · exact start.trans (fail (by rw [State.port_modPort_self]; rfl) _ _ _)
  · exact start

theorem release (s : State) (p : Fin 32) : s.Moves (s.release p) := by
  unfold State.release
  split
  · next n at_ => exact goOn (.inr ⟨n, at_⟩) _
  · next n at_ => exact enterVerify (.inr ⟨n, at_⟩)
  · next n at_ => exact modPort (Core.Move.of_release _ ⟨n, at_⟩ _)
  all_goals exact refl s

/-! ## Lanes -/

theorem placeStep (s : State) (p : Fin 32) (l : Fin 4) : s.Moves (s.placeStep p l) :=
  (modPort_same rfl).trans (withMonitor ..)

theorem resumeSearch (s : State) (p : Fin 32) (l : Fin 4) : s.Moves (s.resumeSearch p l) := by
  unfold State.resumeSearch
  split
  · exact placeStep ..
  · exact refl s

theorem deliver (s : State) (p : Fin 32) (l : Fin 4) (a : BitVec 32) (v : Nat) : s.Moves (s.deliver p l a v) :=
  (modPort_same rfl).trans (resumeSearch ..)

theorem handOn (s : State) (m : Measurement) (v : Nat) : s.Moves (s.handOn m v) := by
  unfold State.handOn
  split
  · exact (deliver ..).trans (examineLanes ..)
  · exact withMonitor ..

theorem completeMeasurement (s : State) (m : Measurement) (v : Nat) : s.Moves (s.completeMeasurement m v) :=
  (((withMonitor ..).trans (modPort_same rfl)).trans (handOn ..)).trans (withMonitor ..)

theorem acquireLock (s : State) (p : Fin 32) (l : Fin 4) : s.Moves (s.acquireLock p l) := by
  have start : s.Moves (s.modPort p fun pt => pt.modLane l (Lane.startSearch s.params)) := modPort_same rfl
  unfold State.acquireLock
  dsimp only
  split
  · exact start.trans (placeStep ..)
  · exact start

theorem serveScan (s : State) (g : Fin 128) : s.Moves (s.serveScan g) := by
  unfold State.serveScan
  split
  · exact refl s
  · exact (withMonitor ..).trans (withMonitor ..)

theorem serveRequest (s : State) (r : BringUpRequest) (rest : List BringUpRequest) : s.Moves (s.serveRequest r rest) :=
  ((withMonitor ..).trans (withMonitor ..)).trans (modLane ..)

theorem select (s : State) : s.Moves s.select.state := by
  unfold State.select
  split
  · exact refl s
  · dsimp only
    split
    · exact withMonitor ..
    · exact (withMonitor ..).trans (serveRequest ..)
    · exact (withMonitor ..).trans (serveScan ..)
    · split
      · exact (withMonitor ..).trans (serveScan ..)
      · exact (withMonitor ..).trans (serveRequest ..)

/-! ## Alignments -/

/-- The marker wait of a port in ALIGN ends, or goes on. -/
theorem checkSeen (at_ : (s.port p).state = .align) : s.Moves (s.checkSeen p) := by
  unfold State.checkSeen
  dsimp only
  split
  · exact modPort_move (Core.Move.collect (c := (s.port p).core) at_ .collecting (.inr rfl))
  · exact refl s

theorem endWait (at_ : (s.port p).state = .align) : s.Moves (s.endWait p) := by
  have dropped : s.Moves (s.modPort p Port.dropUnseen) := modPort_same rfl
  have still : ((s.modPort p Port.dropUnseen).port p).state = .align := by rw [State.port_modPort_self]; exact at_
  unfold State.endWait
  dsimp only
  split
  · exact dropped.trans (fail (by rw [still]; rfl) _ _ _)
  · exact dropped.trans (modPort_move (Core.Move.collect (c := Port.core _) still .collecting (.inr rfl)))

/-- A close in ALIGN (R124): the mask is fixed and ALIGN completed, or the next collection starts. -/
theorem closeAt (at_ : (s.port p).state = .align) : s.Moves (s.closeAt p) := by
  unfold State.closeAt
  dsimp only
  rcases (s.port p).core_closeCollection (s.expected p).base with e | e
  · have fixed : ((s.modPort p (Port.closeCollection (s.expected p).base)).port p).deskew.phase = .fixed := by
      rw [State.port_modPort_self]; exact congrArg Core.phase e
    rw [if_pos fixed]
    unfold State.completeAlign
    split
    · rw [State.modPort_modPort]
      refine modPort_move ?_
      have held : (Port.enterHeld .align .verify ((s.port p).closeCollection (s.expected p).base)).core =
          { ((s.port p).closeCollection (s.expected p).base).core with state := .held .align .verify, hush := true } := rfl
      rw [held, e]
      exact .fixHeld at_
    · unfold State.enterVerify
      rw [State.modPort_modPort]
      refine modPort_move ?_
      obtain ⟨sub, running, h, entered⟩ := ((s.port p).closeCollection (s.expected p).base).core_enterVerify s.params
        (decide (s.plan.state = .closed)) (decide ((s.expected p).kind = .unused))
      have before : ((s.port p).closeCollection (s.expected p).base).burst.running = (s.port p).core.running :=
        congrArg Core.running e
      rw [before] at h
      exact (entered.trans (by rw [e])) ▸ .fixVerify at_ sub running h
  · have collecting : ((s.modPort p (Port.closeCollection (s.expected p).base)).port p).deskew.phase = .collecting := by
      rw [State.port_modPort_self]; exact congrArg Core.phase e
    rw [if_neg (by rw [collecting]; decide)]
    exact modPort_move (e ▸ .collect at_ .collecting (.inr rfl))

/-! ## Loss of lock -/

theorem loseInLaneLock (s : State) (p : Fin 32) (lost : Fin 4 → Bool) : s.Moves (s.loseInLaneLock p lost) := by
  refine (modPort_same rfl).trans ((foldl _ (fun t l => ?_) _ _).trans (examineLanes ..))
  split
  · exact withMonitor ..
  · exact refl t

theorem loseInAlign (at_ : (s.port p).state = .align) (lost : Fin 4 → Bool) : s.Moves (s.loseInAlign p lost) := by
  have dropped : s.Moves (s.modPort p fun pt => (pt.dropLostLanes lost).failLostLanes lost) := modPort_same rfl
  have still : ((s.modPort p fun pt => (pt.dropLostLanes lost).failLostLanes lost).port p).state = .align := by
    rw [State.port_modPort_self]; exact at_
  have sends : ((s.modPort p fun pt => (pt.dropLostLanes lost).failLostLanes lost).port p).state.sending = true := by
    rw [still]; rfl
  unfold State.loseInAlign
  dsimp only
  split
  · split
    · exact dropped.trans (fail sends _ _ _)
    · exact dropped.trans (checkSeen still)
  · split
    · exact dropped.trans (fail sends _ _ _)
    · refine dropped.trans ?_
      rcases Port.core_replaceReference _ lost with e | e
      · exact modPort_same e
      · exact modPort_move (e ▸ Core.Move.collect (c := Port.core _) still .collecting (.inr rfl))
  all_goals exact dropped

theorem loseFixed (engaged : (s.port p).state.engaged = true) (lost : Fin 4 → Bool) : s.Moves (s.loseFixed p lost) := by
  unfold State.loseFixed
  dsimp only
  split
  · exact realign engaged lost
  · exact modPort_same rfl

theorem loseActive (at_ : (s.port p).state = .active) (lost : Fin 4 → Bool) : s.Moves (s.loseActive p lost) := by
  have marked : s.Moves (s.modPort p fun pt => (pt.markLostLanes lost).failLostLanes lost) := modPort_same rfl
  unfold State.loseActive
  dsimp only
  split
  · refine marked.trans (fail ?_ _ _ _)
    rw [State.port_modPort_self]
    exact (congrArg PortState.sending at_).trans rfl
  · exact marked

theorem loseLock (s : State) (p : Fin 32) (lanes : BitVec 4) : s.Moves (s.loseLock p lanes) := by
  unfold State.loseLock
  dsimp only
  split
  · exact loseInLaneLock ..
  · next at_ => exact loseInAlign at_ _
  · next at_ => exact loseFixed (by rw [at_]; rfl) _
  · next at_ => exact loseFixed (by rw [at_]; rfl) _
  · next at_ => exact loseFixed (by rw [at_]; rfl) _
  · next at_ => exact loseActive at_ _
  all_goals exact refl s

theorem stageExpired (s : State) (p : Fin 32) : s.Moves (s.stageExpired p) := by
  have counted : s.Moves (s.modPort p Port.countStageTimeout) := modPort_same rfl
  have sends : (s.port p).state.sending = true →
      ((s.modPort p Port.countStageTimeout).port p).state.sending = true := by
    rw [State.port_modPort_self]; exact id
  unfold State.stageExpired
  dsimp only
  split
  · next at_ => exact counted.trans (fail (sends (by rw [at_]; rfl)) _ _ _)
  · next at_ => exact counted.trans (fail (sends (by rw [at_]; rfl)) _ _ _)
  · next at_ => exact counted.trans (fail (sends (by rw [at_]; rfl)) _ _ _)
  all_goals exact refl s

/-! ## Frames -/

theorem advancePort (s : State) (p : Fin 32) (f : SidebandFrame) : s.Moves (s.advancePort p f) := by
  unfold State.advancePort
  dsimp only
  split
  · next at_ =>
    split
    · next h => exact completeSideband at_ h.1
    · exact refl s
  · next at_ =>
    split
    · exact modPort_move (.of_enterRanging _ at_)
    · exact refl s
  · next at_ =>
    split
    · exact modPort_move (.of_enterActive _ at_)
    · exact refl s
  all_goals exact refl s

theorem examineFrame (s : State) (p : Fin 32) (f : SidebandFrame) (d : Bool) : s.Moves (s.examineFrame p f d) := by
  unfold State.examineFrame
  split
  · next shows => exact peerRestart (PortState.sending_of_engaged (Port.engaged_of_showsRestart shows))
  · exact (modPort_same rfl).trans (advancePort ..)

theorem matchEcho (s : State) (p : Fin 32) (f : SidebandFrame) (t4 : BitVec 32) : s.Moves (s.matchEcho p f t4) := by
  unfold State.matchEcho
  split
  · exact refl s
  · exact (modPort_same rfl).trans (checkBurst ..)

/-- The record is rebuilt in SIDEBAND, or where it is CURRENT outside the engaged states. -/
theorem rebuild (sends : (s.port p).state.sending = true) (free : (s.port p).state.engaged = false)
    (open_ : (s.port p).state = .sideband ∨ (s.port p).neighbor.status = .current) (pr : Params) (i : PeerId)
    (f : SidebandFrame) : s.Moves (s.modPort p fun pt => (pt.rebuild .current i f).armSilence pr) :=
  modPort_move (.of_rebuild pr _ free open_ sends i f)

end State.Moves

end Sys2Proof.Machine

namespace Sys2Proof.Machine

open Relation (ReflTransGen)

/-! ## A verdict pass, port by port -/

/-- What a port does with its new record (R40, R163). -/
def Port.act (base : BaseFields) (pr : Params) (first : Bool) (p : Fin 32) (pt : Port) : Port :=
  match pt.verdict.cls with
  | .fail => pt.fail base pr p .verdictFail pt.state.stageCode none
  | .pass | .warn => if first then pt.accept pr else pt
  | .none => pt

theorem State.port_actOn (s : State) (first : Bool) (p q : Fin 32) :
    (s.actOn first p).port q = if q = p then (s.port p).act (s.expected p).base s.params first p else s.port q := by
  by_cases h : q = p
  · subst h
    rw [if_pos rfl]
    cases cls : (s.port q).verdict.cls with
    | fail => simp [State.actOn, Port.act, cls, State.fail]
    | none => simp [State.actOn, Port.act, cls]
    | pass => cases first <;> simp [State.actOn, Port.act, cls]
    | warn => cases first <;> simp [State.actOn, Port.act, cls]
  · rw [(State.AtPort.actOn s first p).others q h, if_neg h]

/-- A fold that changes one port after another changes each port of the list once. -/
theorem State.port_foldl {op : State → Fin 32 → State} {g : Fin 32 → Port → Port} {s : State}
    (step : ∀ t, s.Only t → ∀ p, s.Only (op t p) ∧ ∀ q, (op t p).port q = if q = p then g p (t.port p) else t.port q) :
    ∀ {l : List (Fin 32)} {t : State}, s.Only t → l.Nodup → ∀ q,
      (l.foldl op t).port q = if q ∈ l then g q (t.port q) else t.port q
  | [], _, _, _, q => by simp
  | p :: rest, t, only, nodup, q => by
    obtain ⟨fresh, nodup⟩ := List.nodup_cons.mp nodup
    obtain ⟨only', at_⟩ := step t only p
    rw [List.foldl_cons, State.port_foldl step only' nodup q, at_]
    by_cases hq : q = p
    · subst hq; simp [fresh]
    · simp [hq]

/-- In a pass each port of the set, and each partner that joins, is judged against the state before it, and acts (R166). -/
theorem State.port_verdictPass {s : State} {set : List (Fin 32)} (nodup : (s.joinPartners 32 set).Nodup) (q : Fin 32) :
    (s.verdictPass set).port q =
      if q ∈ s.joinPartners 32 set then
        Port.act (s.expected q).base s.params (s.verdictDue q) q { s.port q with verdict := s.compute q }
      else s.port q := by
  have only : s.Only ((s.joinPartners 32 set).foldl
      (fun t p => t.modPort p fun pt => { pt with verdict := s.compute p }) s) := .foldl _ (fun _ _ => .modPort ..) _ _
  have acted := State.port_foldl (op := fun t p => t.actOn (s.verdictDue p) p)
    (g := fun p pt => pt.act (s.expected p).base s.params (s.verdictDue p) p) (s := s)
    (fun t h p => ⟨h.trans (.actOn ..), fun q => by
      rw [State.port_actOn, State.expected, h.plan, h.params]; rfl⟩) only nodup q
  have written := State.port_foldl (op := fun t p => t.modPort p fun pt => { pt with verdict := s.compute p })
    (g := fun p pt => { pt with verdict := s.compute p }) (s := s)
    (fun t h p => ⟨h.trans (.modPort ..), fun q => State.port_modPort ..⟩) (.refl s) nodup q
  exact acted.trans (by rw [written]; split <;> rfl)

/-- A pass takes in its set and partners that can be judged, each once. -/
theorem State.joinPartners_spec (s : State) (n : Nat) {set : List (Fin 32)} (nodup : set.Nodup) :
    (s.joinPartners n set).Nodup ∧ (∀ p ∈ set, p ∈ s.joinPartners n set)
      ∧ ∀ p ∈ s.joinPartners n set, p ∈ set ∨ s.judgeable p = true := by
  induction n generalizing set with
  | zero => exact ⟨nodup, fun _ h => h, fun _ h => .inl h⟩
  | succ n ih =>
    unfold State.joinPartners
    split
    · exact ⟨nodup, fun _ h => h, fun _ h => .inl h⟩
    · have fresh : ∀ q ∈ allPorts.filter fun q => decide (q ∉ set) && s.judgeable q && s.namesPartner set q,
          q ∉ set ∧ s.judgeable q = true := by
        intro q hq
        simp only [List.mem_filter, Bool.and_eq_true, decide_eq_true_eq] at hq
        exact ⟨hq.2.1.1, hq.2.1.2⟩
      have joined : (set ++ allPorts.filter fun q => decide (q ∉ set) && s.judgeable q && s.namesPartner set q).Nodup :=
        List.nodup_append.mpr ⟨nodup, (List.nodup_finRange 32).filter _, fun a ha b hb e => (fresh b hb).1 (e ▸ ha)⟩
      obtain ⟨nd, sub, only⟩ := ih joined
      refine ⟨nd, fun p h => sub p (List.mem_append_left _ h), fun p h => ?_⟩
      rcases only p h with h | h
      · rcases List.mem_append.mp h with h | h
        · exact .inl h
        · exact .inr (fresh p h).2
      · exact .inr h

/-! ## What a trigger does to a port -/

theorem State.verdictDue_eq_true {s : State} {p : Fin 32} :
    s.verdictDue p = true ↔ s.plan.state = .closed ∧ ∃ taken, (s.port p).state = .verify (.planWait taken) := by
  unfold State.verdictDue
  rw [Bool.and_eq_true, decide_eq_true_eq]
  refine and_congr_right fun _ => ?_
  split
  · next taken h => exact ⟨fun _ => ⟨taken, h⟩, fun _ => rfl⟩
  · next h => exact ⟨(nomatch ·), fun ⟨taken, e⟩ => absurd e (h taken)⟩

theorem State.bearing_of_not_due {s : State} {p : Fin 32} (h : s.judgeable p = true) (due : s.verdictDue p = false) :
    (s.port p).state.bearing = true := by simpa [State.judgeable, due] using h

@[simp] theorem State.pending_compute (s : State) (p : Fin 32) : (s.compute p).pending = false := by
  unfold State.compute; dsimp only; split <;> rfl

theorem classOf_ne_none (codes : List Code) : classOf codes ≠ .none := by
  unfold classOf; split
  · simp
  · split <;> simp

theorem State.cls_compute (s : State) (p : Fin 32) : (s.compute p).cls ≠ .none := by
  unfold State.compute; dsimp only; split <;> exact classOf_ne_none _

/-- An accepted port is held at VERIFY, in READY_WAIT, or in ACTIVE (R40). -/
theorem Port.core_accept (pr : Params) (pt : Port) :
    (pt.accept pr).core = { pt.core with state := .held .verify .ready, hush := true }
      ∨ (pt.accept pr).core = { pt.core with state := .verify .readyWait, ready := true, hush := true }
      ∨ (pt.accept pr).core = { pt.core with state := .active, ready := true, retry := 0, hush := true } := by
  unfold Port.accept
  split
  · exact .inl rfl
  · exact .inr pt.core_enterReadyWait

/-- A port judged: the record is written and acted on at once. -/
theorem Core.Judged.of_act {s : State} {p : Fin 32} (closed : s.plan.state = .closed) (h : s.judgeable p = true) :
    Core.Judged s.plan p (s.port p).core
      (Port.act (s.expected p).base s.params (s.verdictDue p) p { s.port p with verdict := s.compute p }).core := by
  have judged : (s.port p).core.state.bearing = true ∨ (s.port p).core.waits := by
    cases due : s.verdictDue p with
    | true => exact .inr (State.verdictDue_eq_true.mp due).2
    | false => exact .inl (State.bearing_of_not_due h due)
  have settled := s.pending_compute p
  have passes (h : ({ s.port p with verdict := s.compute p } : Port).verdict.cls = .pass
      ∨ ({ s.port p with verdict := s.compute p } : Port).verdict.cls = .warn) :
      Core.Judged s.plan p (s.port p).core
        (if s.verdictDue p then ({ s.port p with verdict := s.compute p } : Port).accept s.params
          else { s.port p with verdict := s.compute p }).core := by
    cases due : s.verdictDue p with
    | true =>
      have waits := (State.verdictDue_eq_true.mp due).2
      rw [if_pos rfl]
      rcases Port.core_accept s.params { s.port p with verdict := s.compute p } with e | e | e
      · rw [e]; exact .held closed waits _ settled h
      · rw [e]; exact .ready closed waits _ settled h
      · rw [e]; exact .active closed waits _ settled h
    | false =>
      rw [if_neg Bool.false_ne_true]
      exact .keep closed (State.bearing_of_not_due ‹_› due) _ settled h
  unfold Port.act
  split
  · obtain ⟨state, retry, h, e⟩ := Port.core_fail (p := p) s.params { s.port p with verdict := s.compute p }
      (s.expected p).base .verdictFail (s.port p).state.stageCode none
    exact e ▸ .fail closed judged _ settled state retry h
  · exact passes (.inl ‹_›)
  · exact passes (.inr ‹_›)
  · exact absurd ‹_› (s.cls_compute p)

theorem Core.judged_verdictPass {s : State} {set : List (Fin 32)} (closed : s.plan.state = .closed) (nodup : set.Nodup)
    (judgeable : ∀ p ∈ set, s.judgeable p = true) (q : Fin 32) :
    ReflTransGen (Core.Judged s.plan q) (s.port q).core ((s.verdictPass set).port q).core := by
  obtain ⟨nd, -, from_⟩ := s.joinPartners_spec 32 nodup
  rw [State.port_verdictPass nd]
  split
  · next h => exact .single (.of_act closed ((from_ q h).elim (judgeable q) id))
  · exact .refl

theorem State.judgeable_of_bearing {s : State} {p : Fin 32} (h : (s.port p).state.bearing = true) :
    s.judgeable p = true := by simp [State.judgeable, h]

theorem Core.judged_verdictPasses (n : Nat) {s : State} {set : List (Fin 32)} (closed : s.plan.state = .closed)
    (nodup : set.Nodup) (judgeable : ∀ p ∈ set, s.judgeable p = true) (q : Fin 32) :
    ReflTransGen (Core.Judged s.plan q) (s.port q).core ((State.verdictPasses n s set).port q).core := by
  induction n generalizing s set with
  | zero => exact .refl
  | succ n ih =>
    cases set with
    | nil => exact .refl
    | cons p rest =>
      have once := Core.judged_verdictPass closed nodup judgeable q
      have only := State.Only.verdictPass s (p :: rest)
      unfold State.verdictPasses
      dsimp only
      split
      · have further := ih (s := s.verdictPass (p :: rest)) (set := (s.verdictPass (p :: rest)).bearingPorts)
          (by rw [only.plan]; exact closed) ((List.nodup_finRange 32).filter _)
          (fun r hr => State.judgeable_of_bearing (List.mem_filter.mp hr).2)
        rw [only.plan] at further
        exact once.trans further
      · exact once

/-- The ports that a trigger selects under a CLOSED plan are distinct and can be judged. -/
theorem State.judgeable_of_selected {s : State} {selected : Fin 32 → Bool} :
    ∀ p ∈ allPorts.filter fun p => s.verdictDue p || ((s.port p).state.bearing && selected p), s.judgeable p = true := by
  intro p h
  have := (List.mem_filter.mp h).2
  simp only [Bool.or_eq_true, Bool.and_eq_true] at this
  simp only [State.judgeable, Bool.or_eq_true]
  exact this.elim .inr fun h => .inl h.1

/-- A trigger at a port (R165): nothing, a pending flag, or judgements. -/
theorem Core.judged_trigger (s : State) (selected : Fin 32 → Bool) (q : Fin 32) :
    ReflTransGen (Core.Judged s.plan q) (s.port q).core ((s.trigger selected).port q).core := by
  unfold State.trigger
  split
  · next closed =>
    exact Core.judged_verdictPasses _ closed ((List.nodup_finRange 32).filter _) State.judgeable_of_selected q
  · next open_ =>
    rw [State.port_mapPorts]
    split
    · next h =>
      have e : ({ s.port q with verdict := { (s.port q).verdict with pending := true } } : Port).core =
          { (s.port q).core with verdict := { (s.port q).core.verdict with pending := true } } := rfl
      exact .single (e ▸ .pend open_ (by simpa using (Bool.and_eq_true _ _ ▸ h).1))
    · exact .refl

/-- An act on a record leaves PLAN_WAIT. -/
theorem Port.not_waits_act {base : BaseFields} {pr : Params} {p : Fin 32} {pt : Port} (h : pt.verdict.cls ≠ .none)
    (taken : Bool) : (pt.act base pr true p).state ≠ .verify (.planWait taken) := by
  have accepted : ∀ k, (pt.accept pr).core.state ≠ .verify (.planWait k) := by
    intro k
    rcases pt.core_accept pr with e | e | e <;> rw [e] <;> simp
  unfold Port.act
  split
  · obtain ⟨state, retry, h, e⟩ := pt.core_fail (p := p) pr base .verdictFail pt.state.stageCode none
    have : (pt.fail base pr p .verdictFail pt.state.stageCode none).state = state := congrArg Core.state e
    rw [this]
    rcases h with ⟨rfl, -⟩ | ⟨rfl, -⟩ <;> simp
  · exact accepted taken
  · exact accepted taken
  · contradiction

/-- No judgement leads to PLAN_WAIT. -/
theorem Core.waits_of_judged {pl : Plan} {p : Fin 32} {c d : Core} (h : Core.Judged pl p c d) (waits : d.waits) : c.waits := by
  obtain ⟨taken, at_⟩ := waits
  cases h with
  | pend => exact ⟨taken, at_⟩
  | fail _ _ _ _ state retry h => rcases h with ⟨rfl, -⟩ | ⟨rfl, -⟩ <;> simp at at_
  | keep => exact ⟨taken, at_⟩
  | held => simp at at_
  | ready => simp at at_
  | active => simp at at_

theorem Core.waits_of_chain {pl : Plan} {p : Fin 32} {c d : Core} (h : ReflTransGen (Core.Judged pl p) c d) (waits : d.waits) :
    c.waits := by
  induction h with
  | refl => exact waits
  | tail _ last ih => exact ih (Core.waits_of_judged last waits)

/-- After a trigger no verdict is due (R38, R165). -/
theorem State.noneDue_trigger (s : State) (selected : Fin 32 → Bool) : (s.trigger selected).noneDue := by
  intro q
  rw [← Bool.not_eq_true]
  intro due
  obtain ⟨closed, taken, waits⟩ := State.verdictDue_eq_true.mp due
  have closed : s.plan.state = .closed := by rwa [(State.Only.trigger s selected).plan] at closed
  have waited : (s.port q).core.waits := Core.waits_of_chain (Core.judged_trigger s selected q) ⟨taken, waits⟩
  have dueBefore : s.verdictDue q = true := State.verdictDue_eq_true.mpr ⟨closed, waited⟩
  unfold State.trigger at waits
  rw [if_pos closed] at waits
  have mem : q ∈ allPorts.filter fun p => s.verdictDue p || ((s.port p).state.bearing && selected p) := by
    simp [allPorts, dueBefore]
  revert waits mem
  have nodup := (List.nodup_finRange 32).filter fun p => s.verdictDue p || ((s.port p).state.bearing && selected p)
  change (allPorts.filter _).Nodup at nodup
  generalize allPorts.filter (fun p => s.verdictDue p || ((s.port p).state.bearing && selected p)) = set at nodup ⊢
  intro waits mem
  cases set with
  | nil => cases mem
  | cons p rest =>
    obtain ⟨nd, all, -⟩ := s.joinPartners_spec 32 nodup
    have left : ¬ ((s.verdictPass (p :: rest)).port q).core.waits := by
      rintro ⟨taken, at_⟩
      rw [State.port_verdictPass nd, if_pos (all q mem), dueBefore] at at_
      exact Port.not_waits_act (s.cls_compute q) taken at_
    unfold State.verdictPasses at waits
    dsimp only at waits
    split at waits
    · have only := State.Only.verdictPass s (p :: rest)
      refine left (Core.waits_of_chain (Core.judged_verdictPasses 32 (by rw [only.plan]; exact closed)
        ((List.nodup_finRange 32).filter _) (fun r hr => State.judgeable_of_bearing (List.mem_filter.mp hr).2) q) ⟨taken, waits⟩)
    · exact left ⟨taken, waits⟩

end Sys2Proof.Machine

namespace Sys2Proof.Machine

open Relation (ReflTransGen)

/-! ## What keeps a port sending -/

/-- A move keeps a sending port sending: what turns a Sideband Unit off is none. -/
theorem Core.Move.sending {pl : Plan} {dev : DeviceState} {p : Fin 32} {c d : Core} (h : Core.Move pl dev p c d)
    (sends : c.state.sending = true) : d.state.sending = true := by
  cases h with
  | fail _ state _ h => rcases h with ⟨rfl, -⟩ | ⟨rfl, -⟩ <;> rfl
  | enableOpen at_ => rw [at_] at sends; cases sends
  | quiet | collect | capture | stale | present | absent | flags => exact sends
  | _ => rfl

theorem Core.Judged.sending {pl : Plan} {p : Fin 32} {c d : Core} (h : Core.Judged pl p c d)
    (sends : c.state.sending = true) : d.state.sending = true := by
  cases h with
  | fail _ _ _ _ state _ h => rcases h with ⟨rfl, -⟩ | ⟨rfl, -⟩ <;> rfl
  | pend | keep => exact sends
  | _ => rfl

/-- A property of cores that every link of a chain keeps is kept by the chain. -/
theorem Core.keep_chain {R : Core → Core → Prop} {P : Core → Prop} (step : ∀ c d, R c d → P c → P d) {c d : Core}
    (h : ReflTransGen R c d) (start : P c) : P d := by
  induction h with
  | refl => exact start
  | tail _ last ih => exact step _ _ last ih

theorem State.Moves.sending {s t : State} {p : Fin 32} (h : s.Moves t) (sends : (s.port p).state.sending = true) :
    (t.port p).state.sending = true :=
  Core.keep_chain (P := fun c => c.state.sending = true) (fun _ _ => Core.Move.sending) (h.chain p) sends

theorem State.sending_trigger {s : State} {p : Fin 32} (selected : Fin 32 → Bool) (sends : (s.port p).state.sending = true) :
    ((s.trigger selected).port p).state.sending = true :=
  Core.keep_chain (P := fun c => c.state.sending = true) (fun _ _ => Core.Judged.sending)
    (Core.judged_trigger s selected p) sends

/-! ## Runs: what an event does before its conclusion -/

/-- `t` is reached from `s` by moves, by turning Sideband Units off, and by verdict triggers. -/
inductive State.Run (s : State) : State → Prop
  | refl : Run s s
  | moves {t u : State} (h : Run s t) (k : t.Moves u) : Run s u
  | off {t : State} (h : Run s t) (p : Fin 32) (f : Port → Port) (k : Core.Off (t.port p).core (f (t.port p)).core) :
      Run s (t.modPort p f)
  | trigger {t : State} (h : Run s t) (selected : Fin 32 → Bool) : Run s (t.trigger selected)

namespace State.Run

variable {s t u : State} {p : Fin 32}

theorem of_moves (h : s.Moves t) : s.Run t := .moves .refl h

theorem trans (h : s.Run t) (k : t.Run u) : s.Run u := by
  induction k with
  | refl => exact h
  | moves _ k ih => exact .moves ih k
  | off _ p f k ih => exact .off ih p f k
  | trigger _ sel ih => exact .trigger ih sel

theorem only (h : s.Run t) : s.Only t := by
  induction h with
  | refl => exact .refl s
  | moves _ k ih => exact ih.trans k.only
  | off _ p f _ ih => exact ih.trans (.modPort ..)
  | trigger _ sel ih => exact ih.trans (.trigger ..)

/-- What a run does at one port: moves, turning off, judgements. -/
theorem chain (h : s.Run t) (p : Fin 32) :
    ReflTransGen (fun c d => Core.Move s.plan s.mli.device p c d ∨ Core.Off c d ∨ Core.Judged s.plan p c d)
      (s.port p).core (t.port p).core := by
  induction h with
  | refl => exact .refl
  | moves h k ih =>
    have links := k.chain p
    rw [h.only.plan, h.only.mli] at links
    exact ih.trans (links.lift id fun _ _ => .inl)
  | off _ q f k ih =>
    by_cases hp : p = q
    · subst hp
      rw [State.port_modPort_self]
      exact ih.tail (.inr (.inl k))
    · rw [State.port_modPort_other _ _ hp]
      exact ih
  | @trigger t h sel ih =>
    have links := Core.judged_trigger t sel p
    rw [h.only.plan] at links
    exact ih.trans (links.lift id fun _ _ h => .inr (.inr h))

theorem foldl {α : Type} (f : State → α → State) (hf : ∀ (s : State) a, s.Run (f s a)) (l : List α) (s : State) :
    s.Run (l.foldl f s) := by
  induction l generalizing s with
  | nil => exact .refl
  | cons a rest ih => exact (hf s a).trans (ih _)

theorem verdicts (h : s.Run t) (before : State) (own : Fin 32 → Bool) : s.Run (t.verdicts before own) := h.trigger _

/-! ## Turning off -/

theorem remove (sends : (s.port p).state.sending = true) :
    s.Run ((s.modPort p (Port.settlePresence false)).remove p) := by
  unfold State.remove
  rw [State.modPort_modPort]
  exact .moves (.off .refl p _ (.of_remove _ sends)) (.withdrawPort ..)

theorem restart (other : (s.port p).state ≠ .disabled) : s.Run (s.restart p) := by
  unfold State.restart
  rcases Core.of_restart (pl := s.plan) (dev := s.mli.device) (p := p) s.params (s.port p) other with m | off
  · exact of_moves ((State.Moves.modPort_move m).trans (.withdrawPort ..))
  · exact .moves (.off .refl p _ off) (.withdrawPort ..)

/-- One selected port takes its new flags: it is disabled, enabled, fence-restarted, or its lanes rest by them (R55, R56). -/
theorem controlPort (s : State) (clear set : BitVec 6) (p : Fin 32) : s.Run (s.controlPort clear set p) := by
  have flags (lanes : Table Lane 4) (h) :
      Core.Move s.plan s.mli.device p (s.port p).core
        ({ s.port p with flags := newFlags (s.port p).flags clear set, lanes := lanes }).core := .of_flags _ _ lanes h
  have stored (changed : Bool) : (fun pt : Port => ({ pt with flags := newFlags pt.flags clear set }).storeFences changed) =
      fun pt => { pt with
        flags := newFlags pt.flags clear set
        lanes := (({ pt with flags := newFlags pt.flags clear set }).storeFences changed).lanes } :=
    funext fun pt => Port.storeFences_eq ..
  unfold State.controlPort
  simp only [State.port_modPort_self]
  split
  · next off =>
    have off : (newFlags (s.port p).flags clear set).getLsbD 0 = false := by simpa [Port.adminEnable] using off
    split
    · next at_ =>
      rw [State.modPort_modPort, stored]
      exact of_moves (.modPort_move (flags _ (.inl ⟨at_, .inl off⟩)))
    · unfold State.disable
      rw [State.modPort_modPort]
      exact .moves (.off .refl p _ (.of_disable (s.port p) (newFlags (s.port p).flags clear set) off)) (.withdrawPort ..)
  · next on =>
    have on : (newFlags (s.port p).flags clear set).getLsbD 0 = true := by simpa [Port.adminEnable] using on
    split
    · rw [State.modPort_modPort, stored]
      split
      · next h =>
        rw [State.modPort_modPort]
        exact of_moves (.modPort_move (.of_enable _ _ h.1 h.2 _ _ on))
      · next h =>
        refine of_moves (.modPort_move (flags _ ?_))
        by_cases at_ : (s.port p).state = .disabled
        · have off : s.mli.device ≠ .running := fun run => h ⟨at_, run⟩
          exact .inl ⟨at_, .inr (by cases hd : s.mli.device <;> simp_all)⟩
        · exact .inr ⟨on, .inr at_⟩
    · next was =>
      have was : (s.port p).adminEnable = true := by simpa using was
      have first : s.Moves (s.modPort p fun pt => { pt with flags := newFlags pt.flags clear set }) :=
        .modPort_move (flags _ (.inr ⟨on, .inl was⟩))
      split
      · split
        · next inside =>
          refine of_moves (first.trans (.fenceRestart ?_))
          rw [State.port_modPort_self]
          exact Port.engaged_of_inLaneStages inside
        · rw [State.modPort_modPort]
          exact of_moves (.modPort_move (flags _ (.inr ⟨on, .inl was⟩)))
      · exact of_moves first

/-! ## Frames -/

theorem examineEntry (s : State) (p : Fin 32) (f : SidebandFrame) (d : Bool) : s.Run (s.examineEntry p f d) := by
  rcases s.examineEntry_cases p f d with ⟨-, e⟩ | ⟨-, e⟩ <;> rw [e]
  · exact of_moves (.examineFrame ..)
  · exact .moves (.trigger .refl _) (.examineFrame ..)

theorem sending_examineEntry {s : State} {p : Fin 32} (sends : (s.port p).state.sending = true) (f : SidebandFrame)
    (d : Bool) : ((s.examineEntry p f d).port p).state.sending = true := by
  rcases s.examineEntry_cases p f d with ⟨-, e⟩ | ⟨-, e⟩ <;> rw [e]
  · exact (State.Moves.examineFrame ..).sending sends
  · exact (State.Moves.examineFrame ..).sending (State.sending_trigger _ sends)

/-- A replacement comes to a CURRENT record: a port past SIDEBAND restarts first (R73). -/
theorem replaceRecord (sends : (s.port p).state.sending = true) (current : (s.port p).neighbor.status = .current)
    (i : PeerId) (f : SidebandFrame) :
    s.Run (s.replaceRecord p i f) ∧ ((s.replaceRecord p i f).port p).state.sending = true := by
  unfold State.replaceRecord
  split
  · have at_ : ((s.peerRestart p).port p).state = .sideband := by
      rw [State.peerRestart, State.port_withdrawPort, State.port_modPort_self]; rfl
    have m : s.Moves ((s.peerRestart p).modPort p fun pt => (pt.rebuild .current i f).armSilence s.params) :=
      (State.Moves.peerRestart sends).trans (.rebuild (by rw [at_]; rfl) (by rw [at_]; rfl) (.inl at_) ..)
    exact ⟨of_moves m, m.sending sends⟩
  · next calm =>
    have free : (s.port p).state.engaged = false := by
      rw [← Bool.not_eq_true]
      intro engaged
      refine calm ?_
      unfold Port.showsRestart
      cases hs : (s.port p).state with
      | verify sub => cases sub with
        | planWait taken => cases taken <;> simp
        | _ => simp
      | held stage _ => cases stage <;> simp
      | laneLock | align | active => simp
      | _ => rw [hs] at engaged; cases engaged
    have m : s.Moves (s.modPort p fun pt => (pt.rebuild .current i f).armSilence s.params) :=
      .rebuild sends free (.inr current) ..
    exact ⟨(of_moves m).trans (examineEntry ..), sending_examineEntry (m.sending sends) ..⟩

theorem refreshRecord (sends : (s.port p).state.sending = true) (f : SidebandFrame) :
    s.Run (s.refreshRecord p f) ∧ ((s.refreshRecord p f).port p).state.sending = true := by
  have m : s.Moves (s.modPort p fun pt => Port.armSilence s.params { pt with neighbor := pt.neighbor.refresh f }) :=
    .modPort_sending sends rfl
  unfold State.refreshRecord
  dsimp only
  split
  · exact ⟨.moves (.trigger (of_moves m) _) (.examineFrame ..),
      (State.Moves.examineFrame ..).sending (State.sending_trigger _ (m.sending sends))⟩
  · exact ⟨of_moves (m.trans (.examineFrame ..)), (State.Moves.examineFrame ..).sending (m.sending sends)⟩

/-- A valid frame at a port in a sending state (R66 to R76), which goes on sending. -/
theorem takeFrame (sends : (s.port p).state.sending = true) (i : PeerId) (f : SidebandFrame) :
    s.Run (s.takeFrame p i f) ∧ ((s.takeFrame p i f).port p).state.sending = true := by
  have counted : s.Moves (s.modPort p fun pt => { pt.countValidFrame with rx := none }) := .modPort_sending sends rfl
  have sends := counted.sending sends
  unfold State.takeFrame
  dsimp only
  generalize s.modPort p (fun pt => { pt.countValidFrame with rx := none }) = s' at counted sends ⊢
  suffices h : s'.Run _ ∧ _ from ⟨(of_moves counted).trans h.1, h.2⟩
  have reception : (s'.port p).reception i = .capture ∧ (s'.port p).state = .sideband
      ∨ (s'.port p).reception i = .refresh
      ∨ (s'.port p).reception i = .replace ∧ (s'.port p).neighbor.status = .current
      ∨ (s'.port p).reception i = .staleSame
      ∨ (s'.port p).reception i = .staleOther ∧ (s'.port p).neighbor.status = .stale
      ∨ (s'.port p).reception i = .ignored := by
    unfold Port.reception
    dsimp only
    split
    · split <;> simp_all
    · split
      · simp_all
      · split <;> simp_all
    · split <;> simp_all
  rcases reception with ⟨e, at_⟩ | e | ⟨e, current⟩ | e | ⟨e, stale⟩ | e <;> simp only [e]
  · have m : s'.Moves (s'.modPort p fun pt => (pt.rebuild .current i f).armSilence s'.params) :=
      .rebuild sends (by rw [at_]; rfl) (.inl at_) ..
    exact ⟨(of_moves m).trans (examineEntry ..), sending_examineEntry (m.sending sends) ..⟩
  · exact refreshRecord sends f
  · exact replaceRecord sends current i f
  · have m : s'.Moves (s'.modPort p fun pt => { pt with neighbor := pt.neighbor.refresh f }) := .modPort_sending sends rfl
    exact ⟨of_moves (m.trans (.examineFrame ..)), (State.Moves.examineFrame ..).sending (m.sending sends)⟩
  · have m : s'.Moves (s'.modPort p fun pt => pt.rebuild .stale i f) := .modPort_move (.of_rebuild_stale _ stale i f)
    exact ⟨of_moves (m.trans (.examineFrame ..)), (State.Moves.examineFrame ..).sending (m.sending sends)⟩
  · exact ⟨of_moves (.examineFrame ..), (State.Moves.examineFrame ..).sending sends⟩

theorem receive (s : State) (p : Fin 32) (f : SidebandFrame) (more : BitVec 32 → State → State)
    (hm : ∀ (w : BitVec 32) (t : State), (t.port p).state.sending = true → t.Moves (more w t)) : s.Run (s.receive p f more) := by
  unfold State.receive
  split
  · exact .refl
  · next stamp on =>
    have sends := (Port.collectingFrame_eq_some.mp on).1
    split
    · next i _ =>
      obtain ⟨run, sends⟩ := takeFrame sends i f
      exact .verdicts (.moves run (hm _ _ sends)) ..
    · exact of_moves (.modPort_sending sends rfl)

end State.Run

end Sys2Proof.Machine

namespace Sys2Proof.Machine

open Relation (ReflTransGen)

/-- A selection moves no port: it marks the lane that is served (R109). -/
theorem State.state_select (s : State) (p : Fin 32) : (s.select.state.port p).state = (s.port p).state := by
  have serve : ∀ (s : State) (g : Fin 128), ((s.serveScan g).port p).state = (s.port p).state := by
    intro s g
    unfold State.serveScan
    split <;> rfl
  have request : ∀ (s : State) (r : BringUpRequest) (rest : List BringUpRequest),
      ((s.serveRequest r rest).port p).state = (s.port p).state := by
    intro s r rest
    unfold State.serveRequest State.modLane
    dsimp only
    rw [State.port_modPort]
    split
    · next e => subst e; rfl
    · rfl
  unfold State.select
  split
  · rfl
  · dsimp only
    split
    · rfl
    · exact request ..
    · exact serve ..
    · split
      · exact serve ..
      · exact request ..

/-! ## What the owning blocks do -/

theorem State.noneDue_of_same {s t : State} (plan : t.plan = s.plan) (state : ∀ p, (t.port p).state = (s.port p).state)
    (due : s.noneDue) : t.noneDue := fun p => by
  rw [← due p]
  simp only [State.verdictDue, plan, state p]

/-- What a request, or an event at a port, does before its conclusion. -/
inductive State.Answered (s : State) : State → Prop
  | run {u : State} (h : s.Run u) (due : s.noneDue → u.noneDue) : Answered s u
  | edit (pl : Plan) (state : pl.state = s.plan.state ∨ pl.state = .loading) (cache : pl.cache = s.plan.cache) :
      Answered s (s.withPlan pl)
  | close (generation : BitVec 16) : Answered s (s.closePlan generation)
  | config (pr : Params) : Answered s (s.applyConfig pr)
  | aside {u : State} (ports : u.ports = s.ports) (plan : u.plan = s.plan) (device : u.mli.device = s.mli.device) :
      Answered s u

namespace State.Answered

variable {s u : State}

theorem same (s : State) : s.Answered s := .aside rfl rfl rfl

/-- An event whose last part is a trigger leaves no verdict due. -/
theorem verdicts (h : s.Run u) (before : State) (own : Fin 32 → Bool) : s.Answered (u.verdicts before own) :=
  .run (h.verdicts before own) fun _ p => State.noneDue_trigger _ _ p

/-- A change of what decides neither that a verdict is due. -/
theorem moves (h : s.Moves u) (state : ∀ p, (u.port p).state = (s.port p).state) : s.Answered u :=
  .run (.of_moves h) (State.noneDue_of_same h.only.plan state)

theorem state_of_core {a b : Port} (h : a.core = b.core) : a.state = b.state := congrArg Core.state h

theorem modPort_same {p : Fin 32} {f : Port → Port} (h : (f (s.port p)).core = (s.port p).core) : s.Answered (s.modPort p f) :=
  moves (.modPort_same h) fun q => by
    rw [State.port_modPort]
    split
    · next e => subst e; exact state_of_core h
    · rfl

theorem planBegin (s : State) (payload : List Byte) : s.Answered (s.takePlanBegin payload).state := by
  unfold State.takePlanBegin
  dsimp only
  split
  · exact same s
  · split
    · exact .edit _ (.inr rfl) rfl
    · exact same s

theorem planEntry (s : State) (payload : List Byte) : s.Answered (s.takePlanEntry payload).state := by
  have write (i : Fin 32) (e : Option PlanEntry) (c : Bool) : s.Answered (s.writeEntry i e c).state := .edit _ (.inl rfl) rfl
  unfold State.takePlanEntry
  dsimp only
  split
  · exact same s
  · split
    · exact same s
    · split
      · exact same s
      · split
        · exact write ..
        · split
          · exact write ..
          · exact same s

theorem planOverride (s : State) (payload : List Byte) : s.Answered (s.takePlanOverride payload).state := by
  unfold State.takePlanOverride State.appendOverride State.deleteOverride
  dsimp only
  split
  · exact same s
  · split
    · split
      · exact same s
      · split
        · exact same s
        · exact .edit _ (.inl rfl) rfl
    · split
      · split
        · exact .edit _ (.inl rfl) rfl
        · exact same s
      · exact same s

theorem planEnd (s : State) (payload : List Byte) : s.Answered (s.takePlanEnd payload).state := by
  unfold State.takePlanEnd
  dsimp only
  split
  · exact same s
  · split
    · exact same s
    · exact .close _

theorem portControl (s : State) (payload : List Byte) : s.Answered (s.takePortControl payload).state := by
  unfold State.takePortControl
  dsimp only
  split
  · exact same s
  · exact verdicts (.foldl _ (fun _ _ => .controlPort ..) _ _) ..

/-- The ports that a request selects are restarted one after another, each as it stood. -/
theorem run_restarts {l : List (Fin 32)} {t : State} (nodup : l.Nodup) (others : ∀ p ∈ l, (t.port p).state ≠ .disabled) :
    t.Run (l.foldl State.restart t) := by
  induction l generalizing t with
  | nil => exact .refl
  | cons p rest ih =>
    obtain ⟨fresh, nodup⟩ := List.nodup_cons.mp nodup
    refine (State.Run.restart (others p (by simp))).trans (ih nodup fun q hq => ?_)
    rw [(State.AtPort.restart t p).others q fun e => fresh (e ▸ hq)]
    exact others q (by simp [hq])

theorem portRestart (s : State) (payload : List Byte) : s.Answered (s.takePortRestart payload).state := by
  unfold State.takePortRestart
  refine verdicts (run_restarts ((List.nodup_finRange 32).filter _) fun p h => ?_) ..
  have := (List.mem_filter.mp h).2
  simp only [State.restarts, Bool.and_eq_true, decide_eq_true_eq] at this
  exact this.2

theorem portRelease (s : State) (payload : List Byte) : s.Answered (s.takePortRelease payload).state :=
  verdicts (.foldl _ (fun _ _ => .of_moves (.release ..)) _ _) ..

theorem laneEq (s : State) (payload : List Byte) : s.Answered (s.takeLaneEq payload).state := by
  unfold State.takeLaneEq
  dsimp only
  split
  · exact same s
  · split
    · exact modPort_same (p := lanePort _) (f := fun pt => pt.modLane _ _) rfl
    · split
      · exact modPort_same (p := lanePort _) (f := fun pt => pt.modLane _ _) rfl
      · exact same s

theorem monitorSetup (s : State) (payload : List Byte) : s.Answered (s.takeMonitorSetup payload).state := by
  unfold State.takeMonitorSetup
  dsimp only
  split
  · exact same s
  · split
    · exact same s
    · exact .aside rfl rfl rfl

theorem monitorScan (s : State) (payload : List Byte) : s.Answered (s.takeMonitorScan payload).state := by
  unfold State.takeMonitorScan
  dsimp only
  split
  · exact same s
  · split
    · exact same s
    · split
      · exact same s
      · exact moves ((State.Moves.withMonitor ..).trans (.select _)) fun p => State.state_select _ p

theorem monitorCancel (s : State) (payload : List Byte) : s.Answered (s.takeMonitorCancel payload).state := by
  unfold State.takeMonitorCancel
  split
  · exact same s
  · exact .aside rfl rfl rfl

theorem portTrim (s : State) (payload : List Byte) : s.Answered (s.takePortTrim payload).state := by
  unfold State.takePortTrim
  dsimp only
  split
  · exact same s
  · exact modPort_same (f := fun pt => { pt with trim := min 255 (numberAt payload 1 2) }) rfl

theorem configSet (s : State) (pairs : List (Byte × BitVec 48)) : s.Answered (s.configSet pairs).state := by
  unfold State.configSet
  split
  · exact same s
  · split <;> exact .config _

theorem noticeControl (s : State) (payload : List Byte) : s.Answered (s.takeNoticeControl payload).state := by
  unfold State.takeNoticeControl
  dsimp only
  split
  · exact same s
  · exact .aside rfl rfl rfl

theorem counters (s : State) (payload : List Byte) : s.Answered (s.takeCounters payload).state := by
  unfold State.takeCounters
  dsimp only
  split
  · exact same s
  · split
    · dsimp only [takes]
      split
      · exact modPort_same rfl
      · exact same s
    · split
      · dsimp only [takes]
        split
        · exact .aside rfl rfl rfl
        · exact same s
      · exact same s

/-- What the block that owns a request does (R176). -/
theorem own (s : State) (kind : Byte) (payload : List Byte) : s.Answered (s.own kind payload).state := by
  unfold State.own
  split
  · exact planBegin ..
  · exact planEntry ..
  · exact planOverride ..
  · exact planEnd ..
  · rw [s.state_planRead]; exact same s
  · exact portControl ..
  · exact portRestart ..
  · exact portRelease ..
  · exact laneEq ..
  · exact monitorSetup ..
  · exact monitorScan ..
  · exact monitorCancel ..
  · rw [s.state_monitorRead]; exact same s
  · exact portTrim ..
  · exact same s
  · exact configSet ..
  · rw [s.state_configGet]; exact same s
  · exact same s
  · exact noticeControl ..
  · rw [s.state_portStatus]; exact same s
  · rw [s.state_neighborRead]; exact same s
  · rw [s.state_find]; exact same s
  · exact counters ..
  · exact same s

theorem answer (s : State) (f : Frame) : s.Answered (s.answer f).state := by
  unfold State.answer
  split
  · exact same s
  · split
    · exact same s
    · exact own ..

end State.Answered

end Sys2Proof.Machine

namespace Sys2Proof.Machine

open Relation (ReflTransGen)

/-! ## What a step can be -/

/-- What one command does: an event at a port with its conclusion, an arriving frame, the end of a frame, a reset, or a change of
the framer and the frame-error counter alone. -/
inductive State.Occurs (s : State) : State → Prop
  | event {u : State} (limits done : List Notice) (h : s.Answered u) (only : s.Only u) : Occurs s (s.finish u limits done)
  | arrive (f : Frame) : Occurs s (s.hunt.arrive f)
  | sent : Occurs s s.frameSent
  | aside (framer : Framer) (gap : Timer) (errors : Nat) :
      Occurs s { s with mli := { s.mli with framer := framer, gapTimer := gap }, frameErrors := errors }
  | reset : Occurs s s.powerOnReset

namespace State.Occurs

variable {s t u : State} {p : Fin 32}

theorem none (s : State) : s.Occurs s := .aside s.mli.framer s.mli.gapTimer s.frameErrors

theorem of_run (h : s.Run u) : s.Occurs (s.event u) := .event [] [] (.verdicts h ..) (h.only.trans (.verdicts ..))

theorem of_moves (h : s.Moves u) : s.Occurs (s.event u) := of_run (.of_moves h)

theorem selecting (h : s.Run u) (limits : List Notice) : s.Occurs (s.eventSelecting u limits) :=
  .event _ _ (.verdicts (h.moves (.select u)) ..) ((h.only.trans (.select u)).trans (.verdicts ..))

theorem discard (s : State) : s.Occurs s.discard := .aside _ _ _

theorem discardCollected (s : State) : s.Occurs s.discardCollected := by
  unfold State.discardCollected
  split
  · exact none s
  · exact discard s

theorem receiveByte (s : State) (b : Byte) (stopHigh : Bool) : s.Occurs (s.receiveByte b stopHigh) := by
  unfold State.receiveByte
  split
  · split
    · exact .aside _ _ s.frameErrors
    · exact none s
  · split
    · unfold State.takeBytes
      split
      · exact none s
      · split
        · exact discard s
        · split
          · exact .aside _ _ s.frameErrors
          · split
            · exact .arrive _
            · exact discard s
    · exact discard s

theorem presenceAsserted (h : execPresenceSettledAsserted p s = .next t) : s.Occurs t := by
  unfold execPresenceSettledAsserted at h
  split at h
  · cases h
    refine of_moves ?_
    by_cases at_ : (s.port p).state = .waitCable
    · refine .modPort_move (f := fun pt => if (pt.settlePresence true).state = .waitCable then
        (pt.settlePresence true).seat s.params else pt.settlePresence true) ?_
      have : ((s.port p).settlePresence true).state = .waitCable := at_
      rw [if_pos this]
      exact .of_seat _ _ at_
    · refine .modPort_move (f := fun pt => if (pt.settlePresence true).state = .waitCable then
        (pt.settlePresence true).seat s.params else pt.settlePresence true) ?_
      have : ((s.port p).settlePresence true).state ≠ .waitCable := at_
      rw [if_neg this]
      exact .present at_
  · cases h; exact none s

theorem presenceDeasserted (h : execPresenceSettledDeasserted p s = .next t) : s.Occurs t := by
  unfold execPresenceSettledDeasserted at h
  dsimp only at h
  split at h
  · cases h
    refine of_run ?_
    split
    · next sends => exact .remove sends
    · next off => exact .of_moves (.modPort_move (Core.Move.absent (c := (s.port p).core) (by rw [← Bool.not_eq_true]; exact off)))
  · cases h; exact none s

theorem silenceExpiry (h : execSilenceTimerExpiry p s = .next t) : s.Occurs t := by
  unfold execSilenceTimerExpiry at h
  dsimp only at h
  split at h
  · cases h
    have stopped : s.Moves (s.modPort p fun pt => { pt with silence := .stopped }) :=
      .modPort_quiet rfl fun h => by
        simp only [Port.core, Port.silent, Bool.or_eq_true, Bool.and_eq_true] at h ⊢
        tauto
    refine of_moves ?_
    split
    · next engaged =>
      refine stopped.trans (.fail ?_ _ _ _)
      rw [State.port_modPort_self]
      exact PortState.sending_of_engaged engaged
    · exact stopped
  · cases h; exact none s

theorem beaconExpiry (h : execBeaconTimerExpiry p s = .next t) : s.Occurs t := by
  unfold execBeaconTimerExpiry at h
  split at h
  · next running =>
    cases h
    refine of_moves (.modPort_quiet rfl fun h => ?_)
    have sends : (s.port p).state.sending = true := by
      simp only [Port.core, Port.silent, Bool.or_eq_true, Bool.and_eq_true, decide_eq_true_eq] at h
      rcases h with h | h
      · exact h
      · rw [h.1.1.1.1.1.1.1] at running; cases running
    exact Port.hush_of_sending sends
  · cases h; exact none s

theorem backoffExpiry (h : execBackoffTimerExpiry p s = .next t) : s.Occurs t := by
  unfold execBackoffTimerExpiry at h
  split at h
  · next at_ => cases h; exact of_moves (.modPort_move (.of_again _ _ at_.2 _))
  · cases h; exact none s

theorem syncFound (s : State) (p : Fin 32) : s.Occurs (s.event (s.modPort p (Port.findSync s.timestamp))) := by
  refine of_moves ?_
  rcases (s.port p).findSync_cases s.timestamp with ⟨sends, -, e⟩ | ⟨-, e⟩
  · exact .modPort_sending sends (by rw [e]; rfl)
  · exact .modPort_same (by rw [e])

theorem frameRejected (s : State) (p : Fin 32) :
    s.Occurs (s.event (s.modPort p fun pt => if pt.collectingFrame.isSome then pt.reject else pt)) := by
  refine of_moves ?_
  by_cases on : (s.port p).collectingFrame.isSome = true
  · obtain ⟨stamp, on'⟩ := Option.isSome_iff_exists.mp on
    exact .modPort_sending (Port.collectingFrame_eq_some.mp on').1 (by rw [if_pos on]; rfl)
  · exact .modPort_same (by rw [if_neg on])

theorem scheduleExpiry (h : execScheduleTimerExpiry p s = .next t) : s.Occurs t := by
  unfold execScheduleTimerExpiry at h
  split at h
  · next at_ => cases h; exact of_moves (.modPort_sending (by rw [at_.1]; rfl) (Port.core_requestProbe _))
  · cases h; exact none s

theorem probeExpiry {k : Fin 8} (h : execProbeTimeoutExpiry p k s = .next t) : s.Occurs t := by
  unfold execProbeTimeoutExpiry at h
  dsimp only at h
  split at h
  · cases h; exact of_moves ((State.Moves.modPort_same rfl).trans (.checkBurst ..))
  · cases h; exact none s

theorem lockTimerExpiry {l : Fin 4} (h : execLockTimerExpiry p l s = .next t) : s.Occurs t := by
  unfold execLockTimerExpiry at h
  split at h
  · cases h; exact of_moves ((State.Moves.modPort_same rfl).trans (.examineLanes ..))
  · cases h; exact none s

theorem markerDecoded {l k : Fin 4} {line : Bool} {n : Fin 16} {age : BitVec 16}
    (h : execMarkerDecoded p l line k n age s = .next t) : s.Occurs t := by
  unfold execMarkerDecoded at h
  dsimp only at h
  split at h
  · next at_ =>
    cases h
    have taken : (Port.takeMarker l ((s.port p).arrivesInverted l line) k n ((s.port p).markerStamp age) (s.port p)).core =
        (s.port p).core := Port.core_takeMarker ..
    refine of_moves ((State.Moves.modPort_same taken).trans (.checkSeen ?_))
    rw [State.port_modPort_self]
    exact (congrArg Core.state taken).trans at_
  · cases h; exact none s

/-- The frames of the sideband line: a PROBE adds its echo at a port that sends, an ECHO is matched with its probe. -/
theorem received (s : State) (p : Fin 32) (f : SidebandFrame) (more : BitVec 32 → State → State)
    (hm : ∀ (w : BitVec 32) (t : State), (t.port p).state.sending = true → t.Moves (more w t)) :
    s.Occurs (s.finish (s.receive p f more) [] []) := by
  have run : s.Run (s.receive p f more) := .receive s p f more hm
  refine .event [] [] (.run run fun due => ?_) run.only
  unfold State.receive
  split
  · exact due
  · split
    · exact State.noneDue_trigger _ _
    · refine State.noneDue_of_same (s := s) rfl (fun q => ?_) due
      rw [State.port_modPort]
      split
      · next e => subst e; rfl
      · rfl

/-- What a command does. -/
theorem of_exec {c : Instr} (h : exec c s = .next t) : s.Occurs t := by
  cases c with
  | powerOnReset => cases h; exact .reset
  | managementFrameError => cases h; exact discardCollected s
  | framerGapTimeout =>
    cases h
    unfold State.gapExpired
    split
    · exact discardCollected s
    · exact none s
  | lineBreak => cases h; exact .aside _ _ s.frameErrors
  | managementFrameSent => cases h; exact .sent
  | managementByteReceived b stop => cases h; exact receiveByte ..
  | presentNChange p low => cases h; exact of_moves (.modPort_same (Port.core_rawChange ..))
  | presenceSettledAsserted p => exact presenceAsserted h
  | presenceSettledDeasserted p => exact presenceDeasserted h
  | stageTimerExpiry p =>
    change execStageTimerExpiry p s = _ at h
    unfold execStageTimerExpiry at h
    split at h
    · cases h; exact of_moves (.stageExpired ..)
    · cases h; exact none s
  | backoffTimerExpiry p => exact backoffExpiry h
  | silenceTimerExpiry p => exact silenceExpiry h
  | beaconTimerExpiry p => exact beaconExpiry h
  | sidebandFrameEnd p => cases h; exact of_moves (.modPort_same (Port.core_endFrame ..))
  | syncSequenceFound p => cases h; exact syncFound s p
  | beaconReceived p f => cases h; exact received s p f _ fun _ t _ => .refl t
  | probeReceived p f =>
    cases h
    exact received s p f _ fun _ t sends => .modPort_sending sends (Port.core_placeEcho ..)
  | echoReceived p f lag => cases h; exact received s p f _ fun _ _ _ => .matchEcho ..
  | sidebandFrameRejected p => cases h; exact frameRejected s p
  | scheduleTimerExpiry p => exact scheduleExpiry h
  | probeTimeoutExpiry p k => exact probeExpiry h
  | lockAcquired p l =>
    change execLockAcquired p l s = _ at h
    unfold execLockAcquired at h
    split at h
    · cases h; exact selecting (.of_moves (.acquireLock ..)) _
    · cases h; exact none s
  | lockTimerExpiry p l => exact lockTimerExpiry h
  | measurementComplete raw =>
    change execMeasurementComplete raw s = _ at h
    unfold execMeasurementComplete at h
    dsimp only at h
    split at h
    · cases h; exact none s
    · cases h; exact selecting (.of_moves (.completeMeasurement ..)) _
  | markerDecoded p l line k n age => exact markerDecoded h
  | markerWaitExpiry p =>
    change execMarkerWaitExpiry p s = _ at h
    unfold execMarkerWaitExpiry at h
    dsimp only at h
    split at h
    · next at_ => cases h; exact of_moves (.endWait at_.1)
    · cases h; exact none s
  | collectionClose p =>
    change execCollectionClose p s = _ at h
    unfold execCollectionClose at h
    dsimp only at h
    split at h
    · next at_ => cases h; exact of_moves (.closeAt at_.1)
    · cases h; exact none s
  | lossOfLock p lanes => cases h; exact of_moves (.loseLock ..)
  | _ => cases h; exact .arrive _

end State.Occurs

/-! ## Laws that every step keeps -/

/-- Two states with the same ports, plan and device state. -/
structure State.SameBody (s t : State) : Prop where
  ports : t.ports = s.ports
  plan : t.plan = s.plan
  device : t.mli.device = s.mli.device

/-- A law of ports and plan that every step keeps: `during` is what holds of it within an event that began at the first state. -/
structure State.Law (holds : State → Prop) (during : State → State → Prop) : Prop where
  body : ∀ {s t : State}, s.SameBody t → holds s → holds t
  idle : ∀ {s : State}, holds s → holds (s.advance 1)
  deviceReset : ∀ {s : State}, holds s → holds s.deviceReset
  powerOnReset : ∀ {s : State}, holds s → holds s.powerOnReset
  answered : ∀ {s u : State}, holds s → s.Answered u → during s u
  conclude : ∀ {s u : State} (limits done : List Notice), during s u → holds (s.conclude u limits done)

namespace State.Law

variable {holds : State → Prop} {during : State → State → Prop} {s t : State}

theorem startOutbound (law : State.Law holds during) (h : holds s) : holds s.startOutbound := by
  refine law.body ⟨s.ports_startOutbound, s.plan_startOutbound, ?_⟩ h
  unfold State.startOutbound
  repeat' split
  all_goals rfl

theorem tryDispatch (law : State.Law holds during) (h : holds s) : holds s.tryDispatch := by
  unfold State.tryDispatch
  split
  · unfold State.dispatch
    split
    · exact h
    · next f rest _ =>
      have popped : holds (s.modMli fun m => { m with queue := rest }) := law.body (s := s) ⟨rfl, rfl, rfl⟩ h
      exact law.body (s := State.conclude _ _ _ _) ⟨rfl, rfl, rfl⟩ (law.conclude [] _ (law.answered popped (.answer _ f)))
  · exact h

theorem settle (law : State.Law holds during) (h : holds s) : holds s.settle :=
  law.tryDispatch (law.startOutbound (law.tryDispatch h))

theorem arrive (law : State.Law holds during) (h : holds s) (f : Frame) : holds (s.arrive f) := by
  unfold State.arrive
  split
  · exact law.settle (law.body (s := s) ⟨rfl, rfl, rfl⟩ h)
  · split
    · exact law.settle (law.body (s := s) ⟨rfl, rfl, rfl⟩ h)
    · exact law.body (s := s) ⟨rfl, rfl, rfl⟩ h

theorem frameSent (law : State.Law holds during) (h : holds s) : holds s.frameSent := by
  unfold State.frameSent
  split
  · exact h
  · split
    · exact law.deviceReset h
    · exact law.settle (law.body (s := s) ⟨rfl, rfl, rfl⟩ h)

theorem occurs (law : State.Law holds during) (h : holds s) (o : s.Occurs t) : holds t := by
  cases o with
  | event limits done a _ => exact law.startOutbound (law.conclude limits done (law.answered h a))
  | arrive f => exact law.arrive (s := s.hunt) (law.body (s := s) ⟨rfl, rfl, rfl⟩ h) f
  | sent => exact law.frameSent h
  | aside => exact law.body (s := s) ⟨rfl, rfl, rfl⟩ h
  | reset => exact law.powerOnReset h

/-- Every step keeps a law: it lets a unit of time pass, or takes the command at the front. -/
theorem step (law : State.Law holds during) (h : holds s) (taken : Machine.step s = .next t) : holds t := by
  unfold Machine.step at taken
  split at taken
  · cases taken; exact law.idle h
  · next rest _ =>
    exact law.occurs (s := { s with pending := rest }) (law.body (s := s) ⟨rfl, rfl, rfl⟩ h) (.of_exec taken)

end State.Law

end Sys2Proof.Machine

namespace Sys2Proof.Machine

open Relation (ReflTransGen)

/-! ## What the steps outside the ports' own operations do to a core -/

theorem Timer.advance_eq_stopped (n : Nat) (t : Timer) : t.advance n = .stopped ↔ t = .stopped := by
  cases t <;> simp [Timer.advance]

/-- The passing of time moves no core (log entry 2). -/
theorem Port.core_advance (n : Nat) (pt : Port) : (pt.advance n).core = pt.core := by
  have silent : (pt.advance n).silent = pt.silent := by
    simp only [Port.silent, Port.advance, Timer.advance_eq_stopped]
  exact congrArg (Core.mk _ _ _ _ _ _ _ _ _ _) (by rw [silent]; rfl)

theorem State.core_advance (s : State) (p : Fin 32) : ((s.advance 1).port p).core = (s.port p).core := by
  have : (s.advance 1).port p = (s.port p).advance 1 := Table.get_mapFin ..
  rw [this, Port.core_advance]

/-- What an effective expectation means for a port that waits in PLAN_WAIT (R38). -/
inductive Core.Met (retry : Nat) (c : Core) : Core → Prop
  | stays : Met retry c { c with retry := retry }
  | maskWait (waits : c.waits) : Met retry c { c with retry := retry, state := .verify .maskWait, hush := true }
  | ranging (waits : c.waits) : Met retry c { c with retry := retry, state := .verify .ranging, running := true, hush := true }

theorem Core.Met.verdict {retry : Nat} {c d : Core} (h : Core.Met retry c d) : d.verdict = c.verdict := by
  cases h <;> rfl

theorem Port.met_meetClose (e : Effective) (pt : Port) :
    Core.Met (clampRetry e.base pt.retryCount) pt.core (pt.meetClose e).core := by
  unfold Port.meetClose Port.releasePlanWait
  dsimp only
  split
  · next taken at_ =>
    have kept : pt.core.hush = true := Port.hush_of_sending (by rw [at_]; rfl)
    split
    · have still : ∀ x : Port, x.core = { pt.core with retry := x.retryCount, hush := x.core.hush } → x.state = pt.state →
          x.core = { pt.core with retry := x.retryCount } := fun x e state => by
        rw [e, Port.hush_of_sending (by rw [state, at_]; rfl), ← kept]
      exact still { pt with retryCount := clampRetry e.base pt.retryCount, stageTimer := pt.stageTimer.resume } rfl rfl ▸ .stays
    · unfold Port.enterMaskWait
      split
      · exact .ranging ⟨taken, at_⟩
      · exact .maskWait ⟨taken, at_⟩
  all_goals exact .stays

/-- Entry to RUNNING at a port (R30, R179). -/
inductive Core.Enabled (c : Core) : Core → Prop
  | stays (other : c.admin = false ∨ c.state ≠ .disabled) : Enabled c c
  | seated (on : c.admin = true) (at_ : c.state = .disabled) (h : c.present = true) :
      Enabled c { c with state := .sideband, retry := 0, ready := false, hush := true }
  | open_ (on : c.admin = true) (at_ : c.state = .disabled) (h : c.present = false) (x : Bool) (quiet : c.hush = true → x = true) :
      Enabled c { c with state := .waitCable, hush := x }

theorem Port.enabled_enable (pr : Params) (pt : Port) :
    Core.Enabled pt.core (if pt.adminEnable ∧ pt.state = .disabled then pt.enable pr else pt).core := by
  split
  · next h =>
    obtain ⟨on, at_⟩ := h
    unfold Port.enable
    dsimp only
    split
    · next present => exact .seated on at_ present
    · next present =>
      have off : pt.core.present = false := by rw [← Bool.not_eq_true]; exact present
      have quiet : pt.core.hush = true → pt.silent = true := by simp [Port.core, at_, PortState.sending]
      exact .open_ on at_ off _ quiet
  · next h =>
    refine .stays ?_
    by_cases on : pt.adminEnable = true
    · exact .inr fun at_ => h ⟨on, at_⟩
    · exact .inl (by rw [← Bool.not_eq_true]; exact on)

/-- The conclusion of an event at a core: the pending flag of a port that stopped being verdict-bearing is cleared (R165). -/
def Core.concluded (before c : Core) (x : Bool) : Core :=
  { c with
    verdict := if before.state.bearing && !c.state.bearing then { c.verdict with pending := false } else c.verdict
    hush := x }

theorem SidebandTx.idle_start {tx : SidebandTx} (beacon : tx.beaconWaiting = false) (probe : tx.probeWaiting = none)
    (echoes : tx.echoes = []) (fields : SidebandFrame) (now : BitVec 32) (interval : Nat) :
    tx.start fields now interval = tx := by
  apply SidebandTx.start_settled
  simp [SidebandTx.settled, beacon, probe, echoes]

theorem Port.core_conclude (before after : State) (p : Fin 32) : ∃ x, ((after.port p).core.hush = true → x = true)
    ∧ (concludePort before after p (after.port p)).core = Core.concluded (before.port p).core (after.port p).core x := by
  refine ⟨_, fun quiet => ?_, rfl⟩
  by_cases sends : (after.port p).state.sending = true
  · exact Port.hush_of_sending sends
  · have off : (after.port p).state.sending = false := by simpa using sends
    have prompt : promptDue before after p = false := by simp [promptDue, off]
    have silent : (after.port p).silent = true := by simpa [Port.core, off] using quiet
    have waiting := silent
    simp only [Port.silent, Bool.and_eq_true, Bool.not_eq_true', Option.isNone_iff_eq_none, List.isEmpty_iff] at waiting
    obtain ⟨⟨⟨⟨⟨⟨⟨-, beacon⟩, probe⟩, echoes⟩, -⟩, -⟩, -⟩, -⟩ := waiting
    have tx : (concludePort before after p (after.port p)).tx = (after.port p).tx := by
      simp only [concludePort, prompt, Bool.false_eq_true, if_false]
      exact SidebandTx.idle_start beacon probe echoes ..
    have : (concludePort before after p (after.port p)).silent = (after.port p).silent := by
      unfold Port.silent
      rw [tx]
      rfl
    exact (Bool.or_eq_true _ _).mpr (.inr (this.trans silent))

/-! ## Laws of one port -/

/-- A law of a port's core that every step keeps; `during` is what holds of it within an event that found the port as its first
core. -/
structure Core.Law (holds : Plan → DeviceState → Fin 32 → Core → Prop)
    (during : Plan → DeviceState → Fin 32 → Core → Core → Prop) : Prop where
  start : ∀ {pl dev p c}, holds pl dev p c → during pl dev p c c
  move : ∀ {pl dev p b c d}, during pl dev p b c → Core.Move pl dev p c d → during pl dev p b d
  off : ∀ {pl dev p b c d}, during pl dev p b c → Core.Off c d → during pl dev p b d
  judged : ∀ {pl dev p b c d}, during pl dev p b c → Core.Judged pl p c d → during pl dev p b d
  edit : ∀ {pl pl' dev p c}, holds pl dev p c → pl'.state = pl.state ∨ pl'.state = .loading → pl'.cache = pl.cache →
    holds pl' dev p c
  close : ∀ {pl dev p c d e} (generation : BitVec 16), holds pl dev p c →
    Core.Met (clampRetry ((pl.close generation).cache.get p).base c.retry) c d →
    ReflTransGen (Core.Judged (pl.close generation) p) d e →
    (d.state.bearing = true → d.verdict.pending = true → e.verdict.pending = false) →
    during (pl.close generation) dev p c e
  enabled : ∀ {pl p c d}, holds pl .unconfigured p c → Core.Enabled c d → during pl .running p c d
  concluded : ∀ {pl dev p} {b c : Core} (x : Bool), (c.hush = true → x = true) → during pl dev p b c →
    holds pl dev p (b.concluded c x)
  reset : ∀ {pl p} (raw : Bool), holds pl .unconfigured p (Port.reset raw).core

/-- A law that nothing breaks within an event. -/
structure Core.FirmLaw (holds : Plan → DeviceState → Fin 32 → Core → Prop) : Prop where
  move : ∀ {pl dev p c d}, holds pl dev p c → Core.Move pl dev p c d → holds pl dev p d
  off : ∀ {pl dev p c d}, holds pl dev p c → Core.Off c d → holds pl dev p d
  judged : ∀ {pl dev p c d}, holds pl dev p c → Core.Judged pl p c d → holds pl dev p d
  edit : ∀ {pl pl' dev p c}, holds pl dev p c → pl'.cache = pl.cache → holds pl' dev p c
  met : ∀ {pl dev p c d} (generation : BitVec 16), holds pl dev p c →
    Core.Met (clampRetry ((pl.close generation).cache.get p).base c.retry) c d → holds (pl.close generation) dev p d
  enabled : ∀ {pl p c d}, holds pl .unconfigured p c → Core.Enabled c d → holds pl .running p d
  concluded : ∀ {pl dev p} {b c : Core} (x : Bool), (c.hush = true → x = true) → holds pl dev p c → holds pl dev p (b.concluded c x)
  reset : ∀ {pl p} (raw : Bool), holds pl .unconfigured p (Port.reset raw).core

theorem Core.FirmLaw.law {holds : Plan → DeviceState → Fin 32 → Core → Prop} (firm : Core.FirmLaw holds) :
    Core.Law holds fun pl dev p _ c => holds pl dev p c where
  start := id
  move := firm.move
  off := firm.off
  judged := firm.judged
  edit h _ cache := firm.edit h cache
  close {pl dev p _ _ _} generation h met judged _ :=
    Core.keep_chain (P := holds (pl.close generation) dev p) (fun _ _ link h => firm.judged h link) judged
      (firm.met generation h met)
  enabled := firm.enabled
  concluded := firm.concluded
  reset := firm.reset

/-! ## From one port to the whole part -/

/-- Judged under a CLOSED plan, a port is not marked pending (R163). -/
theorem Core.Judged.settled {pl : Plan} {p : Fin 32} {c d : Core} (closed : pl.state = .closed) (h : Core.Judged pl p c d) :
    d.verdict.pending = false := by
  cases h with
  | pend open_ => exact absurd closed open_
  | _ => assumption

/-- A port that a trigger selects under a CLOSED plan is judged. -/
theorem State.settled_of_selected {s : State} {selected : Fin 32 → Bool} {p : Fin 32} (closed : s.plan.state = .closed)
    (bears : (s.port p).state.bearing = true) (sel : selected p = true) :
    ((s.trigger selected).port p).verdict.pending = false := by
  have mem : p ∈ allPorts.filter fun p => s.verdictDue p || ((s.port p).state.bearing && selected p) := by
    simp [allPorts, bears, sel]
  have nodup := (List.nodup_finRange 32).filter fun p => s.verdictDue p || ((s.port p).state.bearing && selected p)
  change (allPorts.filter _).Nodup at nodup
  unfold State.trigger
  rw [if_pos closed]
  generalize allPorts.filter (fun p => s.verdictDue p || ((s.port p).state.bearing && selected p)) = set at nodup mem ⊢
  cases set with
  | nil => cases mem
  | cons q rest =>
    obtain ⟨nd, all, -⟩ := s.joinPartners_spec 32 nodup
    have once : ((s.verdictPass (q :: rest)).port p).verdict.pending = false := by
      rw [State.port_verdictPass nd, if_pos (all p mem)]
      exact (Core.Judged.of_act closed (State.judgeable_of_bearing bears)).settled closed
    unfold State.verdictPasses
    dsimp only
    split
    · have only := State.Only.verdictPass s (q :: rest)
      have closed' : (s.verdictPass (q :: rest)).plan.state = .closed := by rw [only.plan]; exact closed
      exact Core.keep_chain (P := fun c => c.verdict.pending = false) (fun _ _ link _ => link.settled closed')
        (Core.judged_verdictPasses 32 closed' ((List.nodup_finRange 32).filter _)
          (fun r hr => State.judgeable_of_bearing (List.mem_filter.mp hr).2) p) once
    · exact once

namespace Core.Law

variable {holds : Plan → DeviceState → Fin 32 → Core → Prop} {during : Plan → DeviceState → Fin 32 → Core → Core → Prop}

/-- The ports meet a plan close, and are judged (R15, R17, R169). -/
theorem closePlan (law : Core.Law holds during) {s : State} (h : ∀ p, holds s.plan s.mli.device p (s.port p).core)
    (generation : BitVec 16) (p : Fin 32) :
    during (s.closePlan generation).plan (s.closePlan generation).mli.device p (s.port p).core
      ((s.closePlan generation).port p).core := by
  have only : ((s.withPlan (s.plan.close generation)).mapPorts fun p pt =>
      pt.meetClose ((s.plan.close generation).cache.get p)).Only (s.closePlan generation) := .verdicts ..
  rw [only.plan, only.mli]
  have port : ((s.withPlan (s.plan.close generation)).mapPorts fun p pt =>
      pt.meetClose ((s.plan.close generation).cache.get p)).port p =
      (s.port p).meetClose ((s.plan.close generation).cache.get p) := State.port_mapPorts ..
  have met := Port.met_meetClose ((s.plan.close generation).cache.get p) (s.port p)
  rw [← port] at met
  refine law.close generation (h p) met (Core.judged_trigger ((s.withPlan (s.plan.close generation)).mapPorts fun p pt =>
    pt.meetClose ((s.plan.close generation).cache.get p)) _ p) fun bears pending => ?_
  refine State.settled_of_selected rfl bears ?_
  have kept := met.verdict
  have pending : (s.port p).verdict.pending = true := by
    rw [kept] at pending; exact pending
  simp [pending]

theorem applyConfig (law : Core.Law holds during) {s : State} (h : ∀ p, holds s.plan s.mli.device p (s.port p).core)
    (pr : Params) (p : Fin 32) :
    during (s.applyConfig pr).plan (s.applyConfig pr).mli.device p (s.port p).core ((s.applyConfig pr).port p).core := by
  unfold State.applyConfig
  dsimp only
  split
  · next entered =>
    have off : s.mli.device = .unconfigured := entered.1
    have port : ((s.modMli fun m => { m with params := pr }).enterRunning.port p) =
        if (s.port p).adminEnable ∧ (s.port p).state = .disabled then (s.port p).enable pr else s.port p :=
      State.port_mapPorts ..
    rw [port]
    exact law.enabled (off ▸ h p) (Port.enabled_enable pr (s.port p))
  · exact law.start (h p)

theorem run (law : Core.Law holds during) {s u : State} (h : ∀ p, holds s.plan s.mli.device p (s.port p).core)
    (run : s.Run u) (p : Fin 32) : during u.plan u.mli.device p (s.port p).core (u.port p).core := by
  rw [run.only.plan, run.only.mli]
  refine Core.keep_chain (P := during s.plan s.mli.device p (s.port p).core) (fun _ _ link h => ?_) (run.chain p)
    (law.start (h p))
  rcases link with move | off | judged
  · exact law.move h move
  · exact law.off h off
  · exact law.judged h judged

/-- A law of one port's core is a law of the whole part. -/
theorem state (law : Core.Law holds during) :
    State.Law (fun s => ∀ p, holds s.plan s.mli.device p (s.port p).core)
      (fun s u => ∀ p, during u.plan u.mli.device p (s.port p).core (u.port p).core) where
  body same h p := by
    rw [same.plan, same.device, State.port, same.ports]
    exact h p
  idle h p := by
    rw [State.core_advance]
    exact h p
  deviceReset {s} _ p := by
    have : s.deviceReset.port p = Port.reset (s.port p).rawPresent := Table.get_mapFin ..
    rw [this]
    exact law.reset _
  powerOnReset {s} _ p := by
    have : s.powerOnReset.port p = Port.reset (s.port p).rawPresent := Table.get_mapFin ..
    rw [this]
    exact law.reset _
  answered h a p := by
    cases a with
    | run r => exact law.run h r p
    | edit pl state cache => exact law.start (law.edit (h p) state cache)
    | close generation => exact law.closePlan h generation p
    | config pr => exact law.applyConfig h pr p
    | aside ports plan device =>
      rw [plan, device, State.port, State.port, ports]
      exact law.start (h p)
  conclude limits done h p := by
    obtain ⟨x, quiet, e⟩ := Port.core_conclude _ _ p
    rw [State.port_conclude, e]
    exact law.concluded x quiet (h p)

end Core.Law

end Sys2Proof.Machine

namespace Sys2Proof.Machine

/-! ## Retry counts (R45) -/

/-- The largest retry count that a record allows. -/
def BaseFields.retryRoom (b : BaseFields) : Nat :=
  match b.recovery with
  | .auto => b.retryLimit
  | .manual => 0

theorem clampRetry_le (b : BaseFields) (n : Nat) : clampRetry b n ≤ b.retryRoom := by
  unfold clampRetry BaseFields.retryRoom
  cases b.recovery with
  | manual => exact Nat.le_refl 0
  | auto => exact Nat.min_le_right ..

/-- A recovery raises the count below the limit alone. -/
theorem Core.recovers.le {base : BaseFields} {c : Core} {state : PortState} {retry : Nat} (h : c.recovers base state retry)
    (le : c.retry ≤ base.retryRoom) : retry ≤ base.retryRoom := by
  rcases h with ⟨-, rfl⟩ | ⟨-, auto, lt, rfl⟩
  · exact le
  · simpa [BaseFields.retryRoom, auto] using lt

def Core.retryHolds (pl : Plan) (_ : DeviceState) (p : Fin 32) (c : Core) : Prop := c.retry ≤ (pl.cache.get p).base.retryRoom

theorem Core.firm_retryHolds : Core.FirmLaw Core.retryHolds where
  move h m := by
    cases m with
    | fail _ _ _ r => exact r.le h
    | active | seat | enableSeated | restartSeated => exact Nat.zero_le _
    | _ => exact h
  off h m := by cases m <;> exact Nat.zero_le _
  judged h m := by
    cases m with
    | fail _ _ _ _ _ _ r => exact r.le h
    | active => exact Nat.zero_le _
    | _ => exact h
  edit h cache := by rw [Core.retryHolds, cache]; exact h
  met _ _ m := by cases m <;> exact clampRetry_le ..
  enabled h m := by
    cases m with
    | seated => exact Nat.zero_le _
    | _ => exact h
  concluded _ _ h := h
  reset _ := Nat.zero_le _

theorem State.retryLaw_iff (s : State) :
    s.retryLaw ↔ ∀ p, Core.retryHolds s.plan s.mli.device p (s.port p).core := Iff.rfl

/-- Settles O6: a failure raises a count only below its record's limit, and a plan close clamps it to the new one. -/
theorem retryCountStaysWithinItsLimit : Obligations.RetryCountStaysWithinItsLimit := by
  intro s t h taken
  rw [State.retryLaw_iff] at h ⊢
  exact Core.firm_retryHolds.law.state.step h taken

/-! ## Stages and their units (R33, R37, R39, R116, R133) -/

def Core.stageHolds (_ : Plan) (_ : DeviceState) (_ : Fin 32) (c : Core) : Prop :=
  (c.state = .align ↔ c.phase = .markerWait ∨ c.phase = .collecting)
    ∧ (c.phase = .fixed → c.state.afterAlign = true)
    ∧ (c.running = true ↔ c.state = .verify .ranging)

/-- A departed port has nothing of an alignment or a burst, in any state but ALIGN and RANGING. -/
theorem Core.stageHolds_departed {pl : Plan} {dev : DeviceState} {p : Fin 32} {c : Core} (idle : c.phase = .idle)
    (still : c.running = false) (align : c.state ≠ .align) (ranging : c.state ≠ .verify .ranging) :
    Core.stageHolds pl dev p c := by
  simp [Core.stageHolds, idle, still, align, ranging]

theorem Core.ranging_iff_of_enters {before run : Bool} {sub : VerifySub} (still : before = false)
    (h : entersVerify before sub run) : run = true ↔ PortState.verify sub = .verify .ranging := by
  rcases h with ⟨rfl | rfl, rfl⟩ | ⟨rfl, rfl⟩ <;> simp [still]

/-- The states that own no alignment and no burst. -/
def PortState.plain : PortState → Bool
  | .align | .verify .ranging => false
  | _ => true

/-- A change of state alone between plain states, which leaves a state that a fixed mask may stand in for another such. -/
theorem Core.stageHolds.of_plain {pl : Plan} {dev : DeviceState} {p : Fin 32} {c : Core} {st : PortState}
    (h : Core.stageHolds pl dev p c) (at_ : c.state = st) (plain : st.plain = true) (st' : PortState) (plain' : st'.plain = true)
    (after : st.afterAlign = true → st'.afterAlign = true) {d : Core} (state : d.state = st')
    (phase : d.phase = c.phase) (run : d.running = c.running) : Core.stageHolds pl dev p d := by
  obtain ⟨align, fixed, running⟩ := h
  have apart : ∀ {x : PortState}, x.plain = true → x ≠ .align ∧ x ≠ .verify .ranging := by
    rintro x hx
    exact ⟨fun e => by simp [e, PortState.plain] at hx, fun e => by simp [e, PortState.plain] at hx⟩
  simp_all [Core.stageHolds]

theorem Core.firm_stageHolds : Core.FirmLaw Core.stageHolds where
  move {pl dev p c d} h m := by
    have ⟨align, fixed, running⟩ := h
    cases m with
    | fail _ state _ r => rcases r with ⟨rfl, -⟩ | ⟨rfl, -⟩ <;> exact Core.stageHolds_departed rfl rfl nofun nofun
    | peerRestart | fence | restartSeated => exact Core.stageHolds_departed rfl rfl nofun nofun
    | verify past sub run e =>
      have still : c.running = false ∧ c.state ≠ .align := by
        rw [← Bool.not_eq_true, running]
        rcases past with (⟨at_, -⟩ | ⟨n, at_⟩) | ⟨n, at_⟩ <;> simp [at_]
      exact ⟨⟨nofun, fun h => absurd (align.mpr h) still.2⟩, fun _ => rfl, Core.ranging_iff_of_enters still.1 e⟩
    | fixVerify at_ sub run e =>
      have still : c.running = false := by rw [← Bool.not_eq_true, running, at_]; simp
      exact ⟨⟨nofun, nofun⟩, fun _ => rfl, Core.ranging_iff_of_enters still e⟩
    | fixHeld at_ => exact ⟨⟨nofun, nofun⟩, fun _ => rfl, by simp [running, at_]⟩
    | align at_ => exact ⟨⟨fun _ => .inl rfl, fun _ => rfl⟩, nofun, by simp [running, at_]⟩
    | collect at_ phase h =>
      exact ⟨⟨fun _ => h, fun _ => at_⟩, fun fixed => (by rcases h with rfl | rfl <;> cases fixed), running⟩
    | realign => exact ⟨⟨fun _ => .inl rfl, fun _ => rfl⟩, nofun, ⟨nofun, nofun⟩⟩
    | ranging at_ => exact ⟨⟨nofun, fun h => by rw [align.mpr h] at at_; cases at_⟩, fun _ => rfl, ⟨fun _ => rfl, fun _ => rfl⟩⟩
    | measured at_ => exact ⟨⟨nofun, fun h => by rw [align.mpr h] at at_; cases at_⟩, fun _ => rfl, ⟨nofun, nofun⟩⟩
    | quiet | capture | stale | present | absent | flags => exact h
    | holdSideband next at_ => exact h.of_plain at_ rfl (.held .sideband next) rfl nofun rfl rfl rfl
    | laneLock past =>
      rcases past with ⟨at_, -⟩ | ⟨n, at_⟩
      · exact h.of_plain at_ rfl .laneLock rfl nofun rfl rfl rfl
      · exact h.of_plain at_ rfl .laneLock rfl nofun rfl rfl rfl
    | active at_ => exact h.of_plain at_ rfl .active rfl (fun _ => rfl) rfl rfl rfl
    | release at_ =>
      obtain ⟨n, at_⟩ := at_
      exact h.of_plain at_ rfl (.verify .readyWait) rfl (fun _ => rfl) rfl rfl rfl
    | seat at_ | enableSeated at_ | again at_ => exact h.of_plain at_ rfl .sideband rfl nofun rfl rfl rfl
    | enableOpen at_ => exact h.of_plain at_ rfl .waitCable rfl nofun rfl rfl rfl
  off h m := by cases m <;> exact Core.stageHolds_departed rfl rfl nofun nofun
  judged h m := by
    cases m with
    | fail _ _ _ _ state _ r => rcases r with ⟨rfl, -⟩ | ⟨rfl, -⟩ <;> exact Core.stageHolds_departed rfl rfl nofun nofun
    | pend | keep => exact h
    | held _ waits =>
      obtain ⟨taken, at_⟩ := waits
      exact h.of_plain at_ rfl (.held .verify .ready) rfl (fun _ => rfl) rfl rfl rfl
    | ready _ waits =>
      obtain ⟨taken, at_⟩ := waits
      exact h.of_plain at_ rfl (.verify .readyWait) rfl (fun _ => rfl) rfl rfl rfl
    | active _ waits =>
      obtain ⟨taken, at_⟩ := waits
      exact h.of_plain at_ rfl .active rfl (fun _ => rfl) rfl rfl rfl
  edit h _ := h
  met _ h m := by
    have ⟨align, fixed, running⟩ := h
    cases m with
    | stays => exact h
    | maskWait waits =>
      obtain ⟨taken, at_⟩ := waits
      exact h.of_plain at_ rfl (.verify .maskWait) rfl (fun _ => rfl) rfl rfl rfl
    | ranging waits =>
      obtain ⟨taken, at_⟩ := waits
      exact ⟨⟨nofun, fun h => by rw [align.mpr h] at at_; cases at_⟩, fun _ => rfl, ⟨fun _ => rfl, fun _ => rfl⟩⟩
  enabled h m := by
    cases m with
    | stays => exact h
    | seated _ at_ => exact h.of_plain at_ rfl .sideband rfl nofun rfl rfl rfl
    | open_ _ at_ => exact h.of_plain at_ rfl .waitCable rfl nofun rfl rfl rfl
  concluded _ _ h := h
  reset _ := by simp [Core.stageHolds, Port.core, Port.reset, Deskew.reset, Burst.reset]

/-- Settles O11: the alignment and the burst begin and end with ALIGN and RANGING, and a departure ends both. -/
theorem stagesOwnTheirUnits : Obligations.StagesOwnTheirUnits := fun _ _ h taken =>
  Core.firm_stageHolds.law.state.step h taken

/-! ## Enable, presence and silence (R27 to R30, R60 to R63) -/

def Core.presenceHolds (_ : Plan) (dev : DeviceState) (_ : Fin 32) (c : Core) : Prop :=
  (c.state = .disabled ↔ c.admin = false ∨ dev = .unconfigured)
    ∧ (c.state = .waitCable → c.present = false)
    ∧ (c.state.sending = true → c.present = true)
    ∧ c.hush = true

/-- A change between sending states keeps enable and presence as they are. -/
theorem Core.presenceHolds.of_sending {pl : Plan} {dev : DeviceState} {p : Fin 32} {c : Core} (h : Core.presenceHolds pl dev p c)
    (sends : c.state.sending = true) {d : Core} (sends' : d.state.sending = true) (admin : d.admin = c.admin)
    (present : d.present = c.present) (hush : d.hush = true) : Core.presenceHolds pl dev p d := by
  obtain ⟨disabled, -, seated, -⟩ := h
  have apart : ∀ {x : PortState}, x.sending = true → x ≠ .disabled ∧ x ≠ .waitCable := by
    rintro x hx
    exact ⟨fun e => by simp [e, PortState.sending] at hx, fun e => by simp [e, PortState.sending] at hx⟩
  have ⟨off, _⟩ := apart sends
  have ⟨off', open_'⟩ := apart sends'
  exact ⟨by rw [admin, ← disabled]; exact iff_of_false off' off, fun e => absurd e open_', fun _ => present ▸ seated sends, hush⟩

theorem Core.firm_presenceHolds : Core.FirmLaw Core.presenceHolds where
  move {pl dev p c d} h m := by
    have ⟨disabled, open_, seated, hush⟩ := h
    cases m with
    | quiet x q => exact ⟨disabled, open_, seated, q hush⟩
    | fail sends state _ r => rcases r with ⟨rfl, -⟩ | ⟨rfl, -⟩ <;> exact h.of_sending sends rfl rfl rfl rfl
    | peerRestart sends => exact h.of_sending sends rfl rfl rfl rfl
    | holdSideband _ at_ | align at_ | fixHeld at_ | fixVerify at_ | ranging at_ | measured at_ | active at_ | again at_ =>
      exact h.of_sending (by rw [at_]; rfl) rfl rfl rfl rfl
    | collect at_ => exact h
    | laneLock past =>
      refine h.of_sending ?_ rfl rfl rfl rfl
      rcases past with ⟨at_, -⟩ | ⟨n, at_⟩ <;> rw [at_] <;> rfl
    | verify past =>
      refine h.of_sending ?_ rfl rfl rfl rfl
      rcases past with (⟨at_, -⟩ | ⟨n, at_⟩) | ⟨n, at_⟩ <;> rw [at_] <;> rfl
    | realign engaged | fence engaged => exact h.of_sending (PortState.sending_of_engaged engaged) rfl rfl rfl rfl
    | release at_ =>
      obtain ⟨n, at_⟩ := at_
      exact h.of_sending (by rw [at_]; rfl) rfl rfl rfl rfl
    | capture _ _ _ x off on =>
      refine ⟨disabled, open_, seated, ?_⟩
      cases sends : c.state.sending with
      | true => exact on sends
      | false => exact off hush sends
    | stale => exact h
    | seat at_ =>
      have on : ¬ (c.admin = false ∨ dev = .unconfigured) := by rw [← disabled, at_]; nofun
      exact ⟨iff_of_false nofun on, nofun, fun _ => rfl, rfl⟩
    | present other => exact ⟨disabled, fun e => absurd e other, fun _ => rfl, hush⟩
    | absent off =>
      exact ⟨disabled, fun _ => rfl, fun sends => absurd (off.symm.trans sends) Bool.false_ne_true, hush⟩
    | flags x r =>
      refine ⟨?_, open_, seated, hush⟩
      rcases r with ⟨at_, r⟩ | ⟨rfl, r⟩
      · exact iff_of_true at_ r
      · have : c.state = .disabled ↔ dev = .unconfigured := by
          rw [disabled]
          rcases r with r | r
          · simp [r]
          · have := mt disabled.mpr r
            tauto
        simpa using this
    | enableSeated at_ run x set present => exact ⟨iff_of_false nofun (by simp [set, run]), nofun, fun _ => present, rfl⟩
    | enableOpen at_ run x set off y quiet =>
      exact ⟨iff_of_false nofun (by simp [set, run]), fun _ => off, nofun, quiet hush⟩
    | restartSeated other present =>
      exact ⟨iff_of_false nofun (fun r => other (disabled.mpr r)), nofun, fun _ => present, rfl⟩
  off h m := by
    have ⟨disabled, open_, seated, hush⟩ := h
    cases m with
    | remove sends =>
      refine ⟨iff_of_false nofun fun r => ?_, fun _ => rfl, nofun, rfl⟩
      rw [disabled.mpr r] at sends
      cases sends
    | disable x off => exact ⟨iff_of_true rfl (.inl off), nofun, nofun, rfl⟩
    | restartOpen other absent => exact ⟨iff_of_false nofun (fun r => other (disabled.mpr r)), fun _ => absent, nofun, rfl⟩
  judged {pl dev p c d} h m := by
    have bears : ∀ {x : PortState}, x.bearing = true → x.sending = true := by
      intro x hx
      unfold PortState.bearing at hx
      split at hx <;> simp_all [PortState.sending]
    cases m with
    | pend | keep => exact h
    | fail _ judgeable _ _ state _ r =>
      have sends : c.state.sending = true := judgeable.elim bears fun ⟨_, at_⟩ => by rw [at_]; rfl
      rcases r with ⟨rfl, -⟩ | ⟨rfl, -⟩ <;> exact h.of_sending sends rfl rfl rfl rfl
    | held _ waits | ready _ waits | active _ waits =>
      obtain ⟨taken, at_⟩ := waits
      exact h.of_sending (by rw [at_]; rfl) rfl rfl rfl rfl
  edit h _ := h
  met _ h m := by
    cases m with
    | stays => exact h
    | maskWait waits | ranging waits =>
      obtain ⟨taken, at_⟩ := waits
      exact h.of_sending (by rw [at_]; rfl) rfl rfl rfl rfl
  enabled {pl p c d} h m := by
    have ⟨disabled, open_, seated, hush⟩ := h
    have at_ := disabled.mpr (.inr rfl)
    cases m with
    | stays other =>
      have off : c.admin = false := other.resolve_right (not_not_intro at_)
      exact ⟨iff_of_true at_ (.inl off), open_, seated, hush⟩
    | seated on _ present => exact ⟨iff_of_false nofun (by simp [on]), nofun, fun _ => present, rfl⟩
    | open_ on _ absent x quiet => exact ⟨iff_of_false nofun (by simp [on]), fun _ => absent, nofun, quiet hush⟩
  concluded _ quiet h := ⟨h.1, h.2.1, h.2.2.1, quiet h.2.2.2⟩
  reset _ := ⟨iff_of_true rfl (.inr rfl), nofun, nofun, rfl⟩

/-- The two laws of a port, read off its core. -/
theorem State.presenceHolds_iff (s : State) : (s.presenceLaw ∧ s.silentLaw)
    ↔ ∀ p, Core.presenceHolds s.plan s.mli.device p (s.port p).core := by
  rw [← forall_and]
  refine forall_congr' fun p => ?_
  have hush : (s.port p).core.hush = true ↔ ((s.port p).state.sending = false → (s.port p).silent = true) := by
    simp only [Port.core, Bool.or_eq_true]
    cases (s.port p).state.sending <;> simp
  simp only [Core.presenceHolds, hush, Port.silent, Bool.and_eq_true, decide_eq_true_eq, Bool.not_eq_true',
    Option.isNone_iff_eq_none, List.isEmpty_iff, and_assoc]
  rfl

/-- Settles O9: only enabling and disabling cross DISABLED, only a cable crosses WAIT_CABLE, and both leave a port silent. -/
theorem portsFollowEnableAndPresence : Obligations.PortsFollowEnableAndPresence := by
  intro s t h taken
  rw [State.presenceHolds_iff] at h ⊢
  exact Core.firm_presenceHolds.law.state.step h taken

end Sys2Proof.Machine

namespace Sys2Proof.Machine

open Relation (ReflTransGen)

/-! ## Verdicts, READY and pending flags of verdict-bearing ports (R152, R164, R165) -/

/-- A bearing port holds PASS or WARN, and READY is set just in READY_WAIT and ACTIVE. -/
def Core.passHolds (c : Core) : Prop :=
  (c.state.bearing = true → c.verdict.cls = .pass ∨ c.verdict.cls = .warn)
    ∧ (c.ready = true ↔ c.state = .verify .readyWait ∨ c.state = .active)

def Core.bearingHolds (pl : Plan) (_ : DeviceState) (_ : Fin 32) (c : Core) : Prop :=
  c.passHolds ∧ (c.verdict.pending = true → c.state.bearing = true ∧ pl.state ≠ .closed)

/-- Within an event under a plan that is not CLOSED, what is marked pending or verdict-bearing was verdict-bearing when the event
found it; under a CLOSED plan nothing is marked. -/
def Core.bearingDuring (pl : Plan) (_ : DeviceState) (_ : Fin 32) (before c : Core) : Prop :=
  c.passHolds ∧ (c.verdict.pending = true → before.state.bearing = true ∧ pl.state ≠ .closed)
    ∧ (pl.state ≠ .closed → c.state.bearing = true → before.state.bearing = true)

/-- The states in which READY is clear and nothing is borne. -/
def PortState.low : PortState → Bool
  | .verify .readyWait | .held .verify _ | .active => false
  | _ => true

theorem PortState.low_iff {st : PortState} : st.low = true ↔ st.bearing = false := by
  unfold PortState.low PortState.bearing
  split
  · simp
  · simp
  · simp
  · split <;> simp_all

theorem Core.passHolds.of_low {c d : Core} (h : c.passHolds) (at_ : c.state.low = true) (low : d.state.low = true)
    (ready : d.ready = c.ready) : d.passHolds := by
  have apart : ∀ {x : PortState}, x.low = true → ¬ (x = .verify .readyWait ∨ x = .active) := by
    rintro x hx (rfl | rfl) <;> cases hx
  refine ⟨fun bears => ?_, ?_⟩
  · rw [PortState.low_iff.mp low] at bears; cases bears
  · rw [ready, h.2]
    exact iff_of_false (apart at_) (apart low)

/-- A departure with READY clear, into a state that bears nothing. -/
theorem Core.passHolds_of_clear {d : Core} (low : d.state.low = true) (ready : d.ready = false) : d.passHolds := by
  refine ⟨fun bears => ?_, ?_⟩
  · rw [PortState.low_iff.mp low] at bears; cases bears
  · rw [ready]
    exact iff_of_false nofun (by rintro (e | e) <;> rw [e] at low <;> cases low)

theorem Core.passHolds_move {pl : Plan} {dev : DeviceState} {p : Fin 32} {c d : Core} (h : c.passHolds)
    (m : Core.Move pl dev p c d) : d.passHolds := by
  cases m with
  | fail _ _ _ r => rcases r with ⟨rfl, -⟩ | ⟨rfl, -⟩ <;> exact Core.passHolds_of_clear rfl rfl
  | peerRestart | fence | restartSeated | realign | seat | enableSeated | again => exact Core.passHolds_of_clear rfl rfl
  | holdSideband _ at_ | align at_ | ranging at_ | measured at_ | fixHeld at_ | enableOpen at_ =>
    exact h.of_low (by rw [at_]; rfl) rfl rfl
  | laneLock past => rcases past with ⟨at_, -⟩ | ⟨n, at_⟩ <;> exact h.of_low (by rw [at_]; rfl) rfl rfl
  | verify past sub _ e =>
    refine h.of_low ?_ ?_ rfl
    · rcases past with (⟨at_, -⟩ | ⟨n, at_⟩) | ⟨n, at_⟩ <;> rw [at_] <;> rfl
    · rcases e with ⟨rfl | rfl, -⟩ | ⟨rfl, -⟩ <;> rfl
  | fixVerify at_ sub _ e =>
    refine h.of_low (by rw [at_]; rfl) ?_ rfl
    rcases e with ⟨rfl | rfl, -⟩ | ⟨rfl, -⟩ <;> rfl
  | active at_ =>
    exact ⟨fun _ => h.1 (by rw [at_]; rfl), iff_of_true (h.2.mpr (.inl at_)) (.inr rfl)⟩
  | release at_ =>
    obtain ⟨n, at_⟩ := at_
    exact ⟨fun _ => h.1 (by rw [at_]; rfl), iff_of_true rfl (.inl rfl)⟩
  | quiet | collect | capture | stale | present | absent | flags => exact h

theorem Core.passHolds_judged {pl : Plan} {p : Fin 32} {c d : Core} (h : c.passHolds) (m : Core.Judged pl p c d) :
    d.passHolds := by
  cases m with
  | pend => exact h
  | fail _ _ _ _ _ _ r => rcases r with ⟨rfl, -⟩ | ⟨rfl, -⟩ <;> exact Core.passHolds_of_clear rfl rfl
  | keep _ _ _ _ passes => exact ⟨fun _ => passes, h.2⟩
  | held _ waits _ _ passes =>
    obtain ⟨taken, at_⟩ := waits
    exact ⟨fun _ => passes, by rw [h.2, at_]; simp⟩
  | ready _ _ _ _ passes => exact ⟨fun _ => passes, iff_of_true rfl (.inl rfl)⟩
  | active _ _ _ _ passes => exact ⟨fun _ => passes, iff_of_true rfl (.inr rfl)⟩

/-- A move sets no pending flag, and what bears after it bore before. -/
theorem Core.Move.bearing {pl : Plan} {dev : DeviceState} {p : Fin 32} {c d : Core} (m : Core.Move pl dev p c d) :
    (d.verdict.pending = true → c.verdict.pending = true) ∧ (d.state.bearing = true → c.state.bearing = true) := by
  cases m with
  | fail _ _ _ r => rcases r with ⟨rfl, -⟩ | ⟨rfl, -⟩ <;> exact ⟨id, nofun⟩
  | restartSeated => exact ⟨nofun, nofun⟩
  | verify _ _ _ e | fixVerify _ _ _ e => rcases e with ⟨rfl | rfl, -⟩ | ⟨rfl, -⟩ <;> exact ⟨id, nofun⟩
  | active at_ => exact ⟨id, fun _ => by rw [at_]; rfl⟩
  | release at_ =>
    obtain ⟨n, at_⟩ := at_
    exact ⟨id, fun _ => by rw [at_]; rfl⟩
  | quiet | collect | capture | stale | present | absent | flags => exact ⟨id, id⟩
  | _ => exact ⟨id, nofun⟩

theorem Core.Met.passHolds {retry : Nat} {c d : Core} (m : Core.Met retry c d) (h : c.passHolds) : d.passHolds := by
  cases m with
  | stays => exact h
  | maskWait waits | ranging waits =>
    obtain ⟨taken, at_⟩ := waits
    exact h.of_low (by rw [at_]; rfl) rfl rfl

theorem Core.law_bearingHolds : Core.Law Core.bearingHolds Core.bearingDuring where
  start h := ⟨h.1, h.2, fun _ => id⟩
  move h m := ⟨Core.passHolds_move h.1 m, fun pending => h.2.1 (m.bearing.1 pending),
    fun open_ bears => h.2.2 open_ (m.bearing.2 bears)⟩
  off h m := by
    cases m with
    | remove | disable => exact ⟨Core.passHolds_of_clear rfl rfl, h.2.1, fun _ => nofun⟩
    | restartOpen => exact ⟨Core.passHolds_of_clear rfl rfl, nofun, fun _ => nofun⟩
  judged {pl dev p b c d} h m := by
    refine ⟨Core.passHolds_judged h.1 m, ?_⟩
    by_cases closed : pl.state = .closed
    · have settled := m.settled closed
      exact ⟨fun pending => absurd (settled.symm.trans pending) Bool.false_ne_true, fun open_ => absurd closed open_⟩
    · cases m with
      | pend _ bears => exact ⟨fun _ => ⟨h.2.2 closed bears, closed⟩, h.2.2⟩
      | _ => contradiction
  edit h state _ := by
    refine ⟨h.1, fun pending => ⟨(h.2 pending).1, ?_⟩⟩
    rcases state with e | e
    · rw [e]; exact (h.2 pending).2
    · rw [e]; nofun
  close {pl dev p c d e} generation h met judged settled := by
    refine ⟨Core.keep_chain (P := Core.passHolds) (fun _ _ link h => Core.passHolds_judged h link) judged (met.passHolds h.1), ?_,
      fun open_ => absurd rfl open_⟩
    suffices unmarked : e.verdict.pending = false from
      fun pending => absurd (unmarked.symm.trans pending) Bool.false_ne_true
    cases marked : d.verdict.pending with
    | false => exact Core.keep_chain (P := fun c => c.verdict.pending = false) (fun _ _ link _ => link.settled rfl) judged marked
    | true =>
      refine settled ?_ marked
      have bears := (h.2 (met.verdict ▸ marked)).1
      cases met with
      | stays => exact bears
      | maskWait waits | ranging waits =>
        obtain ⟨taken, at_⟩ := waits
        rw [at_] at bears
        cases bears
  enabled h m := by
    cases m with
    | stays => exact ⟨h.1, h.2, fun _ => id⟩
    | seated => exact ⟨Core.passHolds_of_clear rfl rfl, h.2, fun _ => nofun⟩
    | open_ _ at_ => exact ⟨h.1.of_low (by rw [at_]; rfl) rfl rfl, h.2, fun _ => nofun⟩
  concluded {pl dev p b c} x _ h := by
    obtain ⟨⟨passes, ready⟩, marked, -⟩ := h
    unfold Core.concluded
    split
    · next left =>
      refine ⟨⟨fun bears => ?_, ready⟩, nofun⟩
      have : c.state.bearing = true := bears
      simp [this] at left
    · next stays =>
      refine ⟨⟨passes, ready⟩, fun pending => ⟨?_, (marked pending).2⟩⟩
      simpa [(marked pending).1] using stays
  reset _ := ⟨Core.passHolds_of_clear rfl rfl, nofun⟩

theorem State.bearingLaw_iff (s : State) :
    s.bearingLaw ↔ ∀ p, Core.bearingHolds s.plan s.mli.device p (s.port p).core :=
  forall_congr' fun _ => and_assoc.symm

/-- Settles O7: a port comes to bear a verdict by a PASS or WARN alone, READY goes with it, and its pending flag is cleared where it
stops bearing or is judged. -/
theorem readyPortsHoldAPassingVerdict : Obligations.ReadyPortsHoldAPassingVerdict := by
  intro s t h taken
  rw [State.bearingLaw_iff] at h ⊢
  exact Core.law_bearingHolds.state.step h taken

end Sys2Proof.Machine

namespace Sys2Proof.Machine

open Relation (ReflTransGen)

/-! ## Neighbor records (R69 to R74) -/

def Core.neighborHolds (_ : Plan) (_ : DeviceState) (_ : Fin 32) (c : Core) : Prop :=
  (c.state.engaged = true → c.status = .current)
    ∧ (c.status = .current → c.state.engaged = true ∨ c.state = .sideband)
    ∧ (c.status = .empty ↔ c.identity = none)

theorem NeighborStatus.aged_ne_current (st : NeighborStatus) : st.aged ≠ .current := by cases st <;> nofun

theorem NeighborStatus.aged_eq_empty (st : NeighborStatus) : st.aged = .empty ↔ st = .empty := by
  cases st <;> simp [NeighborStatus.aged]

/-- A record that leaves CURRENT with its port's departure. -/
theorem Core.neighborHolds.of_aged {pl : Plan} {dev : DeviceState} {p : Fin 32} {c d : Core} (h : Core.neighborHolds pl dev p c)
    (out : d.state.engaged = false) (aged : d.status = c.status.aged) (identity : d.identity = c.identity) :
    Core.neighborHolds pl dev p d :=
  ⟨fun engaged => absurd (out.symm.trans engaged) Bool.false_ne_true,
    fun current => absurd (aged ▸ current) (NeighborStatus.aged_ne_current _),
    by rw [aged, NeighborStatus.aged_eq_empty, identity]; exact h.2.2⟩

/-- Between engaged states the record stays as it is. -/
theorem Core.neighborHolds.of_engaged {pl : Plan} {dev : DeviceState} {p : Fin 32} {c d : Core} (h : Core.neighborHolds pl dev p c)
    (current : c.status = .current) (entered : d.state.engaged = true) (status : d.status = c.status) (identity : d.identity = c.identity) :
    Core.neighborHolds pl dev p d :=
  ⟨fun _ => status.trans current, fun _ => .inl entered, by rw [status, identity]; exact h.2.2⟩

/-- A port that is neither engaged nor in SIDEBAND holds no CURRENT record, and keeps the one it has. -/
theorem Core.neighborHolds.of_out {pl : Plan} {dev : DeviceState} {p : Fin 32} {c d : Core} (h : Core.neighborHolds pl dev p c)
    (out : c.state.engaged = false) (other : c.state ≠ .sideband) (out' : d.state.engaged = false) (status : d.status = c.status)
    (identity : d.identity = c.identity) : Core.neighborHolds pl dev p d :=
  ⟨fun engaged => absurd (out'.symm.trans engaged) Bool.false_ne_true,
    fun current => by
      rcases h.2.1 (status ▸ current) with e | e
      · rw [out] at e; cases e
      · exact absurd e other,
    by rw [status, identity]; exact h.2.2⟩

theorem PortState.engaged_of_bearing {st : PortState} (h : st.bearing = true) : st.engaged = true := by
  unfold PortState.bearing at h
  split at h <;> simp_all [PortState.engaged]

theorem Core.firm_neighborHolds : Core.FirmLaw Core.neighborHolds where
  move {pl dev p c d} h m := by
    have ⟨engaged, current, empty⟩ := h
    have from_ {st : PortState} (at_ : c.state = st) (e : st.engaged = true) : c.status = .current := engaged (at_ ▸ e)
    cases m with
    | quiet | collect | present | absent | flags => exact h
    | fail _ _ _ r => rcases r with ⟨rfl, -⟩ | ⟨rfl, -⟩ <;> exact h.of_aged rfl rfl rfl
    | peerRestart => exact ⟨nofun, fun _ => .inr rfl, empty⟩
    | holdSideband _ _ now => exact h.of_engaged now rfl rfl rfl
    | laneLock past =>
      rcases past with ⟨-, now⟩ | ⟨n, at_⟩
      · exact h.of_engaged now rfl rfl rfl
      · exact h.of_engaged (from_ at_ rfl) rfl rfl rfl
    | verify past =>
      rcases past with (⟨-, now⟩ | ⟨n, at_⟩) | ⟨n, at_⟩
      · exact h.of_engaged now rfl rfl rfl
      · exact h.of_engaged (from_ at_ rfl) rfl rfl rfl
      · exact h.of_engaged (from_ at_ rfl) rfl rfl rfl
    | align at_ | fixHeld at_ | fixVerify at_ | ranging at_ | measured at_ | active at_ =>
      exact h.of_engaged (from_ at_ rfl) rfl rfl rfl
    | realign on | fence on => exact h.of_engaged (engaged on) rfl rfl rfl
    | release at_ =>
      obtain ⟨n, at_⟩ := at_
      exact h.of_engaged (from_ at_ rfl) rfl rfl rfl
    | capture free open_ i =>
      exact ⟨fun _ => rfl, fun _ => open_.elim .inr current, iff_of_false nofun nofun⟩
    | stale at_ i => exact ⟨engaged, current, iff_of_false (fun e => by rw [at_] at e; cases e) nofun⟩
    | seat at_ =>
      exact ⟨nofun, fun _ => .inr rfl, empty⟩
    | enableSeated at_ => exact ⟨nofun, fun _ => .inr rfl, empty⟩
    | enableOpen at_ => exact h.of_out (by rw [at_]; rfl) (by rw [at_]; nofun) rfl rfl rfl
    | restartSeated => exact h.of_aged rfl rfl rfl
    | again => exact ⟨nofun, fun _ => .inr rfl, empty⟩
  off h m := by cases m <;> exact h.of_aged rfl rfl rfl
  judged {pl dev p c d} h m := by
    cases m with
    | pend | keep => exact h
    | fail _ _ _ _ _ _ r => rcases r with ⟨rfl, -⟩ | ⟨rfl, -⟩ <;> exact h.of_aged rfl rfl rfl
    | held _ waits | ready _ waits | active _ waits =>
      obtain ⟨taken, at_⟩ := waits
      exact h.of_engaged (h.1 (by rw [at_]; rfl)) rfl rfl rfl
  edit h _ := h
  met _ h m := by
    cases m with
    | stays => exact h
    | maskWait waits | ranging waits =>
      obtain ⟨taken, at_⟩ := waits
      exact h.of_engaged (h.1 (by rw [at_]; rfl)) rfl rfl rfl
  enabled h m := by
    cases m with
    | stays => exact h
    | seated => exact ⟨nofun, fun _ => .inr rfl, h.2.2⟩
    | open_ _ at_ => exact h.of_out (by rw [at_]; rfl) (by rw [at_]; nofun) rfl rfl rfl
  concluded _ _ h := h
  reset _ := ⟨nofun, nofun, iff_of_true rfl rfl⟩

theorem State.neighborLaw_iff (s : State) :
    s.neighborLaw ↔ ∀ p, Core.neighborHolds s.plan s.mli.device p (s.port p).core := Iff.rfl

/-! ## Distinct peers of verdict-bearing ports (R155) -/

/-- The peer of a CURRENT record. -/
def Core.peer (c : Core) : Option PeerId := if c.status = .current then c.identity else none

/-- What bears a verdict afterwards bore one before, at the same peer. -/
abbrev Core.Bears (c d : Core) : Prop := d.state.bearing = true → c.state.bearing = true ∧ d.peer = c.peer

theorem Core.Move.bears {pl : Plan} {dev : DeviceState} {p : Fin 32} {c d : Core} (m : Core.Move pl dev p c d) : c.Bears d := by
  intro bears
  have before := m.bearing.2 bears
  refine ⟨before, ?_⟩
  cases m with
  | capture free => rw [PortState.engaged_of_bearing before] at free; cases free
  | stale at_ => simp [Core.peer, at_]
  | fail _ _ _ r => rcases r with ⟨rfl, -⟩ | ⟨rfl, -⟩ <;> cases bears
  | restartSeated => cases bears
  | _ => rfl

theorem Core.Off.bears {c d : Core} (m : Core.Off c d) : c.Bears d := by cases m <;> exact nofun

theorem Core.Met.bears {retry : Nat} {c d : Core} (m : Core.Met retry c d) : c.Bears d := by
  cases m with
  | stays => exact fun bears => ⟨bears, rfl⟩
  | maskWait | ranging => exact nofun

theorem Core.Enabled.bears {c d : Core} (m : Core.Enabled c d) : c.Bears d := by
  cases m with
  | stays => exact fun bears => ⟨bears, rfl⟩
  | seated | open_ => exact nofun

theorem Core.bears_chain {R : Core → Core → Prop} (step : ∀ c d, R c d → c.Bears d) {c d : Core} (h : ReflTransGen R c d) :
    c.Bears d := by
  induction h with
  | refl => exact fun bears => ⟨bears, rfl⟩
  | tail _ last ih =>
    intro bears
    obtain ⟨bears, same⟩ := step _ _ last bears
    exact ⟨(ih bears).1, same.trans (ih bears).2⟩

theorem State.peer_core (s : State) (p : Fin 32) : (s.port p).core.peer = s.currentPeer p := rfl

/-- Distinct peers stay distinct where ports only stop bearing, or bear on at the same peer. -/
theorem State.distinctPeers_of_bears {s t : State} (h : s.distinctPeers)
    (bears : ∀ p, (s.port p).core.Bears (t.port p).core) : t.distinctPeers := by
  intro p q apart bp bq peer
  obtain ⟨bp, ep⟩ := bears p bp
  obtain ⟨bq, eq⟩ := bears q bq
  rw [State.peer_core, State.peer_core] at ep eq
  rw [ep] at peer ⊢
  rw [eq]
  exact h p q apart bp bq peer

/-- DUPLICATE_PEER is a FAIL code of every kind of expectation (Tables 8-3 and 8-5). -/
theorem State.cls_compute_of_duplicate {s : State} {p : Fin 32} (h : (s.duplicatePartner p).isSome = true) :
    (s.compute p).cls = .fail := by
  have fails : ∀ held : Held, classOf (s.codes p held) = .fail := fun held =>
    classOf_of_fail ⟨.duplicatePeer, (s.mem_codes_iff p held _).mpr
      ⟨by cases (s.expected p).kind <;> rfl, h⟩, by decide⟩
  unfold State.compute
  dsimp only
  split <;> exact fails _

/-- A port that a pass leaves verdict-bearing has no double among the CURRENT records it is judged against. -/
theorem State.no_double {s : State} {p q : Fin 32} (passes : (s.compute p).cls ≠ .fail) (peer : s.currentPeer p ≠ none)
    (apart : p ≠ q) : s.currentPeer p ≠ s.currentPeer q := by
  intro same
  obtain ⟨i, found⟩ := Option.ne_none_iff_exists'.mp peer
  have identity : (s.port p).neighbor.identity = some i := by
    unfold State.currentPeer at found
    split at found
    · exact found
    · cases found
  refine passes (State.cls_compute_of_duplicate ?_)
  unfold State.duplicatePartner
  rw [identity, List.find?_isSome]
  exact ⟨q, List.mem_finRange q, by simp [apart.symm, ← same, found]⟩

/-- A port that an act leaves verdict-bearing passed, and keeps its peer. -/
theorem Port.passes_of_bearing_act {base : BaseFields} {pr : Params} {first : Bool} {p : Fin 32} {pt : Port}
    (bears : (pt.act base pr first p).state.bearing = true) :
    pt.verdict.cls ≠ .fail ∧ (pt.act base pr first p).core.peer = pt.core.peer := by
  have accepted : (pt.accept pr).core.peer = pt.core.peer := by
    rcases pt.core_accept pr with e | e | e <;> rw [e] <;> rfl
  revert bears
  unfold Port.act
  split
  · obtain ⟨state, retry, h, e⟩ := pt.core_fail (p := p) pr base .verdictFail pt.state.stageCode none
    intro bears
    have at_ : (pt.fail base pr p .verdictFail pt.state.stageCode none).state = state := congrArg Core.state e
    rw [at_] at bears
    rcases h with ⟨rfl, -⟩ | ⟨rfl, -⟩ <;> cases bears
  all_goals next cls =>
    intro _
    refine ⟨by rw [cls]; nofun, ?_⟩
    first | rfl | (split; exact accepted; rfl)

/-- A pass leaves distinct peers distinct: what it lets bear has no double (R155, R166). -/
theorem State.distinctPeers_verdictPass {s : State} (h : s.distinctPeers) {set : List (Fin 32)} (nodup : set.Nodup) :
    (s.verdictPass set).distinctPeers := by
  obtain ⟨nd, -, -⟩ := s.joinPartners_spec 32 nodup
  have kept : ∀ p, ((s.verdictPass set).port p).state.bearing = true →
      (s.verdictPass set).currentPeer p = s.currentPeer p
        ∧ ((s.port p).state.bearing = true ∨ (s.compute p).cls ≠ .fail) := by
    intro p bears
    rw [← State.peer_core, ← State.peer_core]
    rw [State.port_verdictPass nd] at bears ⊢
    split at bears
    · next mem =>
      rw [if_pos mem]
      obtain ⟨passes, peer⟩ := Port.passes_of_bearing_act bears
      exact ⟨peer, .inr passes⟩
    · next out =>
      rw [if_neg out]
      exact ⟨rfl, .inl bears⟩
  intro p q apart bp bq peer
  obtain ⟨ep, hp⟩ := kept p bp
  obtain ⟨eq, hq⟩ := kept q bq
  rw [ep] at peer ⊢
  rw [eq]
  rcases hp with hp | hp
  · rcases hq with hq | hq
    · exact h p q apart hp hq peer
    · intro same
      exact State.no_double hq (same ▸ peer) apart.symm same.symm
  · exact State.no_double hp peer apart

theorem State.distinctPeers_verdictPasses (n : Nat) {s : State} (h : s.distinctPeers) {set : List (Fin 32)}
    (nodup : set.Nodup) : (State.verdictPasses n s set).distinctPeers := by
  induction n generalizing s set with
  | zero => exact h
  | succ n ih =>
    cases set with
    | nil => exact h
    | cons p rest =>
      have once := State.distinctPeers_verdictPass h nodup
      unfold State.verdictPasses
      dsimp only
      split
      · exact ih once ((List.nodup_finRange 32).filter _)
      · exact once

theorem State.distinctPeers_trigger {s : State} (h : s.distinctPeers) (selected : Fin 32 → Bool) :
    (s.trigger selected).distinctPeers := by
  unfold State.trigger
  split
  · exact State.distinctPeers_verdictPasses 33 h ((List.nodup_finRange 32).filter _)
  · refine State.distinctPeers_of_bears h fun p => ?_
    rw [State.port_mapPorts]
    split <;> exact fun bears => ⟨bears, rfl⟩

theorem State.Run.distinctPeers {s u : State} (run : s.Run u) (h : s.distinctPeers) : u.distinctPeers := by
  induction run with
  | refl => exact h
  | moves _ k ih => exact State.distinctPeers_of_bears ih fun p => Core.bears_chain (fun _ _ => Core.Move.bears) (k.chain p)
  | @off t _ p f k ih =>
    refine State.distinctPeers_of_bears ih fun q => ?_
    rw [State.port_modPort]
    split
    · next e => subst e; exact k.bears
    · exact fun bears => ⟨bears, rfl⟩
  | trigger _ selected ih => exact State.distinctPeers_trigger ih selected

theorem State.law_distinctPeers : State.Law State.distinctPeers fun _ u => u.distinctPeers where
  body {s t} same h := State.distinctPeers_of_bears h fun p => by
    rw [State.port, State.port, same.ports]
    exact fun bears => ⟨bears, rfl⟩
  idle {s} h := State.distinctPeers_of_bears h fun p => by
    rw [State.core_advance]
    exact fun bears => ⟨bears, rfl⟩
  deviceReset {s} _ p q _ bears := by
    have : s.deviceReset.port p = Port.reset (s.port p).rawPresent := Table.get_mapFin ..
    rw [this] at bears
    cases bears
  powerOnReset {s} _ p q _ bears := by
    have : s.powerOnReset.port p = Port.reset (s.port p).rawPresent := Table.get_mapFin ..
    rw [this] at bears
    cases bears
  answered {s u} h a := by
    cases a with
    | run r => exact r.distinctPeers h
    | edit => exact h
    | close generation =>
      refine State.distinctPeers_trigger (State.distinctPeers_of_bears h fun p => ?_) _
      rw [State.port_mapPorts]
      exact (Port.met_meetClose _ _).bears
    | config pr =>
      unfold State.applyConfig
      dsimp only
      split
      · refine State.distinctPeers_of_bears h fun p => ?_
        rw [State.enterRunning, State.port_mapPorts]
        exact (Port.enabled_enable ..).bears
      · exact h
    | aside ports =>
      refine State.distinctPeers_of_bears h fun p => ?_
      rw [State.port, State.port, ports]
      exact fun bears => ⟨bears, rfl⟩
  conclude limits done h := State.distinctPeers_of_bears h fun p => by
    obtain ⟨x, -, e⟩ := Port.core_conclude _ _ p
    rw [State.port_conclude, e]
    exact fun bears => ⟨bears, rfl⟩

/-- Settles O10: records follow the states of their ports, and a port comes to bear a verdict only where no other CURRENT record
names its peer. -/
theorem bearingPortsHaveDistinctPeers : Obligations.BearingPortsHaveDistinctPeers := by
  intro s t ⟨neighbor, distinct⟩ taken
  rw [State.neighborLaw_iff] at neighbor ⊢
  exact ⟨Core.firm_neighborHolds.law.state.step neighbor taken, State.law_distinctPeers.step distinct taken⟩

end Sys2Proof.Machine

namespace Sys2Proof.Machine

/-! ## Sideband transmitters (R63) -/

theorem State.law_sidebandSettled : State.Law State.sidebandSettled fun _ _ => True where
  body {s t} same h p := by
    rw [State.port, same.ports]
    exact h p
  idle {s} h p := by
    have : (s.advance 1).port p = (s.port p).advance 1 := Table.get_mapFin ..
    rw [this]
    exact h p
  deviceReset {s} _ p := by
    have : s.deviceReset.port p = Port.reset (s.port p).rawPresent := Table.get_mapFin ..
    rw [this]
    rfl
  powerOnReset {s} _ p := by
    have : s.powerOnReset.port p = Port.reset (s.port p).rawPresent := Table.get_mapFin ..
    rw [this]
    rfl
  answered _ _ := trivial
  conclude limits done _ p := by
    rw [State.port_conclude]
    exact SidebandTx.settled_start ..

/-! ## Verdicts due (R38) -/

theorem State.noneDue_of_open {s : State} (open_ : s.plan.state ≠ .closed) : s.noneDue := fun p => by
  simp [State.verdictDue, open_]

theorem Core.Enabled.planWait {c d : Core} (h : Core.Enabled c d) {taken : Bool} (waits : d.state = .verify (.planWait taken)) :
    c.state = .verify (.planWait taken) := by
  cases h with
  | stays => exact waits
  | seated | open_ => cases waits

theorem State.noneDue_iff (s : State) :
    s.noneDue ↔ (s.plan.state = .closed → ∀ p taken, (s.port p).state ≠ .verify (.planWait taken)) := by
  constructor
  · intro due closed p taken at_
    have := due p
    simp [State.verdictDue, closed, at_] at this
  · intro h p
    by_cases closed : s.plan.state = .closed
    · unfold State.verdictDue
      split
      · next taken at_ => exact absurd at_ (h closed p taken)
      · exact Bool.and_false _
    · exact State.noneDue_of_open closed p

theorem State.law_noneDue : State.Law State.noneDue fun _ u => u.noneDue where
  body {s t} same h := State.noneDue_of_same same.plan (fun p => by rw [State.port, State.port, same.ports]) h
  idle {s} h := State.noneDue_of_same (s := s) (plan := rfl) (fun p => congrArg Core.state (State.core_advance s p)) h
  deviceReset {s} _ := by
    rw [State.noneDue_iff]
    intro _ p _ at_
    have : s.deviceReset.port p = Port.reset (s.port p).rawPresent := Table.get_mapFin ..
    rw [this] at at_
    cases at_
  powerOnReset _ := State.noneDue_of_open nofun
  answered {s u} h a := by
    cases a with
    | run _ due => exact due h
    | edit pl state =>
      rcases state with state | state
      · rw [State.noneDue_iff] at h ⊢
        exact fun closed => h (state ▸ closed)
      · exact State.noneDue_of_open (by rw [State.plan_withPlan, state]; nofun)
    | close generation => exact fun p => State.noneDue_trigger _ _ p
    | config pr =>
      rw [State.noneDue_iff] at h ⊢
      unfold State.applyConfig
      dsimp only
      split
      · intro closed p taken at_
        rw [State.enterRunning, State.port_mapPorts] at at_
        exact h closed p taken ((Port.enabled_enable ..).planWait at_)
      · exact h
    | aside ports plan => exact State.noneDue_of_same plan (fun p => by rw [State.port, State.port, ports]) h
  conclude {s u} limits done h :=
    State.noneDue_of_same (s := u) (plan := rfl) (fun p => by rw [State.port_conclude]; rfl) h

/-! ## The management link (R176, R178) -/

/-- The outbound transmitter is busy, or it has nothing to start. -/
abbrev State.outboundSettled (s : State) : Prop :=
  s.mli.sending ≠ none ∨ s.mli.replies = [] ∧ (s.notices = [] ∨ s.mli.notify = false)

theorem State.outboundSettled_startOutbound (s : State) : s.startOutbound.outboundSettled := by
  rcases s.startOutbound_cases with ⟨e, settled⟩ | ⟨_, _, _, _, e⟩ | ⟨_, _, _, _, _, _, e⟩
  · rw [e]; exact settled
  · rw [e]; exact .inl nofun
  · rw [e]; exact .inl nofun

theorem State.replies_dispatch {s : State} {f : Frame} {rest : List Frame} (h : s.mli.queue = f :: rest) :
    ∃ a : Answer, s.dispatch.mli.replies = s.mli.replies ++ [replyTo f a] := by
  refine ⟨((s.modMli fun m => { m with queue := rest }).answer f).answer, ?_⟩
  have link := (s.modMli fun m => { m with queue := rest }).link_answer f
  unfold State.dispatch
  rw [h]
  exact congrArg (· ++ _) link.replies

/-- A dispatched reply waits after a dispatch: nothing more is dispatched before it starts (R176). -/
theorem State.dispatchable_tryDispatch (s : State) : s.tryDispatch.dispatchable = false := by
  unfold State.tryDispatch
  split
  · next due =>
    cases queue : s.mli.queue with
    | nil => simp [State.dispatchable, queue] at due
    | cons f rest =>
      obtain ⟨a, e⟩ := s.replies_dispatch queue
      simp [State.dispatchable, e, replyTo]
  · next idle => simpa using idle

theorem State.sending_dispatch (s : State) : s.dispatch.mli.sending = s.mli.sending := by
  unfold State.dispatch
  split
  · rfl
  · exact ((s.modMli fun m => { m with queue := _ }).link_answer _).sending

theorem State.sending_tryDispatch (s : State) : s.tryDispatch.mli.sending = s.mli.sending := by
  unfold State.tryDispatch
  split
  · exact s.sending_dispatch
  · rfl

/-- Dispatch, start, dispatch: that leaves nothing of the link undone (R176, R178). -/
theorem State.linkSettled_settle (s : State) : s.settle.linkSettled := by
  refine ⟨?_, State.dispatchable_tryDispatch _⟩
  unfold State.settle
  have once := s.dispatchable_tryDispatch
  rcases s.tryDispatch.startOutbound_cases with ⟨e, settled⟩ | ⟨_, _, _, _, e⟩ | ⟨_, _, _, _, _, _, e⟩
  · rw [e, State.tryDispatch, if_neg (by rw [once]; nofun)]
    exact settled
  · left; rw [State.sending_tryDispatch, e]; exact nofun
  · left; rw [State.sending_tryDispatch, e]; exact nofun

theorem State.linkSettled_arrive {s : State} (h : s.linkSettled) (f : Frame) : (s.arrive f).linkSettled := by
  unfold State.arrive
  split
  · exact State.linkSettled_settle _
  · split
    · exact State.linkSettled_settle _
    · exact h

theorem State.linkSettled_frameSent {s : State} (h : s.linkSettled) : s.frameSent.linkSettled := by
  unfold State.frameSent
  split
  · exact h
  · split
    · exact ⟨.inr ⟨rfl, .inl rfl⟩, rfl⟩
    · exact State.linkSettled_settle _

/-- An event at a port hands notices and nothing else to the link. -/
theorem State.linkSettled_finish {s u : State} (h : s.linkSettled) (only : s.Only u) (limits done : List Notice) :
    (s.finish u limits done).linkSettled := by
  obtain ⟨outbound, idle⟩ := h
  have mli : (s.conclude u limits done).mli = s.mli := only.mli
  have same : (s.conclude u limits done).dispatchable = false := by
    rw [State.dispatchable, mli]; exact idle
  refine ⟨State.outboundSettled_startOutbound _, ?_⟩
  unfold State.finish
  rcases (s.conclude u limits done).startOutbound_cases with ⟨e, -⟩ | ⟨r, rest, free, waiting, -⟩ | ⟨_, _, _, _, _, _, e⟩
  · rw [e]; exact same
  · rw [mli] at free waiting
    rcases outbound with busy | ⟨none_, -⟩
    · exact absurd free busy
    · rw [none_] at waiting; cases waiting
  · rw [e]; exact same

theorem State.linkSettled_step {s t : State} (h : s.linkSettled) (taken : step s = .next t) : t.linkSettled := by
  unfold step at taken
  split at taken
  · cases taken; exact h
  · next rest _ =>
    have occurs := State.Occurs.of_exec taken
    have front : ({ s with pending := rest } : State).linkSettled := h
    generalize ({ s with pending := rest } : State) = s' at occurs front
    cases occurs with
    | event limits done _ only => exact State.linkSettled_finish front only limits done
    | arrive f => exact State.linkSettled_arrive (s := s'.hunt) front f
    | sent => exact State.linkSettled_frameSent front
    | aside => exact front
    | reset => exact ⟨.inr ⟨rfl, .inl rfl⟩, rfl⟩

/-- Settles O4: a conclusion starts the sideband transmitters, a trigger judges the ports due, and the link is settled where a frame
arrives or ends. -/
theorem eventsFinishWhatTheyMakeDue : Obligations.EventsFinishWhatTheyMakeDue := by
  intro s t ⟨sideband, link, due⟩ taken
  exact ⟨State.law_sidebandSettled.step sideband taken, State.linkSettled_step link taken, State.law_noneDue.step due taken⟩

end Sys2Proof.Machine

namespace Sys2Proof.Machine

/-! ## What requests leave in the Notice Queue -/

theorem State.notices_closePlan (s : State) (g : BitVec 16) : (s.closePlan g).notices = s.notices := by
  unfold State.closePlan
  dsimp only
  exact (State.Only.verdicts ..).notices

theorem State.notices_applyConfig (s : State) (pr : Params) : (s.applyConfig pr).notices = s.notices := by
  unfold State.applyConfig
  dsimp only
  split <;> rfl

theorem State.notices_planBegin (s : State) (payload : List Byte) : (s.takePlanBegin payload).state.notices = s.notices := by
  unfold State.takePlanBegin
  dsimp only
  repeat' split
  all_goals rfl

theorem State.notices_planEntry (s : State) (payload : List Byte) : (s.takePlanEntry payload).state.notices = s.notices := by
  unfold State.takePlanEntry
  dsimp only
  repeat' split
  all_goals rfl

theorem State.notices_planOverride (s : State) (payload : List Byte) :
    (s.takePlanOverride payload).state.notices = s.notices := by
  unfold State.takePlanOverride State.appendOverride State.deleteOverride
  dsimp only
  repeat' split
  all_goals rfl

theorem State.notices_planEnd (s : State) (payload : List Byte) : (s.takePlanEnd payload).state.notices = s.notices := by
  unfold State.takePlanEnd
  dsimp only
  split
  · rfl
  · split
    · rfl
    · exact s.notices_closePlan _

theorem State.notices_configSet (s : State) (pairs : List (Byte × BitVec 48)) :
    (s.configSet pairs).state.notices = s.notices := by
  unfold State.configSet
  split
  · rfl
  · split <;> exact s.notices_applyConfig _

theorem State.notices_counters (s : State) (payload : List Byte) : (s.takeCounters payload).state.notices = s.notices := by
  unfold State.takeCounters
  dsimp only [takes]
  repeat' split
  all_goals rfl

/-- NOTICE_CONTROL keeps the Notice Queue or removes all of it (R183). -/
theorem State.notices_noticeControl (s : State) (payload : List Byte) :
    (s.takeNoticeControl payload).state.notices = s.notices ∨ (s.takeNoticeControl payload).state.notices = [] := by
  unfold State.takeNoticeControl
  dsimp only
  split
  · exact .inl rfl
  · dsimp only [takes]
    split
    · exact .inr rfl
    · exact .inl rfl

/-- No request but a flush takes a notice out of the queue (R183). -/
theorem State.notices_own (s : State) (kind : Byte) (payload : List Byte) :
    (s.own kind payload).state.notices = s.notices ∨ (s.own kind payload).state.notices = [] := by
  unfold State.own
  split
  · exact .inl (s.notices_planBegin _)
  · exact .inl (s.notices_planEntry _)
  · exact .inl (s.notices_planOverride _)
  · exact .inl (s.notices_planEnd _)
  · rw [s.state_planRead]; exact .inl rfl
  · exact .inl (State.Only.portControl s payload).notices
  · exact .inl (State.Only.portRestart s payload).notices
  · exact .inl (State.Only.portRelease s payload).notices
  · exact .inl (State.Only.laneEq s payload).notices
  · exact .inl (State.Only.monitorSetup s payload).notices
  · exact .inl (State.Only.monitorScan s payload).notices
  · exact .inl (State.Only.monitorCancel s payload).notices
  · rw [s.state_monitorRead]; exact .inl rfl
  · exact .inl (State.Only.portTrim s payload).notices
  · exact .inl rfl
  · exact .inl (s.notices_configSet _)
  · rw [s.state_configGet]; exact .inl rfl
  · exact .inl rfl
  · exact s.notices_noticeControl _
  · rw [s.state_portStatus]; exact .inl rfl
  · rw [s.state_neighborRead]; exact .inl rfl
  · rw [s.state_find]; exact .inl rfl
  · exact .inl (s.notices_counters _)
  · exact .inl rfl

theorem State.notices_answer (s : State) (f : Frame) :
    (s.answer f).state.notices = s.notices ∨ (s.answer f).state.notices = [] := by
  unfold State.answer
  split
  · exact .inl rfl
  · split
    · exact .inl rfl
    · exact s.notices_own ..

/-! ## Queued notices (R193, R194) -/

theorem distinctNotices.handNotice {queue : List Notice} (h : distinctNotices queue) (n : Notice) :
    distinctNotices (handNotice n queue) := by
  rcases handNotice_cases n queue with ⟨before, q, after, rfl, -, same, e⟩ | ⟨fresh, e⟩
  · rw [e]
    have like (x : Notice) : (n.fold q).sameSubject x = q.sameSubject x := by
      rw [Notice.sameSubject_fold same]
      cases n <;> cases q <;> cases x <;> simp_all [Notice.sameSubject]
    have like' (x : Notice) : x.sameSubject (n.fold q) = x.sameSubject q := by
      rw [Notice.sameSubject_comm, like, Notice.sameSubject_comm]
    simpa [distinctNotices, List.pairwise_append, like, like'] using h
  · rw [e]
    refine List.pairwise_append.mpr ⟨h, List.pairwise_singleton .., fun x hx y hy => ?_⟩
    rw [List.mem_singleton.mp hy, Notice.sameSubject_comm]
    exact fresh x hx

theorem distinctNotices.handNotices {queue : List Notice} (h : distinctNotices queue) (handed : List Notice) :
    distinctNotices (handNotices handed queue) := by
  induction handed generalizing queue with
  | nil => exact h
  | cons n rest ih => exact ih (h.handNotice n)

/-! ## The bounds through the operations of the link -/

/-- The bounds of the management link and of the Notice Queue. -/
abbrev State.queuesBounded (s : State) : Prop := s.linkBounds ∧ distinctNotices s.notices

namespace State.queuesBounded

variable {s t u : State}

theorem of_same (h : s.queuesBounded) (queue : t.mli.queue = s.mli.queue) (replies : t.mli.replies = s.mli.replies)
    (notices : t.notices = s.notices) : t.queuesBounded := by
  rw [State.queuesBounded, State.linkBounds, queue, replies, notices]
  exact h

theorem startOutbound (h : s.queuesBounded) : s.startOutbound.queuesBounded := by
  obtain ⟨⟨queue, refusals, dispatched⟩, distinct⟩ := h
  rcases s.startOutbound_cases with ⟨e, -⟩ | ⟨r, rest, -, replies, e⟩ | ⟨n, rest, -, -, notices, -, e⟩
  · rw [e]; exact ⟨⟨queue, refusals, dispatched⟩, distinct⟩
  · rw [e]
    rw [replies] at refusals dispatched
    have fewer (test : Reply → Bool) : (rest.filter test).length ≤ ((r :: rest).filter test).length :=
      ((List.sublist_cons_self r rest).filter test).length_le
    exact ⟨⟨queue, (fewer _).trans refusals, (fewer _).trans dispatched⟩, distinct⟩
  · rw [e]
    exact ⟨⟨queue, refusals, dispatched⟩, (notices ▸ distinct : distinctNotices (n :: rest)).of_cons⟩

/-- A dispatch takes the head request, and its reply is the only one of its kind (R176). -/
theorem tryDispatch (h : s.queuesBounded) : s.tryDispatch.queuesBounded := by
  obtain ⟨⟨queue, refusals, dispatched⟩, distinct⟩ := h
  unfold State.tryDispatch
  split
  · next due =>
    simp only [State.dispatchable, Bool.and_eq_true, List.all_eq_true] at due
    obtain ⟨⟨waits, refused⟩, -⟩ := due
    cases at_ : s.mli.queue with
    | nil => simp [at_] at waits
    | cons f rest =>
      obtain ⟨a, replies⟩ := s.replies_dispatch at_
      refine ⟨⟨?_, ?_, ?_⟩, ?_⟩
      · have link := (s.modMli fun m => { m with queue := rest }).link_answer f
        have : s.dispatch.mli.queue = rest := by
          unfold State.dispatch
          rw [at_]
          exact link.queue
        rw [at_] at queue
        rw [this]
        exact (Nat.le_succ _).trans queue
      · rw [replies, List.filter_append]
        simpa [replyTo] using refusals
      · have none_ : s.mli.replies.filter (fun r => !r.refusal) = [] :=
          List.filter_eq_nil_iff.mpr fun r hr => by rw [refused r hr]; nofun
        rw [replies, List.filter_append, none_]
        simp [replyTo]
      · unfold State.dispatch
        rw [at_]
        refine distinctNotices.handNotices ?_ _
        rcases (s.modMli fun m => { m with queue := rest }).notices_answer f with e | e <;> rw [e]
        · exact distinct
        · exact List.Pairwise.nil
  · exact ⟨⟨queue, refusals, dispatched⟩, distinct⟩

theorem settle (h : s.queuesBounded) : s.settle.queuesBounded := h.tryDispatch.startOutbound.tryDispatch

theorem arrive (h : s.queuesBounded) (f : Frame) : (s.arrive f).queuesBounded := by
  obtain ⟨⟨queue, refusals, dispatched⟩, distinct⟩ := h
  unfold State.arrive
  split
  · next room =>
    refine State.queuesBounded.settle ⟨⟨?_, refusals, dispatched⟩, distinct⟩
    simpa using room
  · split
    · next room =>
      refine State.queuesBounded.settle ⟨⟨queue, ?_, ?_⟩, distinct⟩
      · simpa [Mli.refusals, queueFullReply, List.filter_append] using room
      · simpa [queueFullReply, List.filter_append] using dispatched
    · exact ⟨⟨queue, refusals, dispatched⟩, distinct⟩

theorem reset (h : s.mli.queue = []) (h' : s.mli.replies = []) (h'' : s.notices = []) : s.queuesBounded := by
  rw [State.queuesBounded, State.linkBounds, h, h', h'']
  exact ⟨by decide, List.Pairwise.nil⟩

theorem frameSent (h : s.queuesBounded) : s.frameSent.queuesBounded := by
  unfold State.frameSent
  split
  · exact h
  · split
    · exact reset rfl rfl rfl
    · exact settle (h.of_same rfl rfl rfl)

theorem finish (h : s.queuesBounded) (only : s.Only u) (limits done : List Notice) :
    (s.finish u limits done).queuesBounded := by
  refine startOutbound ⟨?_, ?_⟩
  · rw [State.linkBounds, State.mli_conclude, only.mli]
    exact h.1
  · rw [State.notices_conclude, only.notices]
    exact h.2.handNotices _

theorem occurs (h : s.queuesBounded) (o : s.Occurs t) : t.queuesBounded := by
  cases o with
  | event limits done _ only => exact h.finish only limits done
  | arrive f => exact State.queuesBounded.arrive (s := s.hunt) h f
  | sent => exact h.frameSent
  | aside => exact h
  | reset => exact State.queuesBounded.reset rfl rfl rfl

end State.queuesBounded

/-- Settles O5: a dispatch needs an empty place, an arrival a free one, and a handed notice joins one of its kind and subject. -/
theorem queuesKeepTheirBounds : Obligations.QueuesKeepTheirBounds := by
  intro s t bounded taken
  unfold step at taken
  split at taken
  · cases taken; exact bounded
  · next rest _ =>
    exact State.queuesBounded.occurs (s := { s with pending := rest }) bounded (.of_exec taken)

end Sys2Proof.Machine

/-! SUPPORT. Plan entries: how their codes are decoded, and what the check of R3 stores. -/

namespace Sys2Proof.Machine

/-! ## Decoding -/

theorem expectationOf_eq_none_iff (b : Byte) : expectationOf b = none ↔ 2 < b.toNat := by
  unfold expectationOf
  split
  · next h => subst h; decide
  · split
    · next h => subst h; decide
    · split
      · next h => subst h; decide
      · simp only [true_iff]; bv_omega

theorem lanePolicyOf_eq_none_iff (b : Byte) : lanePolicyOf b = none ↔ 2 < b.toNat := by
  unfold lanePolicyOf
  split
  · next h => subst h; decide
  · split
    · next h => subst h; decide
    · split
      · next h => subst h; decide
      · simp only [true_iff]; bv_omega

theorem recoveryOf_eq_none_iff (b : Byte) : recoveryOf b = none ↔ 1 < b.toNat := by
  unfold recoveryOf
  split
  · next h => subst h; decide
  · split
    · next h => subst h; decide
    · simp only [true_iff]; bv_omega

theorem minWidthOf_eq_none_iff (b : Byte) : minWidthOf b = none ↔ b ≠ 1 ∧ b ≠ 2 ∧ b ≠ 4 := by
  unfold minWidthOf
  split
  · next h => subst h; decide
  · split
    · next h => subst h; decide
    · split
      · next h => subst h; decide
      · simp only [true_iff]; exact ⟨‹_›, ‹_›, ‹_›⟩

theorem cableKindOf_eq_none_iff (b : Byte) : cableKindOf b = none ↔ 7 < b.toNat := by
  unfold cableKindOf
  split
  · simp only [reduceCtorEq, false_iff]; omega
  · simp only [true_iff]; omega

theorem expectationOf_eq_some {b : Byte} {x : Expectation} (h : expectationOf b = some x) :
    (x = .planned ↔ b = 0) ∧ (x = .unused ↔ b = 1) := by
  unfold expectationOf at h
  split at h
  · next e => cases h; subst e; decide
  · split at h
    · next e => cases h; subst e; decide
    · split at h
      · next e => cases h; subst e; decide
      · cases h

theorem lanePolicyOf_eq_some {b : Byte} {x : LanePolicy} (h : lanePolicyOf b = some x) :
    (x = .strict ↔ b = 0) ∧ (x = .reversalOk ↔ b = 1) := by
  unfold lanePolicyOf at h
  split at h
  · next e => cases h; subst e; decide
  · split at h
    · next e => cases h; subst e; decide
    · split at h
      · next e => cases h; subst e; decide
      · cases h

theorem recoveryOf_eq_some {b : Byte} {x : Recovery} (h : recoveryOf b = some x) : x = .auto ↔ b = 0 := by
  unfold recoveryOf at h
  split at h
  · next e => cases h; subst e; decide
  · split at h
    · next e => cases h; subst e; decide
    · cases h

theorem minWidthOf_eq_some {b : Byte} {x : MinWidth} (h : minWidthOf b = some x) : x.lanes = b.toNat := by
  unfold minWidthOf at h
  split at h
  · next e => cases h; subst e; rfl
  · split at h
    · next e => cases h; subst e; rfl
    · split at h
      · next e => cases h; subst e; rfl
      · cases h

theorem cableKindOf_eq_some {b : Byte} {x : Fin 8} (h : cableKindOf b = some x) : x.val = b.toNat := by
  unfold cableKindOf at h
  split at h
  · cases h; rfl
  · cases h

theorem portOf_eq_some {b : Byte} {p : Fin 32} (h : portOf b = some p) : p.val = b.toNat := by
  unfold portOf at h
  split at h
  · cases h; rfl
  · cases h

/-! ## Peer and window -/

theorem entryPeer_eq_none_iff (x : Expectation) (chassis : BitVec 48) (port : Byte) :
    entryPeer x chassis port = none ↔ x = .planned ∧ (chassis = 0 ∨ 31 < port.toNat) := by
  cases x with
  | unused | any => simp [entryPeer]
  | planned =>
    by_cases range : port.toNat ≤ 31
    · simp [entryPeer, portOf_of_le range]; omega
    · simp [entryPeer, portOf_of_gt (Nat.lt_of_not_le range)]; omega

theorem entryPeer_eq_some {x : Expectation} {chassis : BitVec 48} {port : Byte} {peer : Option PeerId}
    (h : entryPeer x chassis port = some peer) :
    (x = .planned ↔ peer.isSome) ∧ (∀ i ∈ peer, i.chassis ≠ 0) ∧
      ∀ i, peer = some i ↔ x = .planned ∧ i.chassis = chassis ∧ i.port.val = port.toNat := by
  cases x with
  | unused | any => cases h; simp
  | planned =>
    change (match portOf port with
      | some p => if chassis = 0 then none else some (some ⟨chassis, p⟩)
      | none => none) = some peer at h
    split at h
    · next p at_ =>
      split at h
      · cases h
      · next nonzero =>
        cases h
        refine ⟨by simp, by simpa using nonzero, fun i => ?_⟩
        rw [← portOf_eq_some at_]
        obtain ⟨c, q⟩ := i
        simp [Fin.ext_iff, eq_comm]
    · cases h

theorem entryWindow_eq_none_iff (presence : Byte) (low high : BitVec 16) :
    entryWindow presence low high = none ↔ presence.getLsbD 0 = true ∧ high.toNat < low.toNat := by
  unfold entryWindow
  split
  · next set => rw [and_iff_right set]; split <;> simp_all
  · next clear => exact iff_of_false nofun fun both => clear both.1

theorem entryWindow_eq_some {presence : Byte} {low high : BitVec 16} {window : Option Window}
    (h : entryWindow presence low high = some window) :
    window = (if presence.getLsbD 0 then some ⟨low.toNat, high.toNat⟩ else none)
      ∧ ∀ w ∈ window, w.low ≤ w.high ∧ w.high ≤ 65535 := by
  unfold entryWindow at h
  split at h
  · next set =>
    split at h
    · cases h
    · next ordered =>
      cases h
      refine ⟨(if_pos set).symm, fun w hw => ?_⟩
      cases hw
      exact ⟨Nat.le_of_not_lt ordered, Nat.le_of_lt_succ high.isLt⟩
  · next clear => cases h; exact ⟨(if_neg clear).symm, nofun⟩

/-! ## The check -/

/-- What R3 stores of an entry, its codes decoded. -/
def storedEntry (e : RawPlanEntry) (x : Expectation) (kind : Fin 8) (window : Option Window) (policy : LanePolicy)
    (width : MinWidth) (recovery : Recovery) (peer : Option PeerId) : PlanEntry where
  expectation := x
  peer := peer
  base :=
    { cableKind := kind
      window := window
      policy := policy
      minWidth := width
      skewLimit := if carriesSkew e then some (clampTo 16 480 e.skewLimit.toNat) else none
      recovery := recovery
      retryLimit := clampTo 0 15 e.retryLimit.toNat
      label := if e.labelLength = 0 then none else some (e.label.take e.labelLength.toNat) }

/-- An entry is refused when one of its parts is. -/
theorem checkEntry_eq_none_iff (e : RawPlanEntry) : checkEntry e = none ↔
    expectationOf e.expectation = none
      ∨ (∃ x, expectationOf e.expectation = some x ∧ entryPeer x e.peerChassis e.peerPort = none)
      ∨ cableKindOf e.cableKind = none
      ∨ entryWindow e.presence e.windowMin e.windowMax = none ∨ lanePolicyOf e.lanePolicy = none
      ∨ minWidthOf e.minWidth = none ∨ recoveryOf e.recovery = none ∨ 16 < e.labelLength.toNat := by
  unfold checkEntry
  cases expectationOf e.expectation with
  | none => simp
  | some x =>
    cases cableKindOf e.cableKind with
    | none => simp
    | some kind =>
      cases entryWindow e.presence e.windowMin e.windowMax with
      | none => simp
      | some window =>
        cases lanePolicyOf e.lanePolicy with
        | none => simp
        | some policy =>
          cases minWidthOf e.minWidth with
          | none => simp
          | some width =>
            cases recoveryOf e.recovery with
            | none => simp
            | some recovery => cases peer : entryPeer x e.peerChassis e.peerPort <;> simp [peer]

/-- A stored entry holds its decoded parts. -/
theorem checkEntry_eq_some {e : RawPlanEntry} {c : CheckedEntry} (h : checkEntry e = some c) :
    ∃ x kind window policy width recovery peer, expectationOf e.expectation = some x ∧ cableKindOf e.cableKind = some kind
      ∧ entryWindow e.presence e.windowMin e.windowMax = some window ∧ lanePolicyOf e.lanePolicy = some policy
      ∧ minWidthOf e.minWidth = some width ∧ recoveryOf e.recovery = some recovery
      ∧ entryPeer x e.peerChassis e.peerPort = some peer ∧ e.labelLength.toNat ≤ 16
      ∧ c = ⟨storedEntry e x kind window policy width recovery peer, entryClamps e⟩ := by
  unfold checkEntry at h
  split at h
  · next x kind window policy width recovery hx hk hw hp hm hr =>
    split at h
    · next peer at_ =>
      split at h
      · cases h
      · next short =>
        cases h
        exact ⟨x, kind, window, policy, width, recovery, peer, hx, hk, hw, hp, hm, hr, at_, Nat.le_of_not_lt short, rfl⟩
    · cases h
  · cases h

theorem clampTo_ne_iff {low high : Nat} (h : low ≤ high) (n : Nat) : clampTo low high n ≠ n ↔ n < low ∨ high < n := by
  rw [clampTo_eq h]; omega

theorem entryClamps_iff (e : RawPlanEntry) : entryClamps e = true ↔ 15 < e.retryLimit.toNat
    ∨ (e.presence.getLsbD 1 = true ∧ (e.skewLimit.toNat < 16 ∨ 480 < e.skewLimit.toNat)) := by
  simp only [entryClamps, carriesSkew, Bool.or_eq_true, Bool.and_eq_true, bne_iff_ne]
  rw [clampTo_ne_iff (by decide), clampTo_ne_iff (by decide)]
  simp only [Nat.not_lt_zero, false_or]
  exact or_comm

/-- Settles O16: the check is refused where a part of the entry does not decode (`checkEntry_eq_none_iff`), and stores the decoded
parts (`checkEntry_eq_some`). -/
theorem entryFieldsAreCheckedThenClamped : Obligations.EntryFieldsAreCheckedThenClamped := by
  intro e
  constructor
  · have peer : (∃ x, expectationOf e.expectation = some x ∧ entryPeer x e.peerChassis e.peerPort = none) ↔
        e.expectation = 0 ∧ (e.peerChassis = 0 ∨ 31 < e.peerPort.toNat) := by
      simp only [entryPeer_eq_none_iff]
      constructor
      · rintro ⟨x, at_, planned, bad⟩
        exact ⟨(expectationOf_eq_some at_).1.mp planned, bad⟩
      · rintro ⟨zero, bad⟩
        exact ⟨.planned, by rw [zero]; rfl, rfl, bad⟩
    rw [checkEntry_eq_none_iff, peer, expectationOf_eq_none_iff, cableKindOf_eq_none_iff, entryWindow_eq_none_iff,
      lanePolicyOf_eq_none_iff, minWidthOf_eq_none_iff, recoveryOf_eq_none_iff]
  · intro c stored
    obtain ⟨x, kind, window, policy, width, recovery, peer, hx, hk, hw, hp, hm, hr, hi, -, rfl⟩ := checkEntry_eq_some stored
    obtain ⟨planned, unused⟩ := expectationOf_eq_some hx
    obtain ⟨strict, reversal⟩ := lanePolicyOf_eq_some hp
    obtain ⟨-, -, peerOf⟩ := entryPeer_eq_some hi
    refine ⟨planned, unused, fun i => (peerOf i).trans (and_congr_left' planned), cableKindOf_eq_some hk,
      (entryWindow_eq_some hw).1, ?_, minWidthOf_eq_some hm, strict, reversal, recoveryOf_eq_some hr, ?_, rfl,
      entryClamps_iff e⟩
    · simp [storedEntry, carriesSkew, clampTo_eq]
    · simp [storedEntry, clampTo_eq]

end Sys2Proof.Machine

/-! SUPPORT. Effective expectations (R7, R16, R17). -/

namespace Sys2Proof.Machine

theorem Override.covers_iff (o : Override) (p : Fin 32) :
    o.covers p = true ↔ o.localStart.val ≤ p.val ∧ p.val < o.localStart.val + o.count := by
  simp [Override.covers]

/-! ## The override that covers a port -/

theorem firstCover_none {p : Fin 32} {overrides : List Override} (h : ∀ o ∈ overrides, ¬ o.covers p = true) (position : Nat) :
    firstCover p position overrides = none := by
  induction overrides generalizing position with
  | nil => rfl
  | cons o rest ih =>
    rw [firstCover, if_neg (h o (by simp))]
    exact ih (fun x hx => h x (by simp [hx])) _

theorem firstCover_first {p : Fin 32} {before after : List Override} {o : Override} (h : ∀ x ∈ before, ¬ x.covers p = true)
    (covers : o.covers p = true) (position : Nat) :
    firstCover p position (before ++ o :: after) = some (position + before.length, o) := by
  induction before generalizing position with
  | nil => exact if_pos covers
  | cons x rest ih =>
    rw [List.cons_append, firstCover, if_neg (h x (by simp)), ih (fun y hy => h y (by simp [hy])), List.length_cons]
    congr 2; omega

/-! ## The record -/

/-- The peer of an entry counts when the entry is PLANNED. -/
theorem plannedPeer_eq_some_iff (entry : Option PlanEntry) (i : PeerId) :
    plannedPeer entry = some i ↔ ∃ x, entry = some x ∧ x.expectation = .planned ∧ x.peer = some i := by
  cases entry with
  | none => simp [plannedPeer]
  | some x => cases kind : x.expectation <;> simp [plannedPeer, kind]

theorem effectiveOf_base (entry : Option PlanEntry) (overrides : List Override) (p : Fin 32) :
    (effectiveOf entry overrides p).base = baseFields entry := by
  unfold effectiveOf
  dsimp only
  split
  · rfl
  · split <;> rfl

theorem effectiveOf_uncovered {entry : Option PlanEntry} {overrides : List Override} {p : Fin 32}
    (h : firstCover p 0 overrides = none) : effectiveOf entry overrides p =
      ⟨baseExpectation entry, (plannedPeer entry).toList, plannedPeer entry, none, baseFields entry⟩ := by
  unfold effectiveOf
  rw [h]

theorem effectiveOf_replace {entry : Option PlanEntry} {overrides : List Override} {p : Fin 32} {position : Nat} {o : Override}
    (h : firstCover p 0 overrides = some (position, o)) (mode : o.mode = .replace) : effectiveOf entry overrides p =
      ⟨.planned, [o.alternate p], some (o.alternate p), some position, baseFields entry⟩ := by
  unfold effectiveOf
  rw [h]
  dsimp only
  rw [mode]

theorem effectiveOf_either {entry : Option PlanEntry} {overrides : List Override} {p : Fin 32} {position : Nat} {o : Override}
    (h : firstCover p 0 overrides = some (position, o)) (mode : o.mode = .either) : effectiveOf entry overrides p =
      ⟨.planned, o.alternate p :: (plannedPeer entry).toList.filter (fun i => decide (i ≠ o.alternate p)), none, some position,
        baseFields entry⟩ := by
  unfold effectiveOf
  rw [h]
  dsimp only
  rw [mode]

/-- The peer of the entry, without the alternate: at most one. -/
theorem otherPeers_length_nodup (peer : Option PeerId) (test : PeerId → Bool) :
    (peer.toList.filter test).length ≤ 1 ∧ (peer.toList.filter test).Nodup := by
  cases peer with
  | none => exact ⟨Nat.zero_le _, List.nodup_nil⟩
  | some i =>
    refine ⟨(List.length_filter_le ..), ?_⟩
    exact (List.nodup_singleton i).filter _

/-- At most two peers are accepted, each once (R7). -/
theorem effectiveOf_accepted (entry : Option PlanEntry) (overrides : List Override) (p : Fin 32) :
    (effectiveOf entry overrides p).accepted.length ≤ 2 ∧ (effectiveOf entry overrides p).accepted.Nodup := by
  cases cover : firstCover p 0 overrides with
  | none =>
    rw [effectiveOf_uncovered cover]
    cases plannedPeer entry with
    | none => exact ⟨Nat.zero_le _, List.nodup_nil⟩
    | some i => exact ⟨by simp, List.nodup_singleton i⟩
  | some found =>
    obtain ⟨position, o⟩ := found
    cases mode : o.mode with
    | replace =>
      rw [effectiveOf_replace cover mode]
      exact ⟨by simp, List.nodup_singleton _⟩
    | either =>
      rw [effectiveOf_either cover mode]
      obtain ⟨short, nodup⟩ := otherPeers_length_nodup (plannedPeer entry) fun i => decide (i ≠ o.alternate p)
      exact ⟨Nat.succ_le_succ short, List.nodup_cons.mpr ⟨by simp, nodup⟩⟩

theorem alternate_eq {o : Override} {p : Fin 32} {i : PeerId} (covers : o.covers p = true) (chassis : i.chassis = o.chassis)
    (port : i.port.val = o.portStart.val + (p.val - o.localStart.val)) : o.alternate p = i := by
  have starts := ((o.covers_iff p).mp covers).1
  obtain ⟨c, q⟩ := i
  subst chassis
  have range := q.isLt
  dsimp only at port
  simp only [Override.alternate, PeerId.mk.injEq, true_and, Fin.ext_iff, Fin.val_ofNat]
  omega

/-! ## Changes and retry counts -/

theorem samePeers_iff (a b : List PeerId) : samePeers a b = true ↔ ∀ i, i ∈ a ↔ i ∈ b := by
  simp only [samePeers, Bool.and_eq_true, List.all_eq_true, decide_eq_true_eq]
  exact ⟨fun ⟨ab, ba⟩ i => ⟨ab i, ba i⟩, fun h => ⟨fun i => (h i).mp, fun i => (h i).mpr⟩⟩

theorem recordChanged_iff (before after : Effective) : recordChanged before after = true ↔
    before.kind ≠ after.kind ∨ before.base ≠ after.base ∨ ∃ i, ¬ (i ∈ before.accepted ↔ i ∈ after.accepted) := by
  rw [← not_iff_not]
  simp only [recordChanged, Bool.not_eq_true', Bool.not_eq_false, Bool.and_eq_true, decide_eq_true_eq, samePeers_iff]
  push Not
  tauto

theorem clampRetry_manual {base : BaseFields} (h : base.recovery = .manual) (n : Nat) : clampRetry base n = 0 := by
  rw [clampRetry, h]

theorem clampRetry_auto {base : BaseFields} (h : base.recovery = .auto) (n : Nat) :
    clampRetry base n = min n base.retryLimit := by
  rw [clampRetry, h]

/-- Settles O19: `firstCover` finds the first override that covers the port, and the record is the one of its mode. -/
theorem effectiveExpectationsFollowTheOverrides : Obligations.EffectiveExpectationsFollowTheOverrides := by
  refine ⟨fun entry overrides p => ⟨?written, ?absent, fun uncovered => ?uncovered,
    fun before o after alternate split first covers chassis port => ?covered⟩, recordChanged_iff, fun base n =>
      ⟨fun manual => clampRetry_manual manual n, fun auto le => (clampRetry_auto auto n).trans (Nat.min_eq_left le),
        fun auto lt => (clampRetry_auto auto n).trans (Nat.min_eq_right (Nat.le_of_lt lt))⟩⟩
  case written =>
    rintro x rfl
    exact effectiveOf_base ..
  case absent =>
    rintro rfl
    exact effectiveOf_base ..
  case uncovered =>
    have none_ := firstCover_none (fun o mem => mt (o.covers_iff p).mp (uncovered o mem)) 0
    rw [effectiveOf_uncovered none_]
    refine ⟨rfl, fun i => ?_, plannedPeer_eq_some_iff entry, ?_, ?_⟩
    · dsimp only
      rw [← plannedPeer_eq_some_iff, Option.mem_toList]
    · rintro x rfl; rfl
    · rintro rfl; rfl
  case covered =>
    have covers := (o.covers_iff p).mpr covers
    have cover := firstCover_first (after := after) (fun x mem => mt (x.covers_iff p).mp (first x mem)) covers 0
    rw [← split, Nat.zero_add] at cover
    have same := alternate_eq covers chassis port
    have nodup := (effectiveOf_accepted entry overrides p).2
    cases mode : o.mode with
    | replace =>
      rw [effectiveOf_replace cover mode, same] at nodup ⊢
      exact ⟨rfl, rfl, nodup, fun _ => ⟨fun i => List.mem_singleton, rfl⟩, nofun⟩
    | either =>
      rw [effectiveOf_either cover mode, same] at nodup ⊢
      refine ⟨rfl, rfl, nodup, nofun, fun _ => ⟨fun i => ?_, rfl⟩⟩
      dsimp only
      rw [← plannedPeer_eq_some_iff, List.mem_cons, List.mem_filter, Option.mem_toList, decide_eq_true_eq]
      tauto

end Sys2Proof.Machine

/-! SUPPORT. Parameters: what a pair assigns, and what one step of CONFIG_SET leaves (R180). -/

namespace Sys2Proof.Machine

/-! ## The fields after an assignment -/

section
variable (pr : Params) (id : Byte) (v : BitVec 48)

@[simp] theorem Params.assign_chassisId : (pr.assign id v).chassisId = if id.toNat = 1 then v else pr.chassisId := by
  unfold Params.assign
  dsimp only
  repeat' split
  all_goals simp_all

@[simp] theorem Params.assign_beaconInterval :
    (pr.assign id v).beaconInterval = if id.toNat = 2 then pr.fit id v else pr.beaconInterval := by
  unfold Params.assign
  dsimp only
  repeat' split
  all_goals simp_all

@[simp] theorem Params.assign_silenceLimit :
    (pr.assign id v).silenceLimit = if id.toNat = 3 then pr.fit id v else pr.silenceLimit := by
  unfold Params.assign
  dsimp only
  repeat' split
  all_goals simp_all

@[simp] theorem Params.assign_sidebandTimeout :
    (pr.assign id v).sidebandTimeout = if id.toNat = 4 then pr.fit id v else pr.sidebandTimeout := by
  unfold Params.assign
  dsimp only
  repeat' split
  all_goals simp_all

@[simp] theorem Params.assign_laneLockTimeout :
    (pr.assign id v).laneLockTimeout = if id.toNat = 5 then pr.fit id v else pr.laneLockTimeout := by
  unfold Params.assign
  dsimp only
  repeat' split
  all_goals simp_all

@[simp] theorem Params.assign_alignTimeout :
    (pr.assign id v).alignTimeout = if id.toNat = 6 then pr.fit id v else pr.alignTimeout := by
  unfold Params.assign
  dsimp only
  repeat' split
  all_goals simp_all

@[simp] theorem Params.assign_verifyTimeout :
    (pr.assign id v).verifyTimeout = if id.toNat = 7 then pr.fit id v else pr.verifyTimeout := by
  unfold Params.assign
  dsimp only
  repeat' split
  all_goals simp_all

@[simp] theorem Params.assign_presenceDebounce :
    (pr.assign id v).presenceDebounce = if id.toNat = 8 then pr.fit id v else pr.presenceDebounce := by
  unfold Params.assign
  dsimp only
  repeat' split
  all_goals simp_all

@[simp] theorem Params.assign_backoffBase :
    (pr.assign id v).backoffBase = if id.toNat = 9 then pr.fit id v else pr.backoffBase := by
  unfold Params.assign
  dsimp only
  repeat' split
  all_goals simp_all

@[simp] theorem Params.assign_backoffCap : (pr.assign id v).backoffCap =
    if id.toNat = 9 then max (pr.fit id v) pr.backoffCap else if id.toNat = 10 then pr.fit id v else pr.backoffCap := by
  unfold Params.assign
  dsimp only
  repeat' split
  all_goals simp_all

@[simp] theorem Params.assign_eqMethod :
    (pr.assign id v).eqMethod = if id.toNat = 11 then eqMethodOf (pr.fit id v) else pr.eqMethod := by
  unfold Params.assign
  dsimp only
  repeat' split
  all_goals simp_all

@[simp] theorem Params.assign_eqPassMv :
    (pr.assign id v).eqPassMv = if id.toNat = 12 then pr.fit id v else pr.eqPassMv := by
  unfold Params.assign
  dsimp only
  repeat' split
  all_goals simp_all

@[simp] theorem Params.assign_eqMinWindow :
    (pr.assign id v).eqMinWindow = if id.toNat = 13 then pr.fit id v else pr.eqMinWindow := by
  unfold Params.assign
  dsimp only
  repeat' split
  all_goals simp_all

@[simp] theorem Params.assign_holdPoint :
    (pr.assign id v).holdPoint = if id.toNat = 14 then holdPointOf (pr.fit id v) else pr.holdPoint := by
  unfold Params.assign
  dsimp only
  repeat' split
  all_goals simp_all

theorem kindOfId_eq_some_iff (k : Fin 8) : kindOfId id = some k ↔ id.toNat = 16 + k.val := by
  unfold kindOfId
  split
  · simp only [Option.some.injEq, Fin.ext_iff]; omega
  · simp only [reduceCtorEq, false_iff]; omega

theorem kindOfId_eq_none_iff : kindOfId id = none ↔ id.toNat < 16 ∨ 24 ≤ id.toNat := by
  unfold kindOfId
  split
  · simp only [reduceCtorEq, false_iff]; omega
  · simp only [true_iff]; omega

theorem Params.assign_cableDelays : (pr.assign id v).cableDelays = match kindOfId id with
    | some k => pr.cableDelays.set k (pr.fit id v)
    | none => pr.cableDelays := by
  have low (h : id.toNat < 16) : kindOfId id = none := (kindOfId_eq_none_iff id).mpr (.inl h)
  unfold Params.assign
  dsimp only
  split
  case h_15 => cases kindOfId id <;> rfl
  all_goals rw [low (by omega)]

theorem Params.assign_cableDelay (k : Fin 8) : (pr.assign id v).cableDelays.get k =
    if id.toNat = 16 + k.val then pr.fit id v else pr.cableDelays.get k := by
  simp only [Params.assign_cableDelays, ← kindOfId_eq_some_iff]
  cases at_ : kindOfId id with
  | none => exact (if_neg nofun).symm
  | some j =>
    dsimp only
    rw [Table.get_set]
    simp only [Option.some.injEq, eq_comm]

theorem ranged_iff : ranged id = true ↔ id.toNat ≠ 1 ∧ id.toNat ≠ 11 ∧ id.toNat ≠ 14 := by
  simp [ranged, ← BitVec.toNat_inj]

/-! ## The value of a parameter -/

theorem Params.value_cable (k : Fin 8) (at_ : id.toNat = 16 + k.val) : pr.value id = pr.cableDelays.get k := by
  unfold Params.value
  split
  case h_15 => rw [(kindOfId_eq_some_iff id k).mpr at_]
  all_goals omega

/-- What an identifier of Table 9-2 names: one of the fourteen parameters, or the delay of a cable kind. -/
theorem parameterId_cases {id : Byte} (mem : id ∈ parameterIds) :
    (1 ≤ id.toNat ∧ id.toNat ≤ 14) ∨ ∃ k : Fin 8, id.toNat = 16 + k.val := by
  have all : ∀ id ∈ parameterIds, (1 ≤ id.toNat ∧ id.toNat ≤ 14) ∨ 16 ≤ id.toNat ∧ id.toNat < 24 := by decide
  exact (all id mem).imp_right fun ⟨low, high⟩ => ⟨⟨id.toNat - 16, by omega⟩, by dsimp only; omega⟩

/-- A numeric parameter takes the value held in its range. -/
theorem Params.value_assign_self {id : Byte} (mem : id ∈ parameterIds) (numeric : ranged id = true) :
    (pr.assign id v).value id = pr.fit id v := by
  rcases parameterId_cases mem with ⟨low, high⟩ | ⟨k, at_⟩
  · unfold Params.value
    split
    case h_15 => simp only [imp_false] at *; omega
    all_goals simp_all [ranged_iff]
  · rw [Params.value_cable _ id k at_, Params.assign_cableDelay, if_pos at_]

/-- No other parameter changes, but for the cap that a new base raises (R180). -/
theorem Params.value_assign_other {id other : Byte} (mem : other ∈ parameterIds) (apart : other ≠ id)
    (cap : ¬ ((id = 9 ∧ pr.backoffCap < (pr.assign id v).backoffBase) ∧ other = 10)) :
    (pr.assign id v).value other = pr.value other := by
  have apart' : id.toNat ≠ other.toNat := fun e => apart (BitVec.eq_of_toNat_eq e.symm)
  rcases parameterId_cases mem with ⟨low, high⟩ | ⟨k, at_⟩
  · unfold Params.value
    split
    case h_15 => simp only [imp_false] at *; omega
    case h_10 ten =>
      rw [ten] at apart'
      rw [Params.assign_backoffCap]
      by_cases nine : id.toNat = 9
      · rw [if_pos nine]
        have base : id = 9 := BitVec.eq_of_toNat_eq nine
        have ten : other = 10 := BitVec.eq_of_toNat_eq ten
        simp only [base, ten, true_and, and_true, Params.assign_backoffBase, Nat.not_lt] at cap
        rw [base]
        exact Nat.max_eq_right cap
      · rw [if_neg nine, if_neg apart']
    all_goals simp_all
  · rw [Params.value_cable _ other k at_, Params.value_cable _ other k at_, Params.assign_cableDelay, if_neg (by omega)]

end

/-! ## Ranges (Table 9-2) -/

/-- The numeric parameters with their ranges; the cap's lower bound is the base in force. -/
def numericRows (base : Nat) : List (Byte × Nat × Nat) :=
  [(2, 1, 255), (3, 2, 15), (4, 20, 2000), (5, 1, 100), (6, 5, 500), (7, 50, 5000),
    (8, 10, 500), (9, 1, 1000), (10, base, 60000), (12, 20, 600), (13, 1, 16), (16, 3000, 6000), (17, 3000, 6000),
    (18, 3000, 6000), (19, 3000, 6000), (20, 3000, 6000), (21, 3000, 6000), (22, 3000, 6000), (23, 3000, 6000)]

theorem Params.range_of_row (pr : Params) : ∀ row ∈ numericRows pr.backoffBase, pr.range row.1 = row.2 := by
  simp only [numericRows, List.forall_mem_cons]
  exact ⟨rfl, rfl, rfl, rfl, rfl, rfl, rfl, rfl, rfl, rfl, rfl, rfl, rfl, rfl, rfl, rfl, rfl, rfl, rfl, nofun⟩

theorem numericRows_ordered {base : Nat} (h : base ≤ 60000) : ∀ row ∈ numericRows base, row.2.1 ≤ row.2.2 := by
  simp [numericRows, h]

theorem numericRows_ids (base : Nat) : (numericRows base).map Prod.fst = parameterIds.filter ranged := rfl

theorem ranged_iff_row (base : Nat) {id : Byte} (mem : id ∈ parameterIds) :
    ranged id = true ↔ ∃ row ∈ numericRows base, id = row.1 := by
  have : id ∈ (numericRows base).map Prod.fst ↔ ranged id = true := by
    rw [numericRows_ids, List.mem_filter, and_iff_right mem]
  rw [← this, List.mem_map]
  exact exists_congr fun row => and_congr_right fun _ => eq_comm

theorem Params.inRange.base_le {pr : Params} (h : pr.inRange) : pr.backoffBase ≤ 60000 := by
  obtain ⟨-, -, -, -, -, -, -, ⟨-, base⟩, -⟩ := h
  omega

theorem Params.fit_row {pr : Params} (h : pr.inRange) (v : BitVec 48) : ∀ row ∈ numericRows pr.backoffBase,
    pr.fit row.1 v = max row.2.1 (min row.2.2 (v.toNat % 65536)) := by
  intro row mem
  have : row.1 ∈ (numericRows pr.backoffBase).map Prod.fst := List.mem_map_of_mem mem
  rw [numericRows_ids, List.mem_filter] at this
  rw [Params.fit, if_pos this.2, pr.range_of_row row mem, clampTo_eq (numericRows_ordered h.base_le row mem)]
  rfl

theorem Params.fit_mem {pr : Params} (h : pr.inRange) (v : BitVec 48) : ∀ row ∈ numericRows pr.backoffBase,
    row.2.1 ≤ pr.fit row.1 v ∧ pr.fit row.1 v ≤ row.2.2 := by
  intro row mem
  have := numericRows_ordered h.base_le row mem
  rw [Params.fit_row h v row mem]
  omega

/-- An assignment keeps every parameter in its range. -/
theorem Params.inRange.assign {pr : Params} (h : pr.inRange) {id : Byte} (v : BitVec 48) : (pr.assign id v).inRange := by
  have fits (n : Byte) (low high : Nat) (mem : (n, low, high) ∈ numericRows pr.backoffBase) (at_ : id.toNat = n.toNat) :
      low ≤ pr.fit id v ∧ pr.fit id v ≤ high := by
    have : id = n := BitVec.eq_of_toNat_eq at_
    subst this
    exact Params.fit_mem h v _ mem
  obtain ⟨interval, silence, sideband, lock, align, verify, presence, base, cap, pass, window, cables⟩ := h
  have keep {low high n k x : Nat} (old : low ≤ x ∧ x ≤ high) (new : k = n → low ≤ pr.fit id v ∧ pr.fit id v ≤ high) :
      low ≤ (if k = n then pr.fit id v else x) ∧ (if k = n then pr.fit id v else x) ≤ high := by
    split
    · next e => exact new e
    · exact old
  have cableRows : ∀ k : Fin 8, (BitVec.ofNat 8 (16 + k.val), 3000, 6000) ∈ numericRows pr.backoffBase := by
    intro k; fin_cases k <;> simp [numericRows]
  have names : ∀ k : Fin 8, 16 + k.val = (BitVec.ofNat 8 (16 + k.val)).toNat := by decide
  refine ⟨?_, ?_, ?_, ?_, ?_, ?_, ?_, ?_, ?_, ?_, ?_, fun k => ?_⟩
  · rw [Params.assign_beaconInterval]; exact keep interval (fits 2 _ _ (by simp [numericRows]))
  · rw [Params.assign_silenceLimit]; exact keep silence (fits 3 _ _ (by simp [numericRows]))
  · rw [Params.assign_sidebandTimeout]; exact keep sideband (fits 4 _ _ (by simp [numericRows]))
  · rw [Params.assign_laneLockTimeout]; exact keep lock (fits 5 _ _ (by simp [numericRows]))
  · rw [Params.assign_alignTimeout]; exact keep align (fits 6 _ _ (by simp [numericRows]))
  · rw [Params.assign_verifyTimeout]; exact keep verify (fits 7 _ _ (by simp [numericRows]))
  · rw [Params.assign_presenceDebounce]; exact keep presence (fits 8 _ _ (by simp [numericRows]))
  · rw [Params.assign_backoffBase]; exact keep base (fits 9 _ _ (by simp [numericRows]))
  · have nine := fits 9 1 1000 (by simp [numericRows])
    have ten := fits 10 pr.backoffBase 60000 (by simp [numericRows])
    change id.toNat = 9 → _ at nine
    change id.toNat = 10 → _ at ten
    rw [Params.assign_backoffBase, Params.assign_backoffCap]
    split
    · next at_ => have := nine at_; omega
    · split
      · next at_ => exact ten at_
      · exact cap
  · rw [Params.assign_eqPassMv]; exact keep pass (fits 12 _ _ (by simp [numericRows]))
  · rw [Params.assign_eqMinWindow]; exact keep window (fits 13 _ _ (by simp [numericRows]))
  · rw [Params.assign_cableDelay]
    refine keep (cables k) fun at_ => fits (BitVec.ofNat 8 (16 + k.val)) _ _ ?_ ?_
    · exact cableRows k
    · rw [at_]; exact names k

/-! ## One pair -/

theorem applyPair_fst (acc : Params × List Byte) (pair : Byte × BitVec 48) :
    (applyPair acc pair).1 = acc.1.assign pair.1 pair.2 := rfl

/-- Identifiers are noted once and at the end. -/
def NotedAfter (ids later : List Byte) (noted : Byte → Prop) : Prop :=
  ∃ new, later = ids ++ new ∧ new.Nodup ∧ ∀ x, x ∈ new ↔ x ∉ ids ∧ noted x

theorem NotedAfter.none (ids : List Byte) : NotedAfter ids ids fun _ => False :=
  ⟨[], (List.append_nil _).symm, List.nodup_nil, fun x => by simp⟩

theorem NotedAfter.note {ids later : List Byte} {noted : Byte → Prop} (h : NotedAfter ids later noted) (id : Byte) (cond : Prop)
    [Decidable cond] : NotedAfter ids (if cond then noteClamped id later else later) fun x => noted x ∨ x = id ∧ cond := by
  obtain ⟨new, rfl, nodup, mem⟩ := h
  by_cases c : cond
  · rw [if_pos c, noteClamped]
    split
    · next known =>
      refine ⟨new, rfl, nodup, fun x => (mem x).trans ⟨fun h => ⟨h.1, .inl h.2⟩, fun ⟨fresh, h⟩ => ⟨fresh, ?_⟩⟩⟩
      rcases h with h | ⟨rfl, -⟩
      · exact h
      · exact ((mem x).mp ((List.mem_append.mp known).resolve_left fresh)).2
    · next fresh =>
      obtain ⟨freshIds, freshNew⟩ := not_or.mp (mt List.mem_append.mpr fresh)
      refine ⟨new ++ [id], List.append_assoc .., ?_, fun x => ?_⟩
      · rw [← List.concat_eq_append]
        exact nodup.concat freshNew
      · dsimp only
        rw [List.mem_append, mem, List.mem_singleton, and_iff_left c]
        constructor
        · rintro (⟨out, n⟩ | rfl)
          · exact ⟨out, .inl n⟩
          · exact ⟨freshIds, .inr rfl⟩
        · rintro ⟨out, n | e⟩
          · exact .inl ⟨out, n⟩
          · exact .inr e
  · rw [if_neg c]
    exact ⟨new, rfl, nodup, fun x => by rw [mem]; simp [c]⟩

/-- The identifiers a pair adds: its own where its range changed the value, and 10 where a new base raises the cap. -/
theorem applyPair_notes (pr : Params) (ids : List Byte) (id : Byte) (v : BitVec 48) :
    NotedAfter ids (applyPair (pr, ids) (id, v)).2 fun x =>
      x = id ∧ (ranged id = true ∧ pr.fit id v ≠ shortValue v) ∨ x = 10 ∧ (id = 9 ∧ pr.backoffCap < pr.fit id v) := by
  have own := (NotedAfter.none ids).note id (ranged id = true ∧ pr.fit id v ≠ shortValue v)
  simp only [false_or] at own
  exact own.note 10 _

/-- Settles O28: the fields of an assignment, the rows of Table 9-2, and the identifiers noted. -/
theorem parametersTakeTheirValues : Obligations.ParametersTakeTheirValues := by
  intro pr ids id v inRange mem method point r n numeric raised
  have short (h : ranged id = false) : pr.fit id v = n := by rw [Params.fit, if_neg (by simp [h])]; rfl
  have raised_iff : raised ↔ id = 9 ∧ pr.backoffCap < pr.fit id v := by
    refine and_congr_right fun nine => ?_
    change pr.backoffCap < (pr.assign id v).backoffBase ↔ _
    rw [Params.assign_backoffBase, if_pos (by rw [nine]; rfl)]
  have row_value : ∀ row ∈ numeric, id = row.1 → (pr.assign id v).value id = pr.fit id v := fun row at_ e =>
    Params.value_assign_self pr v mem ((ranged_iff_row pr.backoffBase mem).mpr ⟨row, at_, e⟩)
  refine ⟨fun row at_ e => ?rows, fun e => ?chassis, fun e => ?method, fun e => ?point, fun other known apart cap => ?others,
    fun up => ?cap, inRange.assign v, ?notes⟩
  case rows =>
    rw [show r.1.value id = _ from row_value row at_ e, e]
    exact Params.fit_row inRange v row at_
  case chassis =>
    change (pr.assign id v).chassisId = v
    rw [Params.assign_chassisId, if_pos (by rw [e]; rfl)]
  case method =>
    change (pr.assign id v).eqMethod = _
    rw [Params.assign_eqMethod, if_pos (by rw [e]; rfl), short (by rw [e]; rfl)]
    rfl
  case point =>
    change (pr.assign id v).holdPoint = _
    rw [Params.assign_holdPoint, if_pos (by rw [e]; rfl), short (by rw [e]; rfl)]
    rfl
  case others => exact Params.value_assign_other pr v known apart cap
  case cap =>
    obtain ⟨nine, lower⟩ := raised_iff.mp up
    change (pr.assign id v).backoffCap = (pr.assign id v).backoffBase
    have at_ : id.toNat = 9 := by rw [nine]; rfl
    rw [Params.assign_backoffCap, Params.assign_backoffBase, if_pos at_, if_pos at_]
    exact Nat.max_eq_left (Nat.le_of_lt lower)
  case notes =>
    obtain ⟨new, later, nodup, noted⟩ := applyPair_notes pr ids id v
    refine ⟨new, later, nodup, fun x => (noted x).trans (and_congr_right fun _ => or_congr (and_congr_right fun _ => ?_)
      (and_congr_right fun _ => raised_iff.symm))⟩
    rw [ranged_iff_row pr.backoffBase mem]
    refine and_congr_right fun ⟨row, at_, e⟩ => ?_
    rw [show r.1.value id = _ from row_value row at_ e]
    rfl

end Sys2Proof.Machine

/-! SUPPORT. What the Plan Table and the parameters hold stays in range (R1 to R5, R179, R180). -/

namespace Sys2Proof.Machine

/-! ## The Plan Table -/

/-- A label of a request that carries 16 label bytes. -/
theorem checkEntry_inRange {e : RawPlanEntry} {c : CheckedEntry} (stored : checkEntry e = some c) (label : e.label.length = 16) :
    c.entry.inRange := by
  obtain ⟨x, kind, window, policy, width, recovery, peer, -, -, hw, -, -, -, hi, short, rfl⟩ := checkEntry_eq_some stored
  obtain ⟨planned, chassis, -⟩ := entryPeer_eq_some hi
  refine ⟨⟨(clampTo_mem (Nat.zero_le 15) _).2, fun l hl => ?_, fun n hn => ?_, (entryWindow_eq_some hw).2⟩, planned, chassis⟩
  · dsimp only [storedEntry] at hl
    split at hl
    · cases hl
    · next nonzero =>
      cases hl
      have : e.labelLength.toNat ≠ 0 := fun h => nonzero (BitVec.eq_of_toNat_eq h)
      rw [List.length_take, label]
      omega
  · dsimp only [storedEntry] at hn
    split at hn
    · cases hn; exact clampTo_mem (by decide) _
    · cases hn

theorem checkOverride_inRange {o : RawOverride} {r : Override} (stored : checkOverride o = some r) : r.inRange := by
  by_cases bad : OverrideOutOfTable o
  · rw [checkOverride_of_outOfTable bad] at stored; cases stored
  · obtain ⟨r', stored', start, count, chassis, peerStart, -⟩ := checkOverride_of_not_outOfTable bad
    have same : r' = r := Option.some.inj (stored'.symm.trans stored)
    subst same
    simp only [OverrideOutOfTable, not_or, Nat.not_lt] at bad
    obtain ⟨-, nonzero, -, range, planet, -, peerRange, -⟩ := bad
    exact ⟨by omega, by omega, chassis ▸ planet, by omega⟩

theorem baseFields_inRange {entry : Option PlanEntry} (h : ∀ e ∈ entry, e.inRange) : (baseFields entry).inRange := by
  cases entry with
  | none => exact ⟨Nat.zero_le _, nofun, nofun, nofun⟩
  | some e => exact (h e rfl).1

namespace Plan.inRange

variable {pl : Plan}

theorem reset : Plan.reset.inRange := by
  refine ⟨Nat.zero_le _, Nat.zero_le _, nofun, fun p e he => ?_, fun p => ?_⟩
  · rw [Plan.reset, Table.get_replicate] at he; cases he
  · have : Plan.reset.cache.get p = absentEffective := Table.get_replicate ..
    rw [this]
    exact ⟨baseFields_inRange (entry := none) nofun, Nat.zero_le _, List.nodup_nil⟩

theorem begin_ (h : pl.inRange) (replace : Bool) : (pl.begin_ replace).inRange := by
  obtain ⟨-, count, overrides, entries, cache⟩ := h
  cases replace with
  | false => exact ⟨Nat.zero_le _, count, overrides, entries, cache⟩
  | true =>
    refine ⟨Nat.zero_le _, Nat.zero_le _, nofun, fun p e he => ?_, cache⟩
    change e ∈ (Table.replicate 32 none).get p at he
    rw [Table.get_replicate] at he
    cases he

theorem write (h : pl.inRange) (i : Fin 32) {entry : Option PlanEntry} (new : ∀ e ∈ entry, e.inRange) :
    (pl.write i entry).inRange := by
  obtain ⟨-, count, overrides, entries, cache⟩ := h
  refine ⟨i.isLt, count, overrides, fun p e he => ?_, cache⟩
  change e ∈ (pl.entries.set i entry).get p at he
  rw [Table.get_set] at he
  split at he
  · exact new e he
  · exact entries p e he

theorem append (h : pl.inRange) (room : pl.overrides.length < 16) {o : Override} (new : o.inRange) :
    Plan.inRange { pl with overrides := pl.overrides ++ [o] } := by
  obtain ⟨cursor, -, overrides, entries, cache⟩ := h
  refine ⟨cursor, by simpa using room, fun x hx => ?_, entries, cache⟩
  rcases List.mem_append.mp hx with hx | hx
  · exact overrides x hx
  · rw [List.mem_singleton.mp hx]; exact new

theorem delete (h : pl.inRange) (i : Nat) : Plan.inRange { pl with overrides := pl.overrides.eraseIdx i } := by
  obtain ⟨cursor, count, overrides, entries, cache⟩ := h
  exact ⟨cursor, (List.length_eraseIdx_le ..).trans count, fun x hx => overrides x (List.mem_of_mem_eraseIdx hx), entries, cache⟩

theorem close (h : pl.inRange) (generation : BitVec 16) : (pl.close generation).inRange := by
  obtain ⟨cursor, count, overrides, entries, -⟩ := h
  refine ⟨cursor, count, overrides, entries, fun p => ?_⟩
  have : (pl.close generation).cache.get p = effectiveOf (pl.entries.get p) pl.overrides p := Table.get_mapFin ..
  rw [this, effectiveOf_base]
  exact ⟨baseFields_inRange (entries p), effectiveOf_accepted ..⟩

end Plan.inRange

/-! ## The parameters -/

theorem Params.inRange.pairs {pairs : List (Byte × BitVec 48)} {acc : Params × List Byte} (h : acc.1.inRange) :
    (pairs.foldl applyPair acc).1.inRange := by
  induction pairs generalizing acc with
  | nil => exact h
  | cons pair rest ih => exact ih (h.assign pair.2)

/-- Pairs that pass their checks leave no chassis identifier of 0 in force where there was none (R180). -/
theorem chassisId_pairs {pairs : List (Byte × BitVec 48)} (passed : ∀ pair ∈ pairs, ¬ (pair.1 = 1 ∧ pair.2 = 0))
    {acc : Params × List Byte} (h : acc.1.chassisId ≠ 0) : (pairs.foldl applyPair acc).1.chassisId ≠ 0 := by
  induction pairs generalizing acc with
  | nil => exact h
  | cons pair rest ih =>
    refine ih (fun x hx => passed x (by simp [hx])) ?_
    rw [applyPair_fst, Params.assign_chassisId]
    split
    · next at_ => exact fun zero => passed pair (by simp) ⟨BitVec.eq_of_toNat_eq at_, zero⟩
    · exact h

theorem State.passed_of_configRefusal {s : State} {pairs : List (Byte × BitVec 48)} (h : s.configRefusal pairs = none) :
    ∀ pair ∈ pairs, pairRefused pair = false := by
  unfold State.configRefusal at h
  split at h
  · cases h
  · next passed => simpa using passed

/-! ## From the answers to every step -/

/-- Two states with the same plan, parameters and device state. -/
structure State.SameStored (s t : State) : Prop where
  plan : t.plan = s.plan
  params : t.mli.params = s.mli.params
  device : t.mli.device = s.mli.device

/-- What is stored is in range, and the device is RUNNING just while it has a chassis identifier. -/
abbrev State.stored (s : State) : Prop := s.plan.inRange ∧ s.params.inRange ∧ s.deviceLaw

namespace State.stored

variable {s t u : State}

theorem of_same (h : s.stored) (same : s.SameStored t) : t.stored := by
  rw [State.stored, State.deviceLaw, State.params, same.plan, same.params, same.device]
  exact h

theorem of_only (h : s.stored) (only : s.Only t) : t.stored := h.of_same ⟨only.plan, by rw [only.mli], by rw [only.mli]⟩

theorem withPlan (h : s.stored) {pl : Plan} (range : pl.inRange) : (s.withPlan pl).stored := ⟨range, h.2⟩

theorem startOutbound (h : s.stored) : s.startOutbound.stored := by
  rcases s.startOutbound_cases with ⟨e, -⟩ | ⟨_, _, _, _, e⟩ | ⟨_, _, _, _, _, _, e⟩ <;> rw [e] <;> exact h

/-- New parameters, and entry to RUNNING with the first chassis identifier (R179). -/
theorem applyConfig (h : s.stored) {pr : Params} (range : pr.inRange) (keeps : s.params.chassisId ≠ 0 → pr.chassisId ≠ 0) :
    (s.applyConfig pr).stored := by
  obtain ⟨plan, -, device⟩ := h
  unfold State.applyConfig
  dsimp only
  split
  · next enters => exact ⟨plan, range, iff_of_true rfl enters.2⟩
  · next stays =>
    refine ⟨plan, range, fun running => keeps (device.mp running), fun nonzero => ?_⟩
    change s.mli.device = .running
    cases at_ : s.mli.device with
    | running => rfl
    | unconfigured => exact absurd ⟨at_, nonzero⟩ stays

theorem configSet (h : s.stored) (pairs : List (Byte × BitVec 48)) : (s.configSet pairs).state.stored := by
  unfold State.configSet
  split
  · exact h
  · next taken =>
    have passed : ∀ pair ∈ pairs, ¬ (pair.1 = 1 ∧ pair.2 = 0) := fun pair mem bad => by
      have := State.passed_of_configRefusal taken pair mem
      simp [pairRefused, bad.1, bad.2] at this
    have range : (pairs.foldl applyPair (s.params, [])).1.inRange := Params.inRange.pairs h.2.1
    have keeps : s.params.chassisId ≠ 0 → (pairs.foldl applyPair (s.params, [])).1.chassisId ≠ 0 :=
      chassisId_pairs (acc := (s.params, [])) passed
    split
    · next e => rw [e] at range keeps; exact h.applyConfig range keeps
    · next e => rw [e] at range keeps; exact h.applyConfig range keeps

theorem planBegin (h : s.stored) (payload : List Byte) : (s.takePlanBegin payload).state.stored := by
  unfold State.takePlanBegin
  dsimp only
  split
  · exact h
  · split
    · exact h.withPlan (h.1.begin_ _)
    · exact h

theorem planEntry (h : s.stored) (payload : List Byte) : (s.takePlanEntry payload).state.stored := by
  unfold State.takePlanEntry
  dsimp only
  split
  · exact h
  · split
    · exact h
    · next known =>
      split
      · exact h
      · split
        · exact h.withPlan (h.1.write _ nofun)
        · next notClear =>
          split
          · next c checked =>
            have length : payload.length = 39 := by
              simp only [Bool.and_eq_true, Bool.not_eq_true', not_and, Bool.not_eq_false] at known notClear
              exact of_decide_eq_true (known (by simpa using notClear)).2
            refine h.withPlan (h.1.write _ fun e he => ?_)
            cases he
            exact checkEntry_inRange checked (by rw [readPlanEntry, List.length_drop, length])
          · exact h

theorem planOverride (h : s.stored) (payload : List Byte) : (s.takePlanOverride payload).state.stored := by
  unfold State.takePlanOverride State.appendOverride State.deleteOverride
  dsimp only
  split
  · exact h
  · split
    · split
      · exact h
      · next o checked =>
        split
        · exact h
        · next room => exact h.withPlan (h.1.append (Nat.lt_of_not_le room) (checkOverride_inRange checked))
    · split
      · split
        · exact h.withPlan (h.1.delete _)
        · exact h
      · exact h

theorem planEnd (h : s.stored) (payload : List Byte) : (s.takePlanEnd payload).state.stored := by
  unfold State.takePlanEnd
  dsimp only
  split
  · exact h
  · split
    · exact h
    · refine (h.withPlan (h.1.close (BitVec.ofNat 16 (numberAt payload 0 2)))).of_only ?_
      exact (State.Only.mapPorts ..).trans (.verdicts ..)

theorem noticeControl (h : s.stored) (payload : List Byte) : (s.takeNoticeControl payload).state.stored := by
  unfold State.takeNoticeControl
  dsimp only
  split <;> exact h

theorem counters (h : s.stored) (payload : List Byte) : (s.takeCounters payload).state.stored := by
  unfold State.takeCounters
  dsimp only [takes]
  repeat' split
  all_goals exact h

theorem own (h : s.stored) (kind : Byte) (payload : List Byte) : (s.own kind payload).state.stored := by
  unfold State.own
  split
  · exact h.planBegin _
  · exact h.planEntry _
  · exact h.planOverride _
  · exact h.planEnd _
  · rw [s.state_planRead]; exact h
  · exact h.of_only (.portControl ..)
  · exact h.of_only (.portRestart ..)
  · exact h.of_only (.portRelease ..)
  · exact h.of_only (.laneEq ..)
  · exact h.of_only (.monitorSetup ..)
  · exact h.of_only (.monitorScan ..)
  · exact h.of_only (.monitorCancel ..)
  · rw [s.state_monitorRead]; exact h
  · exact h.of_only (.portTrim ..)
  · exact h
  · exact h.configSet _
  · rw [s.state_configGet]; exact h
  · exact h
  · exact h.noticeControl _
  · rw [s.state_portStatus]; exact h
  · rw [s.state_neighborRead]; exact h
  · rw [s.state_find]; exact h
  · exact h.counters _
  · exact h

theorem answer (h : s.stored) (f : Frame) : (s.answer f).state.stored := by
  unfold State.answer
  split
  · exact h
  · split
    · exact h
    · exact h.own ..

theorem tryDispatch (h : s.stored) : s.tryDispatch.stored := by
  unfold State.tryDispatch
  split
  · unfold State.dispatch
    split
    · exact h
    · next f rest _ =>
      exact (State.stored.answer (s := s.modMli fun m => { m with queue := rest }) h f).of_same ⟨rfl, rfl, rfl⟩
  · exact h

theorem settle (h : s.stored) : s.settle.stored := h.tryDispatch.startOutbound.tryDispatch

theorem arrive (h : s.stored) (f : Frame) : (s.arrive f).stored := by
  unfold State.arrive
  split
  · exact settle h
  · split
    · exact settle h
    · exact h

theorem params_reset : Params.reset.inRange := by decide

theorem device_reset : State.reset.deviceLaw := by decide

theorem frameSent (h : s.stored) : s.frameSent.stored := by
  unfold State.frameSent
  split
  · exact h
  · split
    · exact ⟨h.1, params_reset, device_reset⟩
    · exact settle h

theorem occurs (h : s.stored) (o : s.Occurs t) : t.stored := by
  cases o with
  | @event u limits done _ only =>
    have after : u.stored := h.of_only only
    exact startOutbound (s := s.conclude u limits done) after
  | arrive f => exact State.stored.arrive (s := s.hunt) h f
  | sent => exact h.frameSent
  | aside => exact h
  | reset => exact ⟨Plan.inRange.reset, params_reset, device_reset⟩

end State.stored

/-- Settles O8: what passes the checks of the requests is in range, and nothing else stores a plan field or a parameter. -/
theorem storedValuesStayInRange : Obligations.StoredValuesStayInRange := by
  intro s t stored taken
  unfold step at taken
  split at taken
  · cases taken; exact stored
  · next rest _ => exact State.stored.occurs (s := { s with pending := rest }) stored (.of_exec taken)

end Sys2Proof.Machine

/-! SUPPORT. Requests at an idle link that move no port: what they change, and the reply that goes out. -/

namespace Sys2Proof.Machine

/-! ## Ports that stand as they stood -/

/-- What the end of an event looks at in a port is as before: nothing is noticed of it and nothing prompts a beacon. -/
structure Port.Still (a b : Port) : Prop where
  state : b.state = a.state
  verdict : b.verdict = a.verdict
  ready : b.ready = a.ready
  phase : b.deskew.phase = a.deskew.phase
  kept : b.deskew.keptMask = a.deskew.keptMask
  fences : b.fenceMask = a.fenceMask
  tx : b.tx = a.tx

theorem Port.Still.refl (pt : Port) : pt.Still pt := ⟨rfl, rfl, rfl, rfl, rfl, rfl, rfl⟩

/-- What the end of an event looks at is as before, at every port and of the plan. -/
structure State.Still (s u : State) : Prop where
  state : u.plan.state = s.plan.state
  generation : u.plan.generation = s.plan.generation
  cache : u.plan.cache = s.plan.cache
  ports : ∀ p, (s.port p).Still (u.port p)

namespace State.Still

variable {s u : State} {p : Fin 32} {f : Port → Port}

theorem of_ports (plan : u.plan = s.plan) (ports : u.ports = s.ports) : s.Still u :=
  ⟨by rw [plan], by rw [plan], by rw [plan], fun p => by rw [State.port, State.port, ports]; exact .refl _⟩

theorem modPort (h : (s.port p).Still (f (s.port p))) : s.Still (s.modPort p f) :=
  ⟨rfl, rfl, rfl, fun q => by
    rw [State.port_modPort]
    split
    · next e => subst e; exact h
    · exact .refl _⟩

theorem advertised (h : s.Still u) (p : Fin 32) : u.advertised p = s.advertised p := by
  have pt := h.ports p
  have sent : (u.port p).sentKept = (s.port p).sentKept := by
    rw [Port.sentKept, Port.keptValid, pt.phase, pt.kept, Port.sentKept, Port.keptValid]
  simp only [State.advertised, State.advertisedPeer, State.expected, Port.keptValid, h.state, h.generation, h.cache, pt.state,
    pt.verdict, pt.ready, pt.phase, pt.fences, sent]

/-- The end of such an event hands the notices of its own, and nothing else. -/
theorem conclude (h : s.Still u) (settled : s.sidebandSettled) (limits done : List Notice) :
    s.conclude u limits done = { u with notices := handNotices (limits ++ done) u.notices } := by
  have ports : portNotices s u = [] := by
    have : ∀ p, (s.port p).noticeDue (u.port p) = false := fun p => Port.noticeDue_same (h.ports p).state.symm (h.ports p).verdict.symm
    simp [portNotices, this]
  have notices : eventNotices s u limits done = limits ++ done := by
    simp [eventNotices, planNotices, h.state, ports]
  have same : u.ports.mapFin (concludePort s u) = u.ports := Table.mapFin_same _ _ fun p => by
    have pt := h.ports p
    refine concludePort_quiet ?_ (promptDue_same pt.state (h.advertised p)) ?_
    · change ((s.port p).state.bearing && !(u.port p).state.bearing) = false
      rw [pt.state, Bool.and_not_self]
    · change (u.port p).tx.settled = true
      rw [pt.tx]
      exact settled p
  unfold State.conclude
  rw [notices, same]

end State.Still

/-! ## Such requests at an idle link -/

/-- A request that leaves the ports as they stood changes what it says, hands its notices, and its reply is being sent. -/
theorem State.takeWhole_of_still {s u : State} (h : s.ready) {f : Frame} {st : Status} {content : List Byte}
    {done : List Notice} (answer : s.hunt.answer f = ⟨u.hunt, ⟨st, content, false⟩, done⟩) (still : s.Still u)
    (noReset : u.mli.resetPending = s.mli.resetPending) :
    s.takeWhole f = State.replying { u with notices := handNotices done u.notices } f.tag f.kind st content := by
  obtain ⟨idle, settled, -⟩ := h
  have conclusion : s.hunt.conclude u.hunt [] done = { u.hunt with notices := handNotices done u.notices } :=
    State.Still.conclude (s := s.hunt) (u := u.hunt) ⟨still.state, still.generation, still.cache, still.ports⟩ settled [] done
  have ⟨_, _, _, none_⟩ := idle
  rw [State.takeWhole_idle idle, answer]
  dsimp only
  rw [conclusion]
  simp [State.hunt, State.modMli, State.replying, replyTo, Answer.payload, noReset, none_]

/-- A request taken without notices of its own. -/
theorem State.takeWhole_of_takes_still {s u : State} (h : s.ready) {f : Frame} {st : Status} {content : List Byte}
    (answer : s.hunt.answer f = takes u.hunt st content) (still : s.Still u)
    (noReset : u.mli.resetPending = s.mli.resetPending) : s.takeWhole f = u.replying f.tag f.kind st content :=
  State.takeWhole_of_still h answer still noReset

/-- A request that only reports. -/
theorem State.takeWhole_of_view {s : State} (h : s.ready) {f : Frame} {st : Status} {content : List Byte}
    (answer : s.hunt.answer f = takes s.hunt st content) : s.takeWhole f = s.replying f.tag f.kind st content :=
  State.takeWhole_of_takes_still h answer (.of_ports rfl rfl) rfl

/-! ## Bytes of replies and payloads -/

theorem byte1_eq (n : Nat) : byte1 n = [BitVec.ofNat 8 n] := rfl

theorem byte1_toNat {b : Byte} {n : Nat} (h : b.toNat = n) : byte1 n = [b] := by
  rw [byte1_eq, ← h, BitVec.ofNat_toNat, BitVec.setWidth_eq]

theorem numberAt_numberBytes {before after : List Byte} {off len n : Nat} (place : before.length = off) (fits : n < 256 ^ len) :
    numberAt (before ++ (numberBytes len n ++ after)) off len = n := by
  have length := numberBytes_length len n
  rw [numberAt, ← place, List.drop_left, List.take_left' length, readNumber_numberBytes len n fits]

/-! ## NOTICE_CONTROL (R183) -/

/-- What NOTICE_CONTROL answers for an action of 0 to 2 and a flush flag. -/
theorem State.answer_noticeControl (s : State) (tag action : Byte) (flush : Bool) (known : action.toNat ≤ 2) :
    s.answer ⟨tag, 0x13, [action, if flush then 1 else 0]⟩ =
      takes { s with
          notices := if flush then [] else s.notices, mli := { s.mli with notify := notifyAfter action s.mli.notify } } .ok
        [if notifyAfter action s.mli.notify then 1 else 0, BitVec.ofNat 8 (if flush then s.notices.length else 0)] := by
  rw [s.answer_of_known rfl rfl]
  change s.takeNoticeControl [action, if flush then 1 else 0] = _
  unfold State.takeNoticeControl
  dsimp only
  cases flush with
  | false => rw [if_neg (by simpa [byteAt] using known)]; rfl
  | true => rw [if_neg (by simpa [byteAt] using known)]; rfl

/-- NOTICE_CONTROL at an idle link. -/
theorem State.takeWhole_noticeControl {s : State} (h : s.ready) (tag action : Byte) (flush : Bool) (known : action.toNat ≤ 2) :
    s.takeWhole ⟨tag, 0x13, [action, if flush then 1 else 0]⟩ =
      State.replying { s with
          notices := if flush then [] else s.notices, mli := { s.mli with notify := notifyAfter action s.mli.notify } } tag 0x13 .ok
        [if notifyAfter action s.mli.notify then 1 else 0, BitVec.ofNat 8 (if flush then s.notices.length else 0)] :=
  State.takeWhole_of_takes_still h (s.hunt.answer_noticeControl tag action flush known) (.of_ports rfl rfl) rfl

/-- Settles O30: the answer of NOTICE_CONTROL by action and flush flag. -/
theorem noticeControlFlushesThenSets : Obligations.NoticeControlFlushesThenSets := by
  intro s tag action ready
  refine ⟨?enable, ?disable, ?keep, fun high => ?refused, fun known => ?flush⟩
  case enable => exact congrArg Host.Outcome.next (State.takeWhole_noticeControl ready tag 0 false (by decide))
  case disable => exact congrArg Host.Outcome.next (State.takeWhole_noticeControl ready tag 1 false (by decide))
  case keep => exact congrArg Host.Outcome.next (State.takeWhole_noticeControl ready tag 2 false (by decide))
  case refused =>
    refine congrArg Host.Outcome.next (State.takeWhole_of_refuse ready ?_)
    rw [State.answer_of_known _ rfl rfl]
    change s.hunt.takeNoticeControl [action, 1] = _
    exact if_pos (.inl high)
  case flush => exact congrArg Host.Outcome.next (State.takeWhole_noticeControl ready tag action true known)

/-! ## LANE_EQ, MONITOR_SETUP and PORT_TRIM (R96, R112, R140) -/

theorem laneOf_of_gt {b : Byte} (h : 127 < b.toNat) : laneOf b = none := dif_neg (by omega)

theorem laneOf_of_eq {b : Byte} {g : Fin 128} (h : b.toNat = g.val) : laneOf b = some g := by
  have : b.toNat < 128 := by omega
  rw [laneOf, dif_pos this]
  exact congrArg some (Fin.ext h)

theorem portOf_of_eq {b : Byte} {p : Fin 32} (h : b.toNat = p.val) : portOf b = some p := by
  rw [portOf_of_le (by omega)]
  exact congrArg some (Fin.ext h)

theorem clampOffset_eq (n : Int) : clampOffset n = max (-64) (min 63 n) := by
  unfold clampOffset
  split
  · omega
  · split <;> omega

theorem Port.Still.modLane (l : Fin 4) (f : Lane → Lane) (pt : Port) : pt.Still (pt.modLane l f) := ⟨rfl, rfl, rfl, rfl, rfl, rfl, rfl⟩

/-- A lane setting stored at an idle link. -/
theorem State.takeWhole_lane {s : State} (h : s.ready) {f : Frame} {p : Fin 32} {l : Fin 4} {change : Lane → Lane} {st : Status}
    {content : List Byte} (answer : s.hunt.answer f = takes (s.hunt.modLane (globalLane p l) change) st content) :
    s.takeWhole f = State.replying (s.modPort p fun pt => pt.modLane l change) f.tag f.kind st content := by
  rw [State.modLane, lanePort_globalLane, lanePhysical_globalLane] at answer
  exact State.takeWhole_of_takes_still (u := s.modPort p fun pt => pt.modLane l change) h answer
    (.modPort (.modLane ..)) rfl

theorem State.answer_laneEq (s : State) (tag lane setting : Byte) : s.answer ⟨tag, 0x09, [lane, 0, setting]⟩ =
    match laneOf lane with
    | none => refuse s .argRange
    | some g => takes (s.modLane g fun ln => { ln with forced := some (forcedSetting setting) })
        (okStatus (decide (31 < setting.toNat))) (byte1 g.val ++ [1] ++ byte1 (forcedSetting setting).val) := by
  rw [s.answer_of_known rfl rfl]
  rfl

theorem State.answer_laneEqClear (s : State) (tag lane : Byte) : s.answer ⟨tag, 0x09, [lane, 1, 0]⟩ =
    match laneOf lane with
    | none => refuse s .argRange
    | some g => takes (s.modLane g fun ln => { ln with forced := none }) .ok (byte1 g.val ++ [0, 0]) := by
  rw [s.answer_of_known rfl rfl]
  rfl

/-- The setup that MONITOR_SETUP stores: offset and limits held in their ranges. -/
def heldSetup (offset : Byte) (low high : BitVec 16) : MonitorSetup :=
  ⟨clampOffset offset.toInt, min 1023 low.toNat, min 1023 high.toNat⟩

theorem heldSetup_ne_iff (offset : Byte) (low high : BitVec 16) :
    heldSetup offset low high ≠ ⟨offset.toInt, low.toNat, high.toNat⟩ ↔
      ¬ (-64 ≤ offset.toInt ∧ offset.toInt ≤ 63 ∧ low.toNat ≤ 1023 ∧ high.toNat ≤ 1023) := by
  rw [heldSetup, clampOffset_eq, ne_eq, not_iff_not, MonitorSetup.mk.injEq]
  omega

theorem State.answer_monitorSetup (s : State) (tag lane offset : Byte) (low high : BitVec 16) :
    s.answer ⟨tag, 0x0A, [lane, offset] ++ byte2 low.toNat ++ byte2 high.toNat⟩ =
      match laneOf lane with
      | none => refuse s .argRange
      | some g =>
        if high.toNat < low.toNat then refuse s .argRange
        else takes (s.withMonitor { s.monitor with setups := s.monitor.setups.set g (heldSetup offset low high) })
            (okStatus (decide (heldSetup offset low high ≠ ⟨offset.toInt, low.toNat, high.toNat⟩)))
            (byte1 g.val ++ signedBytes 1 (heldSetup offset low high).offset ++ byte2 (heldSetup offset low high).low
              ++ byte2 (heldSetup offset low high).high) := by
  have lowRead : numberAt ([lane, offset] ++ byte2 low.toNat ++ byte2 high.toNat) 2 2 = low.toNat := by
    rw [List.append_assoc]
    exact numberAt_numberBytes (before := [lane, offset]) rfl (by omega)
  have highRead : numberAt ([lane, offset] ++ byte2 low.toNat ++ byte2 high.toNat) 4 2 = high.toNat := by
    have := numberAt_numberBytes (before := [lane, offset] ++ byte2 low.toNat) (after := []) (off := 4) (len := 2)
      (n := high.toNat) rfl (by omega)
    rwa [List.append_nil] at this
  rw [s.answer_of_known rfl rfl]
  change s.takeMonitorSetup ([lane, offset] ++ byte2 low.toNat ++ byte2 high.toNat) = _
  unfold State.takeMonitorSetup
  dsimp only
  rw [lowRead, highRead]
  rfl

theorem State.answer_portTrim (s : State) (tag port : Byte) (trim : BitVec 16) :
    s.answer ⟨tag, 0x0E, port :: byte2 trim.toNat⟩ =
      match portOf port with
      | none => refuse s .argRange
      | some p => takes (s.modPort p fun pt => { pt with trim := min 255 trim.toNat }) (okStatus (decide (255 < trim.toNat)))
          (byte1 p.val ++ byte1 (min 255 trim.toNat)) := by
  have read : numberAt (port :: byte2 trim.toNat) 1 2 = trim.toNat := by
    have := numberAt_numberBytes (before := [port]) (after := []) (off := 1) (len := 2) (n := trim.toNat) rfl (by omega)
    rwa [List.append_nil] at this
  rw [s.answer_of_known rfl rfl]
  change s.takePortTrim (port :: byte2 trim.toNat) = _
  unfold State.takePortTrim
  dsimp only
  rw [read]
  rfl

/-- Settles O24: the answers of the three requests, each by the lane or port it names. -/
theorem laneAndPortSettingsAreStored : Obligations.LaneAndPortSettingsAreStored := by
  refine ⟨fun s tag lane setting ready => ⟨fun high => ⟨?eqRange, ?clearRange⟩, fun p l at_ => ⟨fun x hx => ?eq, ?clear⟩⟩,
    fun s tag lane offset low high ready => ⟨fun bad => ?setupRange, fun g at_ ordered => ?setup⟩,
    fun s tag port trim ready => ⟨fun high => ?trimRange, fun p at_ => ?trim⟩⟩
  case eqRange =>
    refine congrArg Host.Outcome.next (State.takeWhole_of_refuse ready ?_)
    rw [State.answer_laneEq, laneOf_of_gt high]
  case clearRange =>
    refine congrArg Host.Outcome.next (State.takeWhole_of_refuse ready ?_)
    rw [State.answer_laneEqClear, laneOf_of_gt high]
  case eq =>
    have forced : forcedSetting setting = x := Fin.ext (by simp [forcedSetting, hx])
    have answer := s.hunt.answer_laneEq tag lane setting
    rw [laneOf_of_eq (g := globalLane p l) at_, forced] at answer
    refine congrArg Host.Outcome.next ((State.takeWhole_lane ready answer).trans ?_)
    rw [byte1_toNat (n := (globalLane p l).val) at_, okStatus]
    by_cases short : setting.toNat ≤ 31
    · rw [if_neg (by simpa using short), if_pos short]; rfl
    · rw [if_pos (by simpa using short), if_neg short]; rfl
  case clear =>
    have answer := s.hunt.answer_laneEqClear tag lane
    rw [laneOf_of_eq (g := globalLane p l) at_] at answer
    refine congrArg Host.Outcome.next ((State.takeWhole_lane ready answer).trans ?_)
    rw [byte1_toNat (n := (globalLane p l).val) at_]
    rfl
  case setupRange =>
    refine congrArg Host.Outcome.next (State.takeWhole_of_refuse ready ?_)
    rw [State.answer_monitorSetup]
    cases lane : laneOf lane with
    | none => rfl
    | some g =>
      refine if_pos (bad.resolve_left fun high => ?_)
      rw [laneOf_of_gt high] at lane
      cases lane
  case setup =>
    have answer := s.hunt.answer_monitorSetup tag lane offset low high
    rw [laneOf_of_eq at_] at answer
    dsimp only at answer
    rw [if_neg (Nat.not_lt_of_le ordered), byte1_toNat at_] at answer
    refine congrArg Host.Outcome.next ((State.takeWhole_of_takes_still
      (u := s.withMonitor { s.monitor with setups := s.monitor.setups.set g (heldSetup offset low high) }) ready answer
      (.of_ports rfl rfl) rfl).trans ?_)
    rw [okStatus, decide_eq_decide.mpr (heldSetup_ne_iff offset low high), heldSetup, clampOffset_eq]
    by_cases within : -64 ≤ offset.toInt ∧ offset.toInt ≤ 63 ∧ low.toNat ≤ 1023 ∧ high.toNat ≤ 1023
    · rw [if_neg (mt of_decide_eq_true (not_not_intro within)), if_pos within]; rfl
    · rw [if_pos (decide_eq_true within), if_neg within]; rfl
  case trimRange =>
    refine congrArg Host.Outcome.next (State.takeWhole_of_refuse ready ?_)
    rw [State.answer_portTrim, portOf_of_gt high]
  case trim =>
    have answer := s.hunt.answer_portTrim tag port trim
    rw [portOf_of_eq at_] at answer
    dsimp only at answer
    rw [byte1_toNat at_] at answer
    refine congrArg Host.Outcome.next ((State.takeWhole_of_takes_still
      (u := s.modPort p fun pt => { pt with trim := min 255 trim.toNat }) ready answer
      (.modPort ⟨rfl, rfl, rfl, rfl, rfl, rfl, rfl⟩) rfl).trans ?_)
    rw [okStatus]
    by_cases short : trim.toNat ≤ 255
    · rw [if_neg (by simpa using short), if_pos short]; rfl
    · rw [if_pos (by simpa using short), if_neg short]; rfl

end Sys2Proof.Machine

/-! SUPPORT. The requests that report: COUNTERS, IDENTIFY, CONFIG_GET, PORT_STATUS, NEIGHBOR_READ, PLAN_READ, MONITOR_READ. -/

namespace Sys2Proof.Machine

/-! ## COUNTERS (R191, R192) -/

theorem State.answer_counters (s : State) (tag port : Byte) (clear : Bool) :
    s.answer ⟨tag, 0x17, [port, if clear then 1 else 0]⟩ = match portOf port with
      | some p => takes (if clear then s.modPort p fun pt => { pt with counters := Counters.reset } else s) .ok
          ([port, if clear then 1 else 0] ++ (s.port p).counters.values.flatMap byte4)
      | none =>
        if port = 0xFF then takes (if clear then { s with frameErrors := 0 } else s) .ok
          ([port, if clear then 1 else 0] ++ byte4 s.frameErrors)
        else refuse s .argRange := by
  rw [s.answer_of_known rfl rfl]
  cases clear <;> rfl

/-- COUNTERS for a port at an idle link. -/
theorem State.takeWhole_counters {s : State} (h : s.ready) (tag : Byte) {port : Byte} {p : Fin 32} (at_ : port.toNat = p.val)
    (clear : Bool) : s.takeWhole ⟨tag, 0x17, [port, if clear then 1 else 0]⟩ =
      State.replying (if clear then s.modPort p fun pt => { pt with counters := Counters.reset } else s) tag 0x17 .ok
        ([port, if clear then 1 else 0] ++ (s.port p).counters.values.flatMap byte4) := by
  have answer := s.hunt.answer_counters tag port clear
  rw [portOf_of_eq at_] at answer
  cases clear with
  | false => exact State.takeWhole_of_view h answer
  | true =>
    exact State.takeWhole_of_takes_still (u := s.modPort p fun pt => { pt with counters := Counters.reset }) h answer
      (.modPort ⟨rfl, rfl, rfl, rfl, rfl, rfl, rfl⟩) rfl

/-- COUNTERS for the device at an idle link. -/
theorem State.takeWhole_frameErrors {s : State} (h : s.ready) (tag : Byte) (clear : Bool) :
    s.takeWhole ⟨tag, 0x17, [0xFF, if clear then 1 else 0]⟩ =
      State.replying (if clear then { s with frameErrors := 0 } else s) tag 0x17 .ok
        ([0xFF, if clear then 1 else 0] ++ byte4 s.frameErrors) := by
  have answer := s.hunt.answer_counters tag 0xFF clear
  cases clear with
  | false => exact State.takeWhole_of_view h answer
  | true => exact State.takeWhole_of_takes_still (u := { s with frameErrors := 0 }) h answer (.of_ports rfl rfl) rfl

theorem State.takeWhole_counters_of_gt {s : State} (h : s.ready) (tag : Byte) {port : Byte} (high : 31 < port.toNat)
    (low : port.toNat < 255) (clear : Bool) :
    s.takeWhole ⟨tag, 0x17, [port, if clear then 1 else 0]⟩ = s.replying tag 0x17 .argRange [] := by
  refine State.takeWhole_of_refuse h ?_
  rw [State.answer_counters, portOf_of_gt high]
  exact if_neg fun device => by rw [device] at low; exact absurd low (by decide)

/-- Settles O32: the answer of COUNTERS by port and clear flag. -/
theorem countersAreCapturedThenCleared : Obligations.CountersAreCapturedThenCleared := by
  intro s tag port ready
  refine ⟨fun high low => ⟨?_, ?_⟩, fun p at_ => ⟨?_, ?_⟩, fun device => ?_⟩
  · exact congrArg Host.Outcome.next (State.takeWhole_counters_of_gt ready tag high low false)
  · exact congrArg Host.Outcome.next (State.takeWhole_counters_of_gt ready tag high low true)
  · exact congrArg Host.Outcome.next (State.takeWhole_counters ready tag at_ false)
  · exact congrArg Host.Outcome.next (State.takeWhole_counters ready tag at_ true)
  · subst device
    exact ⟨congrArg Host.Outcome.next (State.takeWhole_frameErrors ready tag false),
      congrArg Host.Outcome.next (State.takeWhole_frameErrors ready tag true)⟩

/-! ## IDENTIFY, CONFIG_GET, PORT_STATUS and NEIGHBOR_READ -/

theorem State.answer_configGet (s : State) (tag : Byte) {ids : List Byte} (short : ids.length ≤ 30) :
    s.answer ⟨tag, 0x11, ids⟩ = s.takeConfigGet ids :=
  s.answer_of_known rfl (decide_eq_true short)

theorem State.takeConfigGet_of_known (s : State) {ids : List Byte} (known : ∀ id ∈ ids, id ∈ parameterIds) (some_ : ids ≠ []) :
    s.takeConfigGet ids = takes s .ok (byte1 ids.length ++ ids.flatMap fun id => id :: byte6 (s.params.value id)) := by
  have all : ¬ ids.any (fun id => decide (id ∉ parameterIds)) = true := by simpa using known
  refine (if_neg all).trans ?_
  cases ids with
  | nil => exact absurd rfl some_
  | cons id rest => rfl

theorem State.takeConfigGet_of_unknown (s : State) {ids : List Byte} (unknown : ∃ id ∈ ids, id ∉ parameterIds) :
    s.takeConfigGet ids = refuse s .argRange :=
  if_pos (by simpa using unknown)

theorem State.answer_portStatus (s : State) (tag port : Byte) : s.answer ⟨tag, 0x14, [port]⟩ = match portOf port with
    | none => refuse s .argRange
    | some p => takes s .ok ((s.port p).view (s.expected p).base.label) := by
  rw [s.answer_of_known rfl rfl]
  rfl

/-- OK where a count was not reduced. -/
theorem okStatus_fit (n count : Nat) : okStatus (decide (n ≠ count)) = if n = count then .ok else .okClamped := by
  rw [okStatus]
  by_cases same : n = count
  · rw [if_neg (mt of_decide_eq_true (not_not_intro same)), if_pos same]
  · rw [if_pos (decide_eq_true same), if_neg same]

theorem State.answer_neighborRead (s : State) (tag start count : Byte) : s.answer ⟨tag, 0x15, [start, count]⟩ =
    if 31 < start.toNat then refuse s .argRange
    else takes s (if fitCount start.toNat count.toNat 32 = count.toNat then .ok else .okClamped)
      (recordBytes 1 (portRange start.toNat (fitCount start.toNat count.toNat 32) fun p =>
        byte1 p.val ++ (s.port p).neighbor.bytes)) := by
  rw [s.answer_of_known rfl rfl, ← okStatus_fit]
  rfl

/-- Settles O26: each of the four requests reports, and its answer is the state it finds. -/
theorem viewsReportAndChangeNothing : Obligations.ViewsReportAndChangeNothing := by
  intro s tag ready
  refine ⟨?identify, fun ids short => ⟨fun unknown => ?unknown, fun known some_ => ?known⟩, ?all,
    fun port => ⟨fun high => ?statusRange, fun p at_ => ?status⟩,
    fun start count => ⟨fun high => ?neighborRange, fun low => ?neighbor⟩⟩
  case identify =>
    refine congrArg Host.Outcome.next (State.takeWhole_of_view (f := ⟨tag, 0x0F, []⟩) ready ?_)
    rw [State.answer_of_known _ rfl rfl]
    rfl
  case unknown =>
    refine congrArg Host.Outcome.next (State.takeWhole_of_refuse ready ?_)
    rw [State.answer_configGet _ tag short, State.takeConfigGet_of_unknown _ unknown]
  case known =>
    refine congrArg Host.Outcome.next (State.takeWhole_of_view (f := ⟨tag, 0x11, ids⟩) ready ?_)
    rw [State.answer_configGet _ tag short, State.takeConfigGet_of_known _ known some_]
    rfl
  case all =>
    refine congrArg Host.Outcome.next (State.takeWhole_of_view (f := ⟨tag, 0x11, []⟩) ready ?_)
    rw [State.answer_configGet _ tag (by decide)]
    rfl
  case statusRange =>
    refine congrArg Host.Outcome.next (State.takeWhole_of_refuse ready ?_)
    rw [State.answer_portStatus, portOf_of_gt high]
  case status =>
    refine congrArg Host.Outcome.next (State.takeWhole_of_view (f := ⟨tag, 0x14, [port]⟩) ready ?_)
    rw [State.answer_portStatus, portOf_of_eq at_]
    rfl
  case neighborRange =>
    refine congrArg Host.Outcome.next (State.takeWhole_of_refuse ready ?_)
    rw [State.answer_neighborRead, if_pos high]
  case neighbor =>
    refine congrArg Host.Outcome.next (State.takeWhole_of_view (f := ⟨tag, 0x15, [start, count]⟩) ready ?_)
    rw [State.answer_neighborRead, if_neg (Nat.not_lt_of_le low)]
    rfl

/-! ## PLAN_READ and MONITOR_READ (R21, R113) -/

theorem State.readIndexes_eq (s : State) (start count : Nat) (record : Fin 32 → List Byte) :
    s.readIndexes start count record =
      if 31 < start then refuse s .argRange
      else takes s (if fitCount start count 32 = count then .ok else .okClamped)
        (s.plan.header ++ recordBytes 11 (portRange start (fitCount start count 32) record)) := by
  rw [← okStatus_fit]
  rfl

theorem State.answer_planReadEntries (s : State) (tag start count : Byte) : s.answer ⟨tag, 0x05, [0, start, count]⟩ =
    s.readIndexes start.toNat count.toNat fun p => optionBytes 37 PlanEntry.bytes (s.plan.entries.get p) := by
  rw [s.answer_of_known rfl rfl]
  rfl

theorem State.answer_planReadEffective (s : State) (tag start count : Byte) : s.answer ⟨tag, 0x05, [1, start, count]⟩ =
    s.readIndexes start.toNat count.toNat fun p => (s.plan.cache.get p).bytes (s.plan.changed.get p) := by
  rw [s.answer_of_known rfl rfl]
  rfl

theorem State.answer_planReadOverrides (s : State) (tag start count : Byte) : s.answer ⟨tag, 0x05, [2, start, count]⟩ =
    s.readOverrides start.toNat count.toNat := by
  rw [s.answer_of_known rfl rfl]
  rfl

theorem State.readOverrides_of_lt (s : State) {start count : Nat} (range : start ≤ 15) (there : start < s.plan.overrides.length) :
    s.readOverrides start count = takes s (if fitCount start count s.plan.overrides.length = count then .ok else .okClamped)
      (s.plan.header ++ recordBytes 11
        (((s.plan.overrides.drop start).take (fitCount start count s.plan.overrides.length)).map Override.bytes)) := by
  rw [State.readOverrides, if_neg (Nat.not_lt_of_le range), if_neg (Nat.not_le_of_lt there), ← okStatus_fit]
  rfl

theorem State.readOverrides_of_ge (s : State) {start count : Nat} (range : start ≤ 15) (past : s.plan.overrides.length ≤ start) :
    s.readOverrides start count = takes s .ok (s.plan.header ++ recordBytes 11 []) := by
  rw [State.readOverrides, if_neg (Nat.not_lt_of_le range), if_pos past]
  rfl

theorem State.answer_monitorReadResults (s : State) (tag start count : Byte) : s.answer ⟨tag, 0x0D, [0, start, count]⟩ =
    if 127 < start.toNat then refuse s .argRange
    else takes s (if fitCount start.toNat count.toNat 128 = count.toNat then .ok else .okClamped)
      (s.monitor.header ++ recordBytes 9 ((((List.finRange 128).drop start.toNat).take
        (fitCount start.toNat count.toNat 128)).map fun g => (s.monitor.results.get g).bytes (s.monitor.setups.get g))) := by
  rw [s.answer_of_known rfl rfl, ← okStatus_fit]
  rfl

/-- Settles O20: the answers of the two requests by selector, each a view of the state it finds. -/
theorem planAndMonitorReadsChangeNothing : Obligations.PlanAndMonitorReadsChangeNothing := by
  refine ⟨fun s tag start count ready => ?plan, fun s tag start count ready => ?monitor⟩
  case plan =>
    refine ⟨fun high => ⟨?_, ?_⟩, fun high => ?_, fun low => ⟨?_, ?_⟩, fun low there => ?_, fun low past => ?_⟩
    · refine congrArg Host.Outcome.next (State.takeWhole_of_refuse ready ?_)
      rw [State.answer_planReadEntries, State.readIndexes_eq, if_pos high]
    · refine congrArg Host.Outcome.next (State.takeWhole_of_refuse ready ?_)
      rw [State.answer_planReadEffective, State.readIndexes_eq, if_pos high]
    · refine congrArg Host.Outcome.next (State.takeWhole_of_refuse ready ?_)
      rw [State.answer_planReadOverrides]
      exact if_pos high
    · refine congrArg Host.Outcome.next (State.takeWhole_of_view (f := ⟨tag, 0x05, [0, start, count]⟩) ready ?_)
      rw [State.answer_planReadEntries, State.readIndexes_eq, if_neg (Nat.not_lt_of_le low)]
      rfl
    · refine congrArg Host.Outcome.next (State.takeWhole_of_view (f := ⟨tag, 0x05, [1, start, count]⟩) ready ?_)
      rw [State.answer_planReadEffective, State.readIndexes_eq, if_neg (Nat.not_lt_of_le low)]
      rfl
    · refine congrArg Host.Outcome.next (State.takeWhole_of_view (f := ⟨tag, 0x05, [2, start, count]⟩) ready ?_)
      rw [State.answer_planReadOverrides]
      exact State.readOverrides_of_lt s.hunt low there
    · refine congrArg Host.Outcome.next (State.takeWhole_of_view (f := ⟨tag, 0x05, [2, start, count]⟩) ready ?_)
      rw [State.answer_planReadOverrides]
      exact State.readOverrides_of_ge s.hunt low past
  case monitor =>
    refine ⟨fun high => ?_, fun low => ?_, ?_⟩
    · refine congrArg Host.Outcome.next (State.takeWhole_of_refuse ready ?_)
      rw [State.answer_monitorReadResults, if_pos high]
    · refine congrArg Host.Outcome.next (State.takeWhole_of_view (f := ⟨tag, 0x0D, [0, start, count]⟩) ready ?_)
      rw [State.answer_monitorReadResults, if_neg (Nat.not_lt_of_le low)]
      rfl
    · refine congrArg Host.Outcome.next (State.takeWhole_of_view (f := ⟨tag, 0x0D, [1, 0, 0]⟩) ready ?_)
      rw [State.answer_of_known _ rfl rfl]
      rfl

end Sys2Proof.Machine

/-! SUPPORT. FIND: the walk, the search along it, and the answer (R188, R190). -/

namespace Sys2Proof.Machine

/-! ## The walk -/

theorem mem_walk_up (p q : Fin 32) : q ∈ walk p true ↔ p ≤ q := by
  change q ∈ (List.finRange 32).drop p.val ↔ _
  rw [List.mem_drop_iff_getElem]
  constructor
  · rintro ⟨j, _, rfl⟩
    simp only [List.getElem_finRange, Fin.le_def, Fin.val_cast]
    omega
  · intro le
    refine ⟨q.val - p.val, by simp only [List.length_finRange]; omega, ?_⟩
    simp only [List.getElem_finRange, Fin.ext_iff, Fin.val_cast]
    omega

theorem mem_walk_down (p q : Fin 32) : q ∈ walk p false ↔ q ≤ p := by
  change q ∈ ((List.finRange 32).take (p.val + 1)).reverse ↔ _
  rw [List.mem_reverse, List.mem_take_iff_getElem]
  constructor
  · rintro ⟨j, h, rfl⟩
    simp only [List.getElem_finRange, Fin.le_def, Fin.val_cast]
    omega
  · intro le
    refine ⟨q.val, by simp only [List.length_finRange]; omega, ?_⟩
    simp only [List.getElem_finRange, Fin.ext_iff, Fin.val_cast]

theorem allPorts_pairwise_lt : allPorts.Pairwise (· < ·) := by decide

theorem walk_up_pairwise (p : Fin 32) : (walk p true).Pairwise fun a b => a < b :=
  allPorts_pairwise_lt.sublist (List.drop_sublist ..)

theorem walk_down_pairwise (p : Fin 32) : (walk p false).Pairwise fun a b => b < a :=
  List.pairwise_reverse.mpr (allPorts_pairwise_lt.sublist (List.take_sublist ..))

/-! ## The search -/

variable {test : Fin 32 → Bool} {up : Bool}

theorem search_cons_of_not {p : Fin 32} {rest : List (Fin 32)} (miss : test p = false) (more : rest ≠ []) (n : Nat) :
    search test up n (p :: rest) = search test up (n + 1) rest := by
  cases rest with
  | nil => exact absurd rfl more
  | cons q rest => exact if_neg (by rw [miss]; nofun)

/-- The search stops at the first match. -/
theorem search_found {before after : List (Fin 32)} {q : Fin 32} (miss : ∀ r ∈ before, test r = false) (hit : test q = true)
    (n : Nat) : search test up n (before ++ q :: after) = ⟨some q, n + (before.length + 1), nextPort up q⟩ := by
  induction before generalizing n with
  | nil =>
    cases after with
    | nil => simp [search, hit]
    | cons x rest => simp [search, hit]
  | cons p rest ih =>
    rw [List.cons_append, search_cons_of_not (miss p (by simp)) (by simp), ih (fun r hr => miss r (by simp [hr]))]
    simp only [List.length_cons, Search.mk.injEq, true_and, and_true]
    omega

theorem search_missed {before : List (Fin 32)} {q : Fin 32} (miss : ∀ r ∈ before ++ [q], test r = false) (n : Nat) :
    search test up n (before ++ [q]) = ⟨none, n + (before.length + 1), nextPort up q⟩ := by
  induction before generalizing n with
  | nil => simp [search, miss q (by simp)]
  | cons p rest ih =>
    rw [List.cons_append, search_cons_of_not (miss p (by simp)) (by simp),
      ih fun r hr => miss r (by rw [List.cons_append]; exact List.mem_cons_of_mem _ hr)]
    simp only [List.length_cons, Search.mk.injEq, true_and, and_true]
    omega

theorem nextPort_bytes (up : Bool) (q : Fin 32) : optionBytes 1 byte1 (nextPort up q) =
    if up ∧ q.val < 31 then [1, BitVec.ofNat 8 (q.val + 1)]
    else if ¬ up ∧ 0 < q.val then [1, BitVec.ofNat 8 (q.val - 1)] else [0, 0] := by
  cases up with
  | true =>
    by_cases more : q.val < 31
    · simp [nextPort, more, optionBytes, byte1_eq]
    · simp [nextPort, more, optionBytes]
  | false =>
    by_cases more : 0 < q.val
    · simp [nextPort, more, optionBytes, byte1_eq]
    · simp [nextPort, more, optionBytes]

/-! ## The answer -/

/-- What FIND answers once its operands are decoded. -/
def State.findAnswer (s : State) (start : Fin 32) (direction : Byte) (limit : Nat) (sel : Selector) (cmp : Comparison)
    (key : BitVec 48) : Taken :=
  takes s (if 1 ≤ limit ∧ limit ≤ 32 then .ok else .okClamped)
    (search (fun p => (s.port p).matchesKey sel cmp key) (decide (direction = 0)) 0
      ((walk start (decide (direction = 0))).take (max 1 (min 32 limit)))).bytes

theorem okStatus_limit (limit : Nat) :
    okStatus (decide (clampTo 1 32 limit ≠ limit)) = if 1 ≤ limit ∧ limit ≤ 32 then .ok else .okClamped := by
  rw [okStatus_fit, clampTo_eq (by decide)]
  by_cases within : 1 ≤ limit ∧ limit ≤ 32
  · rw [if_pos within, if_pos (by omega)]
  · rw [if_neg within, if_neg (by omega)]

theorem State.answer_find (s : State) (tag start direction limit sel cmp : Byte) (key : BitVec 48) :
    s.answer ⟨tag, 0x16, [start, direction, limit, sel, cmp] ++ byte6 key.toNat⟩ = match portOf start with
      | none => refuse s .argRange
      | some p =>
        if 1 < direction.toNat then refuse s .argRange
        else match selectorOf sel, comparisonOf cmp with
          | some selector, some comparison => s.findAnswer p direction limit.toNat selector comparison key
          | _, _ => refuse s .argRange := by
  have read : BitVec.ofNat 48 (numberAt ([start, direction, limit, sel, cmp] ++ byte6 key.toNat) 5 6) = key := by
    have := numberAt_numberBytes (before := [start, direction, limit, sel, cmp]) (after := []) (off := 5) (len := 6)
      (n := key.toNat) rfl (by omega)
    rw [List.append_nil] at this
    rw [show byte6 key.toNat = numberBytes 6 key.toNat from rfl, this, BitVec.ofNat_toNat, BitVec.setWidth_eq]
  rw [s.answer_of_known rfl rfl]
  change s.takeFind ([start, direction, limit, sel, cmp] ++ byte6 key.toNat) = _
  unfold State.takeFind State.findAnswer
  dsimp only
  rw [read, ← okStatus_limit, ← clampTo_eq (by decide)]
  rfl

theorem selectorOf_of_gt {b : Byte} (h : 6 < b.toNat) : selectorOf b = none := by
  unfold selectorOf
  split
  case h_8 => rfl
  all_goals omega

theorem comparisonOf_of_gt {b : Byte} (h : 5 < b.toNat) : comparisonOf b = none := by
  unfold comparisonOf
  split
  case h_7 => rfl
  all_goals omega

theorem State.answer_find_refused (s : State) (tag : Byte) {start direction limit sel cmp : Byte} (key : BitVec 48)
    (bad : 31 < start.toNat ∨ 1 < direction.toNat ∨ 6 < sel.toNat ∨ 5 < cmp.toNat) :
    s.answer ⟨tag, 0x16, [start, direction, limit, sel, cmp] ++ byte6 key.toNat⟩ = refuse s .argRange := by
  rw [State.answer_find]
  split
  · rfl
  · next known =>
    split
    · rfl
    · next direct =>
      split
      · next hs hc =>
        rcases bad with bad | bad | bad | bad
        · rw [portOf_of_gt bad] at known; cases known
        · exact absurd bad direct
        · rw [selectorOf_of_gt bad] at hs; cases hs
        · rw [comparisonOf_of_gt bad] at hc; cases hc
      · rfl

/-- Settles O31: the walk lists the ports, the search stops at the first match, and FIND answers what the search found. -/
theorem findStopsAtTheFirstMatch : Obligations.FindStopsAtTheFirstMatch := by
  refine ⟨fun p q => ⟨mem_walk_up p q, mem_walk_down p q⟩, fun p => ⟨walk_up_pairwise p, walk_down_pairwise p⟩,
    fun s tag start direction limit sel cmp key ready => ⟨fun bad => ?refused,
      fun p selector comparison at_ direct hs hc => ?taken⟩⟩
  case refused => exact congrArg Host.Outcome.next (State.takeWhole_of_refuse ready (State.answer_find_refused _ tag key bad))
  case taken =>
    have answer := s.hunt.answer_find tag start direction limit sel cmp key
    rw [portOf_of_eq at_, hs, hc] at answer
    dsimp only at answer
    rw [if_neg (Nat.not_lt_of_le direct)] at answer
    have reply : exec (.find tag start direction limit sel cmp key) s = .next _ :=
      congrArg Host.Outcome.next (State.takeWhole_of_view ready answer)
    refine ⟨fun before q after split miss hit => ?found, fun before q split miss => ?missed⟩
    case found =>
      have result := search_found (up := decide (direction = 0)) (after := after) miss hit 0
      rw [← split, Nat.zero_add] at result
      refine (reply.trans (congrArg (fun r : Search => Host.Outcome.next (State.replying s tag 0x16 _ r.bytes)) result)).trans ?_
      rw [Search.bytes, nextPort_bytes]
      rfl
    case missed =>
      have miss' := miss
      rw [split] at miss'
      have result := search_missed (up := decide (direction = 0)) miss' 0
      rw [← split, Nat.zero_add] at result
      refine (reply.trans (congrArg (fun r : Search => Host.Outcome.next (State.replying s tag 0x16 _ r.bytes)) result)).trans ?_
      rw [Search.bytes, nextPort_bytes, split, List.length_append]
      rfl

end Sys2Proof.Machine

/-! SUPPORT. The requests that open a load and edit the working contents of the plan (R6, R11 to R13). -/

namespace Sys2Proof.Machine

/-! ## What an event leaves of a port -/

theorem concludePort_sameButTx {before after : State} {p : Fin 32} (kept : (before.port p).state.bearing = true →
    (after.port p).state.bearing = true) : Port.sameButTx (after.port p) (concludePort before after p (after.port p)) := by
  have stays : ((before.port p).state.bearing && !(after.port p).state.bearing) = false := by
    cases bears : (before.port p).state.bearing with
    | false => rfl
    | true => rw [kept bears]; rfl
  simp only [Port.sameButTx, concludePort, stays, Bool.false_eq_true, if_false]

/-! ## PLAN_BEGIN (R11) -/

theorem State.answer_planBegin (s : State) (tag mode : Byte) : s.answer ⟨tag, 0x01, [mode]⟩ =
    if s.plan.state = .loading then refuse s .wrongState
    else if mode = 0 ∨ mode = 1 then takes (s.withPlan (s.plan.begin_ (decide (mode = 0)))) .ok [0]
    else refuse s .argRange := by
  rw [s.answer_of_known rfl rfl]
  rfl

theorem plan_begin_eq (pl : Plan) (mode : Byte) : pl.begin_ (decide (mode = 0)) =
    { pl with
      state := .loading
      cursor := 0
      entries := if mode = 0 then .replicate 32 none else pl.entries
      overrides := if mode = 0 then [] else pl.overrides } := by
  by_cases replace : mode = 0
  · simp [Plan.begin_, replace]
  · simp [Plan.begin_]

/-- Entering LOADING hands PLAN_STATE alone: no port changes its state or its verdict (R22). -/
theorem State.notices_begin {s u : State} (ports : u.ports = s.ports) (left : s.plan.state ≠ .loading)
    (entered : u.plan.state = .loading) :
    eventNotices s u [] [] = [.planState .loading u.plan.generation u.plan.epoch 0] := by
  have still : portNotices s u = [] := by
    have : ∀ p, (s.port p).noticeDue (u.port p) = false := fun p => by
      rw [State.port, State.port, ports]
      exact Port.noticeDue_self _
    simp [portNotices, this]
  rw [eventNotices, still, planNotices, entered, if_neg left]
  rfl

/-- Settles O14: the answer of PLAN_BEGIN, and what the end of its event leaves of the ports. -/
theorem planBeginOpensALoad : Obligations.PlanBeginOpensALoad := by
  intro s tag mode ready
  refine ⟨fun loading => ?wrongState, fun other high => ?argRange, fun other low => ?taken⟩
  case wrongState =>
    refine congrArg Host.Outcome.next (State.takeWhole_of_refuse ready ?_)
    exact (State.answer_planBegin _ tag mode).trans (if_pos loading)
  case argRange =>
    refine congrArg Host.Outcome.next (State.takeWhole_of_refuse ready ?_)
    have unknown : ¬ (mode = 0 ∨ mode = 1) := by rintro (rfl | rfl) <;> exact absurd high (by decide)
    exact (State.answer_planBegin _ tag mode).trans ((if_neg other).trans (if_neg unknown))
  case taken =>
    have ⟨idle, settled, _⟩ := ready
    have known : mode = 0 ∨ mode = 1 := by bv_omega
    have answer : s.hunt.answer ⟨tag, 0x01, [mode]⟩ = takes (s.hunt.withPlan (s.plan.begin_ (decide (mode = 0)))) .ok [0] :=
      (State.answer_planBegin _ tag mode).trans ((if_neg other).trans (if_pos known))
    refine ⟨_, congrArg Host.Outcome.next (State.takeWhole_idle idle _), ?_⟩
    rw [answer]
    refine ⟨plan_begin_eq s.plan mode, ?_, ?_, fun p => ?_, rfl, rfl, rfl, rfl⟩
    · refine (State.notices_conclude ..).trans ?_
      dsimp only [takes]
      rw [State.notices_begin (s := s.hunt) (u := s.hunt.withPlan (s.plan.begin_ (decide (mode = 0)))) rfl other rfl]
      rfl
    · have ⟨_, _, _, noReset⟩ := idle
      simp [takes, State.hunt, State.modMli, State.replying, replyTo, Answer.payload, noReset]
    · change Port.sameButTx (s.port p) ((s.hunt.conclude (s.hunt.withPlan (s.plan.begin_ (decide (mode = 0)))) [] []).port p)
      rw [State.port_conclude]
      exact concludePort_sameButTx (after := s.hunt.withPlan (s.plan.begin_ (decide (mode = 0)))) fun bears => bears

/-! ## PLAN_ENTRY (R12, R13) -/

theorem rawEntryBytes_length {e : RawPlanEntry} (label : e.label.length = 16) : (rawEntryBytes e).length = 37 := by
  simp [rawEntryBytes, label]

theorem ofNat_readNumber {w len : Nat} (x : BitVec w) (fits : 2 ^ w = 256 ^ len) :
    BitVec.ofNat w (readNumber (numberBytes len x.toNat)) = x := by
  rw [readNumber_numberBytes len _ (fits ▸ x.isLt), BitVec.ofNat_toNat, BitVec.setWidth_eq]

theorem numberBytes_two (n : Nat) : numberBytes 2 n = [BitVec.ofNat 8 (n / 256), BitVec.ofNat 8 n] := rfl

theorem numberBytes_six (n : Nat) : numberBytes 6 n =
    [BitVec.ofNat 8 (n / 256 / 256 / 256 / 256 / 256), BitVec.ofNat 8 (n / 256 / 256 / 256 / 256),
      BitVec.ofNat 8 (n / 256 / 256 / 256), BitVec.ofNat 8 (n / 256 / 256), BitVec.ofNat 8 (n / 256), BitVec.ofNat 8 n] := rfl

/-- The owning block reads the entry that the request carries (R197). -/
theorem readPlanEntry_rawEntryBytes (address action : Byte) (e : RawPlanEntry) :
    readPlanEntry (address :: action :: rawEntryBytes e) = e := by
  have places : readPlanEntry (address :: action :: rawEntryBytes e) =
      { e with
        peerChassis := BitVec.ofNat 48 (readNumber (numberBytes 6 e.peerChassis.toNat))
        windowMin := BitVec.ofNat 16 (readNumber (numberBytes 2 e.windowMin.toNat))
        windowMax := BitVec.ofNat 16 (readNumber (numberBytes 2 e.windowMax.toNat))
        skewLimit := BitVec.ofNat 16 (readNumber (numberBytes 2 e.skewLimit.toNat)) } := by
    simp only [rawEntryBytes, byte6, byte2, numberBytes_six, numberBytes_two, List.cons_append, List.nil_append, readPlanEntry,
      byteAt, numberAt, List.getD_cons_succ, List.getD_cons_zero, List.drop_succ_cons, List.drop_zero, List.take_succ_cons,
      List.take_zero]
  rw [places, ofNat_readNumber _ rfl, ofNat_readNumber _ rfl, ofNat_readNumber _ rfl, ofNat_readNumber _ rfl]

theorem State.answer_planEntry (s : State) (tag address : Byte) {e : RawPlanEntry} (label : e.label.length = 16) :
    s.answer ⟨tag, 0x02, address :: 1 :: rawEntryBytes e⟩ =
      if s.plan.state ≠ .loading then refuse s .wrongState
      else match planIndex address s.plan.cursor with
        | .inl st => refuse s st
        | .inr i => match checkEntry e with
          | some c => s.writeEntry i (some c.entry) c.clamped
          | none => refuse s .argRange := by
  have length : (address :: 1 :: rawEntryBytes e).length = 39 := by simp [rawEntryBytes_length label]
  have allowed : lengthAllowed 0x02 (address :: 1 :: rawEntryBytes e).length = true := by rw [length]; rfl
  rw [s.answer_of_known (f := ⟨tag, 0x02, address :: 1 :: rawEntryBytes e⟩) rfl allowed]
  change s.takePlanEntry (address :: 1 :: rawEntryBytes e) = _
  unfold State.takePlanEntry
  rw [readPlanEntry_rawEntryBytes, length]
  rfl

theorem State.answer_planEntryClear (s : State) (tag address : Byte) : s.answer ⟨tag, 0x02, [address, 0]⟩ =
    if s.plan.state ≠ .loading then refuse s .wrongState
    else match planIndex address s.plan.cursor with
      | .inl st => refuse s st
      | .inr i => s.writeEntry i none false := by
  rw [s.answer_of_known rfl rfl]
  rfl

theorem planIndex_of_gt {address : Byte} (high : 31 < address.toNat) (low : address.toNat < 255) (cursor : Nat) :
    planIndex address cursor = .inl .argRange := by
  have explicit : address ≠ 0xFF := by rintro rfl; exact absurd low (by decide)
  rw [planIndex, if_neg explicit, portOf_of_gt high]

theorem planIndex_full {cursor : Nat} (full : 32 ≤ cursor) : planIndex 0xFF cursor = .inl .tableFull := by
  rw [planIndex, if_pos rfl, dif_neg (Nat.not_lt_of_le full)]

theorem planIndex_of_named {address : Byte} {cursor : Nat} {i : Fin 32}
    (named : address.toNat = i.val ∨ address = 0xFF ∧ cursor = i.val) : planIndex address cursor = .inr i := by
  rcases named with explicit | ⟨rfl, next⟩
  · have : address ≠ 0xFF := by
      rintro rfl
      have := i.isLt
      simp at explicit
      omega
    rw [planIndex, if_neg this, portOf_of_eq explicit]
  · have room : cursor < 32 := by omega
    rw [planIndex, if_pos rfl, dif_pos room]
    exact congrArg Sum.inr (Fin.ext next)

/-- An entry written at an idle link. -/
theorem State.takeWhole_writeEntry {s : State} (h : s.ready) {f : Frame} {i : Fin 32} {e : Option PlanEntry} {clamped : Bool}
    (answer : s.hunt.answer f = s.hunt.writeEntry i e clamped) :
    s.takeWhole f = State.replying { s with plan := { s.plan with entries := s.plan.entries.set i e, cursor := i.val + 1 } }
      f.tag f.kind (okStatus clamped) [BitVec.ofNat 8 i.val, BitVec.ofNat 8 (i.val + 1)] :=
  State.takeWhole_of_takes h answer ⟨rfl, rfl, rfl⟩

/-! ## PLAN_OVERRIDE DELETE (R6) -/

theorem State.answer_planOverrideDelete (s : State) (tag i : Byte) : s.answer ⟨tag, 0x03, [1, i]⟩ =
    if s.plan.state ≠ .loading then refuse s .wrongState else s.deleteOverride i.toNat := by
  rw [s.answer_of_known rfl rfl]
  rfl

theorem State.deleteOverride_at {s : State} {i : Nat} {before after : List Override} {o : Override}
    (split : s.plan.overrides = before ++ o :: after) (at_ : before.length = i) :
    s.deleteOverride i = takes (s.withPlan { s.plan with overrides := before ++ after }) .ok
      [BitVec.ofNat 8 (before.length + after.length)] := by
  have length : s.plan.overrides.length = before.length + after.length + 1 := by rw [split]; simp; omega
  have erased : s.plan.overrides.eraseIdx i = before ++ after := by
    rw [split, ← at_, List.eraseIdx_append_of_length_le (Nat.le_refl _), Nat.sub_self]
    rfl
  unfold State.deleteOverride
  dsimp only
  rw [if_pos (by omega), erased, length]
  rfl

/-- Settles O15: the answers of PLAN_ENTRY by the index it names, and of DELETE by the position. -/
theorem planEditsChangeTheirItem : Obligations.PlanEditsChangeTheirItem := by
  refine ⟨fun s tag address e ready label => ?entry, fun s tag i ready => ?delete⟩
  case entry =>
    have entry : exec (.planEntry tag address e) s = .next (s.takeWhole ⟨tag, 0x02, address :: 1 :: rawEntryBytes e⟩) := rfl
    have clear : exec (.planEntryClear tag address) s = .next (s.takeWhole ⟨tag, 0x02, [address, 0]⟩) := rfl
    have answer := s.hunt.answer_planEntry tag address label
    have answerClear := s.hunt.answer_planEntryClear tag address
    rw [entry, clear]
    refine ⟨fun other => ⟨?_, ?_⟩, fun loading high low => ⟨?_, ?_⟩, fun loading next full => ⟨?_, ?_⟩,
      fun i loading named => ?_⟩
    · exact congrArg Host.Outcome.next (State.takeWhole_of_refuse ready (answer.trans (if_pos other)))
    · exact congrArg Host.Outcome.next (State.takeWhole_of_refuse ready (answerClear.trans (if_pos other)))
    all_goals
      rw [if_neg (not_not_intro loading : ¬ s.hunt.plan.state ≠ .loading)] at answer answerClear
    · rw [planIndex_of_gt high low] at answer
      exact congrArg Host.Outcome.next (State.takeWhole_of_refuse ready answer)
    · rw [planIndex_of_gt high low] at answerClear
      exact congrArg Host.Outcome.next (State.takeWhole_of_refuse ready answerClear)
    · rw [next, planIndex_full (cursor := s.hunt.plan.cursor) full] at answer
      rw [next]
      exact congrArg Host.Outcome.next (State.takeWhole_of_refuse ready answer)
    · rw [next, planIndex_full (cursor := s.hunt.plan.cursor) full] at answerClear
      rw [next]
      exact congrArg Host.Outcome.next (State.takeWhole_of_refuse ready answerClear)
    · rw [planIndex_of_named (cursor := s.hunt.plan.cursor) named] at answer answerClear
      refine ⟨fun bad => ?_, fun c good => ?_, ?_⟩
      · rw [bad] at answer
        exact congrArg Host.Outcome.next (State.takeWhole_of_refuse ready answer)
      · rw [good] at answer
        exact congrArg Host.Outcome.next (State.takeWhole_writeEntry ready answer)
      · exact congrArg Host.Outcome.next (State.takeWhole_writeEntry ready answerClear)
  case delete =>
    have answer := s.hunt.answer_planOverrideDelete tag i
    refine ⟨fun other => ?_, fun loading past => ?_, fun before o after loading split at_ => ?_⟩
    · exact congrArg Host.Outcome.next (State.takeWhole_of_refuse ready (answer.trans (if_pos other)))
    · rw [if_neg (not_not_intro loading : ¬ s.hunt.plan.state ≠ .loading)] at answer
      refine congrArg Host.Outcome.next (State.takeWhole_of_refuse ready (answer.trans ?_))
      exact if_neg (Nat.not_lt_of_le past)
    · rw [if_neg (not_not_intro loading : ¬ s.hunt.plan.state ≠ .loading),
        State.deleteOverride_at (s := s.hunt) split at_] at answer
      exact congrArg Host.Outcome.next (State.takeWhole_of_takes ready answer ⟨rfl, rfl, rfl⟩)

end Sys2Proof.Machine

/-! SUPPORT. The management link: arrivals, the end of a frame, resets, and the framer (R173 to R178, R184, R199). -/

namespace Sys2Proof.Machine

/-! ## Refused arrivals (R176) -/

theorem State.answer_of_unknown (s : State) {f : Frame} (unknown : isRequestKind f.kind = false) :
    s.answer f = refuse s .unknownKind := by
  simp [State.answer, unknown]

theorem State.answer_of_badLength (s : State) {f : Frame} (kind : isRequestKind f.kind = true)
    (length : lengthAllowed f.kind f.payload.length = false) : s.answer f = refuse s .badLength := by
  simp [State.answer, kind, length]

/-! ## Arrivals at a busy link (R175) -/

theorem State.tryDispatch_of_not {s : State} (h : s.dispatchable = false) : s.tryDispatch = s := by
  rw [State.tryDispatch, if_neg (by rw [h]; nofun)]

theorem State.dispatchable_of_empty {s : State} (h : s.mli.queue = []) : s.dispatchable = false := by
  simp [State.dispatchable, h]

theorem State.dispatchable_of_reset {s : State} (h : s.mli.resetPending = true) : s.dispatchable = false := by
  simp [State.dispatchable, h]

theorem State.dispatchable_of_waiting {s : State} (h : ∃ r ∈ s.mli.replies, r.refusal = false) : s.dispatchable = false := by
  obtain ⟨r, mem, dispatched⟩ := h
  have : s.mli.replies.all (·.refusal) = false := List.all_eq_false.mpr ⟨r, mem, by simp [dispatched]⟩
  simp [State.dispatchable, this]

/-- While the transmitter sends and a dispatched reply waits, nothing starts and nothing is dispatched. -/
theorem State.settle_of_busy {s : State} (sends : s.mli.sending ≠ none) (waits : ∃ r ∈ s.mli.replies, r.refusal = false) :
    s.settle = s := by
  have blocked := State.tryDispatch_of_not (State.dispatchable_of_waiting waits)
  rw [State.settle, blocked, State.startOutbound_settled (.inl sends), blocked]

/-- Settles O13: a dispatched frame is refused by kind and length, an arriving one by the room that is left. -/
theorem arrivalsAreRefusedOrWait : Obligations.ArrivalsAreRefusedOrWait := by
  refine ⟨fun s tag kind payload ready => ⟨fun unknown => ?unknown, fun low high bad => ?badLength⟩,
    fun s f sends waits => ⟨fun room => ?joins, fun full room known => ?queueFull, fun full many => ?discarded⟩⟩
  case unknown =>
    refine congrArg Host.Outcome.next (State.takeWhole_of_refuse ready (State.answer_of_unknown _ ?_))
    change (decide (1 ≤ kind.toNat) && decide (kind.toNat ≤ 0x17)) = false
    rcases unknown with rfl | high
    · rfl
    · rw [decide_eq_false (Nat.not_le_of_lt high), Bool.and_false]
  case badLength =>
    refine congrArg Host.Outcome.next (State.takeWhole_of_refuse ready (State.answer_of_badLength _ ?_ bad))
    change (decide (1 ≤ kind.toNat) && decide (kind.toNat ≤ 0x17)) = true
    rw [decide_eq_true low, decide_eq_true high, Bool.and_true]
  case joins =>
    refine congrArg Host.Outcome.next ?_
    change s.hunt.arrive f = _
    unfold State.arrive
    rw [if_pos (by exact room)]
    exact State.settle_of_busy (s := s.hunt.modMli fun m => { m with queue := m.queue ++ [f] }) sends waits
  case queueFull =>
    refine congrArg Host.Outcome.next ?_
    change s.hunt.arrive f = _
    unfold State.arrive
    rw [if_neg (by exact Nat.not_lt_of_le full), if_pos (by exact room)]
    obtain ⟨r, mem, dispatched⟩ := waits
    refine (State.settle_of_busy (s := s.hunt.modMli fun m => { m with replies := m.replies ++ [queueFullReply f] }) sends
      ⟨r, List.mem_append_left _ mem, dispatched⟩).trans ?_
    rw [queueFullReply, if_pos known]
    rfl
  case discarded =>
    refine congrArg Host.Outcome.next ?_
    change s.hunt.arrive f = _
    unfold State.arrive
    rw [if_neg (by exact Nat.not_lt_of_le full), if_neg (by exact Nat.not_lt_of_le many)]
    rfl

/-! ## Resets (R184, R199) -/

theorem State.port_deviceReset (s : State) (p : Fin 32) : s.deviceReset.port p = Port.reset (s.port p).rawPresent :=
  Table.get_mapFin ..

theorem State.port_reset (p : Fin 32) : State.reset.port p = Port.reset false := Table.get_replicate ..

theorem Port.reset_eq (raw : Bool) : Port.reset raw =
    { Port.reset false with rawPresent := raw, debounce := if raw then .running 62500000 else .stopped } := rfl

/-- Settles O29: DEVICE_RESET is answered and no more; its reply's end and the pin take the reset. -/
theorem resetsLeaveWhatTheyKeep : Obligations.ResetsLeaveWhatTheyKeep := by
  refine ⟨⟨fun s tag ready => ?request, fun s f sending => ?taken⟩, fun s => ?power⟩
  case request =>
    have ⟨idle, settled, _⟩ := ready
    refine congrArg Host.Outcome.next ?_
    have answer : s.hunt.answer ⟨tag, 0x12, []⟩ = ⟨s.hunt, ⟨.ok, [], true⟩, []⟩ := State.answer_of_known _ rfl rfl
    refine (State.takeWhole_idle idle ⟨tag, 0x12, []⟩).trans ?_
    rw [answer, State.conclude_self (s := s.hunt) settled]
    rfl
  case taken =>
    refine ⟨s.deviceReset, congrArg Host.Outcome.next ?_, rfl, rfl, rfl, rfl, rfl, rfl, rfl, fun p => ?_⟩
    · unfold State.frameSent
      rw [sending]
      rfl
    · rw [State.port_deviceReset, State.port_reset]
      exact Port.reset_eq _
  case power =>
    refine ⟨s.powerOnReset, rfl, rfl, rfl, rfl, rfl, rfl, rfl, rfl, fun p => ?_⟩
    rw [State.port_reset]
    exact (s.port_deviceReset p).trans (Port.reset_eq _)

/-! ## The end of a frame (R178) -/

/-- The state at the end of a frame, before anything starts. -/
def State.freed (s : State) : State := s.modMli fun m => { m with sending := none }

theorem State.frameSent_eq {s : State} {f : Frame} (sending : s.mli.sending = some ⟨f, false⟩) :
    s.frameSent = s.freed.settle := by
  unfold State.frameSent
  rw [sending]
  rfl

/-- With nothing to dispatch, settling the link is the start of a frame. -/
theorem State.settle_of_not {s : State} (before : s.dispatchable = false) (after : s.startOutbound.dispatchable = false) :
    s.settle = s.startOutbound := by
  rw [State.settle, State.tryDispatch_of_not before, State.tryDispatch_of_not after]

theorem State.startOutbound_reply {s : State} {r : Reply} {rest : List Reply} (free : s.mli.sending = none)
    (replies : s.mli.replies = r :: rest) :
    s.startOutbound = s.modMli fun m => { m with replies := rest, sending := some ⟨r.frame, r.reset⟩ } := by
  unfold State.startOutbound
  rw [free, replies]

theorem State.startOutbound_notice {s : State} {n : Notice} {rest : List Notice} (free : s.mli.sending = none)
    (replies : s.mli.replies = []) (notices : s.notices = n :: rest) (enabled : s.mli.notify = true) :
    s.startOutbound = { s with notices := rest, mli := { s.mli with sending := some ⟨n.frame, false⟩ } } := by
  unfold State.startOutbound
  rw [free, replies, notices]
  exact if_pos enabled

/-- The dispatch of the head request. -/
theorem State.dispatch_eq {s : State} {g : Frame} {rest : List Frame} (queue : s.mli.queue = g :: rest) :
    s.dispatch =
      ((s.modMli fun m => { m with queue := rest }).conclude ((s.modMli fun m => { m with queue := rest }).answer g).state []
        ((s.modMli fun m => { m with queue := rest }).answer g).notices).modMli fun m =>
          { m with
            replies := m.replies ++ [replyTo g ((s.modMli fun m => { m with queue := rest }).answer g).answer]
            resetPending := m.resetPending || ((s.modMli fun m => { m with queue := rest }).answer g).answer.reset } := by
  unfold State.dispatch
  rw [queue]

/-! ## What no request touches -/

/-- Two states at the same time, with the same commands waiting. -/
structure State.SameClock (s t : State) : Prop where
  timestamp : t.timestamp = s.timestamp
  pending : t.pending = s.pending

namespace State.SameClock

theorem refl (s : State) : s.SameClock s := ⟨rfl, rfl⟩

theorem of_only {s t : State} (h : s.Only t) : s.SameClock t := ⟨h.timestamp, h.pending⟩

theorem planBegin (s : State) (payload : List Byte) : s.SameClock (s.takePlanBegin payload).state := by
  unfold State.takePlanBegin
  dsimp only
  repeat' split
  all_goals exact ⟨rfl, rfl⟩

theorem planEntry (s : State) (payload : List Byte) : s.SameClock (s.takePlanEntry payload).state := by
  unfold State.takePlanEntry
  dsimp only
  repeat' split
  all_goals exact ⟨rfl, rfl⟩

theorem planOverride (s : State) (payload : List Byte) : s.SameClock (s.takePlanOverride payload).state := by
  unfold State.takePlanOverride State.appendOverride State.deleteOverride
  dsimp only
  repeat' split
  all_goals exact ⟨rfl, rfl⟩

theorem planEnd (s : State) (payload : List Byte) : s.SameClock (s.takePlanEnd payload).state := by
  unfold State.takePlanEnd
  dsimp only
  split
  · exact refl s
  · split
    · exact refl s
    · have only : ((s.withPlan (s.plan.close (BitVec.ofNat 16 (numberAt payload 0 2)))).mapPorts fun p pt =>
          pt.meetClose ((s.plan.close (BitVec.ofNat 16 (numberAt payload 0 2))).cache.get p)).Only
          (s.closePlan (BitVec.ofNat 16 (numberAt payload 0 2))) := .verdicts ..
      exact ⟨only.timestamp, only.pending⟩

theorem configSet (s : State) (pairs : List (Byte × BitVec 48)) : s.SameClock (s.configSet pairs).state := by
  have applied (pr : Params) : s.SameClock (s.applyConfig pr) := by
    unfold State.applyConfig
    dsimp only
    split <;> exact ⟨rfl, rfl⟩
  unfold State.configSet
  split
  · exact refl s
  · split <;> exact applied _

theorem noticeControl (s : State) (payload : List Byte) : s.SameClock (s.takeNoticeControl payload).state := by
  unfold State.takeNoticeControl
  dsimp only
  split <;> exact ⟨rfl, rfl⟩

theorem counters (s : State) (payload : List Byte) : s.SameClock (s.takeCounters payload).state := by
  unfold State.takeCounters
  dsimp only [takes]
  repeat' split
  all_goals exact ⟨rfl, rfl⟩

theorem own (s : State) (kind : Byte) (payload : List Byte) : s.SameClock (s.own kind payload).state := by
  unfold State.own
  split
  · exact planBegin ..
  · exact planEntry ..
  · exact planOverride ..
  · exact planEnd ..
  · rw [s.state_planRead]; exact refl s
  · exact of_only (.portControl ..)
  · exact of_only (.portRestart ..)
  · exact of_only (.portRelease ..)
  · exact of_only (.laneEq ..)
  · exact of_only (.monitorSetup ..)
  · exact of_only (.monitorScan ..)
  · exact of_only (.monitorCancel ..)
  · rw [s.state_monitorRead]; exact refl s
  · exact of_only (.portTrim ..)
  · exact refl s
  · exact configSet ..
  · rw [s.state_configGet]; exact refl s
  · exact refl s
  · exact noticeControl ..
  · rw [s.state_portStatus]; exact refl s
  · rw [s.state_neighborRead]; exact refl s
  · rw [s.state_find]; exact refl s
  · exact counters ..
  · exact refl s

/-- A request is taken at an instant (R176). -/
theorem answer (s : State) (f : Frame) : s.SameClock (s.answer f).state := by
  unfold State.answer
  split
  · exact refl s
  · split
    · exact refl s
    · exact own ..

end State.SameClock

/-- Settles O34: the end of a frame settles the link, by what waits. -/
theorem repliesGoBeforeNotices : Obligations.RepliesGoBeforeNotices := by
  intro s f
  refine ⟨fun _ idle => ?idle, fun r rest empty sending replies => ?reply,
    fun n rest empty sending replies enabled notices => ?notice, fun empty sending replies quiet => ?free,
    fun r rest sending replies blocked => ?only, fun r rest g waiting sending replies own refusals noReset queue => ?dispatches⟩
  case idle =>
    refine congrArg Host.Outcome.next ?_
    unfold State.frameSent
    rw [idle]
  case reply =>
    refine congrArg Host.Outcome.next ((State.frameSent_eq sending).trans ?_)
    have starts := State.startOutbound_reply (s := s.freed) rfl replies
    have after : s.freed.startOutbound.dispatchable = false := State.dispatchable_of_empty (by rw [starts]; exact empty)
    rw [State.settle_of_not (s := s.freed) (State.dispatchable_of_empty empty) after, starts]
    rfl
  case notice =>
    refine congrArg Host.Outcome.next ((State.frameSent_eq sending).trans ?_)
    have starts := State.startOutbound_notice (s := s.freed) rfl replies notices enabled
    have after : s.freed.startOutbound.dispatchable = false := State.dispatchable_of_empty (by rw [starts]; exact empty)
    rw [State.settle_of_not (s := s.freed) (State.dispatchable_of_empty empty) after, starts]
    rfl
  case free =>
    refine congrArg Host.Outcome.next ((State.frameSent_eq sending).trans ?_)
    have stays := State.startOutbound_settled (s := s.freed) (.inr ⟨replies, quiet.symm⟩)
    have after : s.freed.startOutbound.dispatchable = false := State.dispatchable_of_empty (by rw [stays]; exact empty)
    rw [State.settle_of_not (s := s.freed) (State.dispatchable_of_empty empty) after, stays]
    rfl
  case only =>
    refine congrArg Host.Outcome.next ((State.frameSent_eq sending).trans ?_)
    have starts := State.startOutbound_reply (s := s.freed) rfl replies
    have before : s.freed.dispatchable = false := by
      rcases blocked with reset | ⟨x, mem, own⟩
      · exact State.dispatchable_of_reset reset
      · exact State.dispatchable_of_waiting ⟨x, replies ▸ List.mem_cons_of_mem _ mem, own⟩
    have after : s.freed.startOutbound.dispatchable = false := by
      rw [starts]
      rcases blocked with reset | waits
      · exact State.dispatchable_of_reset reset
      · exact State.dispatchable_of_waiting waits
    rw [State.settle_of_not (s := s.freed) before after, starts]
    rfl
  case dispatches =>
    intro u a
    have starts := State.startOutbound_reply (s := s.freed) rfl replies
    have before : s.freed.dispatchable = false :=
      State.dispatchable_of_waiting ⟨r, replies ▸ List.mem_cons_self .., own⟩
    have due : s.freed.startOutbound.dispatchable = true := by
      rw [starts]
      simpa [State.dispatchable, State.freed, queue, noReset] using refusals
    have taken : (s.freed.startOutbound.modMli fun m => { m with queue := waiting }) = u := by rw [starts]; rfl
    have dispatched := State.dispatch_eq (s := s.freed.startOutbound) (g := g) (rest := waiting) (by rw [starts]; exact queue)
    rw [taken] at dispatched
    have link := u.link_answer g
    refine ⟨_, congrArg Host.Outcome.next (State.frameSent_eq sending), ?_⟩
    rw [State.settle, State.tryDispatch_of_not before, State.tryDispatch, if_pos due, dispatched]
    change (u.conclude (u.answer g).state [] (u.answer g).notices).mli.queue = waiting ∧
      (u.conclude (u.answer g).state [] (u.answer g).notices).mli.sending = some ⟨r.frame, r.reset⟩ ∧
      (u.conclude (u.answer g).state [] (u.answer g).notices).mli.replies ++ [replyTo g a] = _ ∧
      ((u.conclude (u.answer g).state [] (u.answer g).notices).mli.resetPending || a.reset) = a.reset ∧ _
    simp only [State.mli_conclude]
    refine ⟨link.queue, link.sending, congrArg (· ++ [replyTo g a]) link.replies, ?_, rfl, rfl, rfl, rfl, rfl, link.framer,
      fun p => ?_, ?_, ?_⟩
    · rw [link.resetPending, show u.mli.resetPending = false from noReset, Bool.false_or]
    · rw [State.port_modMli, State.port_conclude]
      rfl
    · exact (State.SameClock.answer u g).timestamp
    · exact (State.SameClock.answer u g).pending

end Sys2Proof.Machine

/-! SUPPORT. The inbound framer: bytes in, frames out (R172 to R174). -/

namespace Sys2Proof.Machine

/-! ## The CRC in two bytes -/

theorem readNumber_two (high low : Byte) : readNumber [high, low] = (high ++ low : BitVec 16).toNat := by
  have := low.isLt
  rw [BitVec.toNat_append, Nat.shiftLeft_eq, Nat.mul_comm, ← Nat.two_pow_add_eq_or_of_lt this]
  simp only [readNumber, List.foldl_cons, List.foldl_nil]
  omega

/-! ## A whole frame -/

theorem checkedFrame_eq (length tag kind high low : Byte) (payload : List Byte) :
    checkedFrame (length :: tag :: kind :: payload ++ [high, low]) =
      if crc16 (length :: tag :: kind :: payload) = high ++ low then some ⟨tag, kind, payload⟩ else none := by
  have size : (length :: tag :: kind :: payload ++ [high, low]).length - 2 = (length :: tag :: kind :: payload).length := by
    simp
  unfold checkedFrame
  dsimp only
  rw [size, List.take_left, numberAt, List.drop_left, List.take_of_length_le (by simp), readNumber_two]
  by_cases good : crc16 (length :: tag :: kind :: payload) = high ++ low
  · rw [if_pos good, if_pos (by rw [good])]
    rfl
  · rw [if_neg good, if_neg fun same => good (BitVec.eq_of_toNat_eq same.symm)]

/-! ## One byte (R173) -/

theorem State.hunt_collect (s : State) (held : List Byte) : (s.collect held).hunt = s.hunt := rfl

theorem State.collect_collect (s : State) (held held' : List Byte) : (s.collect held).collect held' = s.collect held' := rfl

theorem State.receiveByte_hunting {s : State} (hunting : s.mli.framer = .hunting) (b : Byte) (stop : Bool) :
    s.receiveByte b stop = if b = 0xA6 ∧ stop then s.collect [] else s := by
  unfold State.receiveByte
  rw [hunting]

theorem State.receiveByte_collecting {s : State} {held : List Byte} (collecting : s.mli.framer = .collecting held) (b : Byte)
    (stop : Bool) : s.receiveByte b stop = if stop then s.takeBytes (held ++ [b]) else s.discard := by
  unfold State.receiveByte
  rw [collecting]

theorem State.takeBytes_range (s : State) {length : Byte} (rest : List Byte) (bad : length.toNat < 2 ∨ 250 < length.toNat) :
    s.takeBytes (length :: rest) = s.discard := if_pos bad

/-- A byte before the end is collected. -/
theorem State.takeBytes_collect (s : State) {length : Byte} {rest : List Byte} (low : 2 ≤ length.toNat) (high : length.toNat ≤ 250)
    (short : rest.length + 1 < length.toNat + 3) : s.takeBytes (length :: rest) = s.collect (length :: rest) :=
  (if_neg (by omega)).trans (if_pos short)

/-- The last CRC byte ends a frame. -/
theorem State.takeBytes_last (s : State) {length tag kind : Byte} {payload : List Byte} (high low : Byte)
    (fits : payload.length ≤ 248) (size : length.toNat = payload.length + 2) :
    s.takeBytes (length :: tag :: kind :: payload ++ [high, low]) =
      if crc16 (length :: tag :: kind :: payload) = high ++ low then s.hunt.arrive ⟨tag, kind, payload⟩ else s.discard := by
  have whole : ¬ (length :: tag :: kind :: payload ++ [high, low]).length < frameSize length := by
    simp only [frameSize, size, List.length_append, List.length_cons, List.length_nil]
    omega
  refine (if_neg (by omega)).trans ((if_neg whole).trans ?_)
  rw [checkedFrame_eq]
  by_cases good : crc16 (length :: tag :: kind :: payload) = high ++ low
  · rw [if_pos good, if_pos good]
  · rw [if_neg good, if_neg good]

theorem State.discardCollected_collecting {s : State} {held : List Byte} (collecting : s.mli.framer = .collecting held) :
    s.discardCollected = s.discard := by
  unfold State.discardCollected
  rw [collecting]

theorem State.discardCollected_hunting {s : State} (hunting : s.mli.framer = .hunting) : s.discardCollected = s := by
  unfold State.discardCollected
  rw [hunting]

/-- Settles O33: one byte, an error, a gap and a break at the framer. -/
theorem framerCountsEachDiscard : Obligations.FramerCountsEachDiscard := by
  intro s held b length hunting counted
  refine ⟨rfl, fun c => ?_, fun h => ?_, fun c runs => ?_, fun stopped => ?_, fun h => ?_, fun h other => ?_, fun h => ?_,
    fun c => ?_, fun c bad => ?_, fun c low high => ?_, fun c low high short => ?_, fun tag kind high payload fits size c => ?_⟩
  · exact congrArg Host.Outcome.next (State.discardCollected_collecting c)
  · exact congrArg Host.Outcome.next (State.discardCollected_hunting h)
  · exact congrArg Host.Outcome.next ((if_pos runs).trans (State.discardCollected_collecting c))
  · exact congrArg Host.Outcome.next (if_neg (by rw [stopped]; nofun))
  · exact congrArg Host.Outcome.next ((State.receiveByte_hunting h _ _).trans (if_pos ⟨rfl, rfl⟩))
  · exact congrArg Host.Outcome.next ((State.receiveByte_hunting h _ _).trans (if_neg fun both => other both.1))
  · exact congrArg Host.Outcome.next ((State.receiveByte_hunting h _ _).trans (if_neg fun both => nomatch both.2))
  · exact congrArg Host.Outcome.next (State.receiveByte_collecting c b false)
  · exact congrArg Host.Outcome.next ((State.receiveByte_collecting c b true).trans (s.takeBytes_range [] bad))
  · exact congrArg Host.Outcome.next ((State.receiveByte_collecting c b true).trans
      (s.takeBytes_collect low high (Nat.lt_add_left _ (by decide))))
  · refine congrArg Host.Outcome.next ((State.receiveByte_collecting c b true).trans
      (s.takeBytes_collect (rest := held ++ [b]) low high ?_))
    rw [List.length_append]
    exact short
  · have last := State.receiveByte_collecting c b true
    rw [if_pos rfl, List.append_assoc, List.singleton_append, State.takeBytes_last s high b fits size] at last
    exact ⟨fun bad => congrArg Host.Outcome.next (last.trans (if_neg bad)),
      fun good => congrArg Host.Outcome.next (last.trans (if_pos good))⟩

/-! ## The bytes of a frame (R172) -/

/-- Collecting the rest of a frame ends in its arrival. -/
theorem State.receive_rest (s : State) {length tag kind : Byte} {payload : List Byte} (high low : Byte)
    (fits : payload.length ≤ 248) (size : length.toNat = payload.length + 2)
    (good : crc16 (length :: tag :: kind :: payload) = high ++ low) {rest : List Byte} {x : Byte} {held : List Byte}
    (split : held ++ x :: rest = length :: tag :: kind :: payload ++ [high, low]) :
    (x :: rest).foldl (fun t b => t.receiveByte b true) (s.collect held) = s.hunt.arrive ⟨tag, kind, payload⟩ := by
  induction rest generalizing x held with
  | nil =>
    rw [List.foldl_cons, List.foldl_nil, State.receiveByte_collecting (s := s.collect held) rfl, if_pos rfl, split,
      State.takeBytes_last _ high low fits size, if_pos good, State.hunt_collect]
  | cons y rest ih =>
    have next : held ++ [x] ++ y :: rest = length :: tag :: kind :: payload ++ [high, low] := by
      rw [← split, List.append_assoc]; rfl
    obtain ⟨more, cut⟩ : ∃ more, held ++ [x] = length :: more := by
      cases held with
      | nil => exact ⟨[], congrArg (· :: []) (List.cons.inj split).1⟩
      | cons h held => exact ⟨held ++ [x], congrArg (· :: _) (List.cons.inj split).1⟩
    have short : more.length + 1 < length.toNat + 3 := by
      have total := congrArg List.length next
      rw [cut] at total
      simp only [List.length_append, List.length_cons, List.length_nil] at total
      omega
    have collected : (s.collect held).receiveByte x true = s.collect (held ++ [x]) := by
      rw [State.receiveByte_collecting (s := s.collect held) rfl, if_pos rfl, cut,
        State.takeBytes_collect _ (by omega) (by omega) short, State.collect_collect]
    rw [List.foldl_cons, collected]
    exact ih next

/-- The bytes that a frame has on the line bring about its arrival. -/
theorem State.receive_lineBytes {s : State} {f : Frame} (fits : f.payload.length ≤ 248) (hunting : s.mli.framer = .hunting) :
    f.lineBytes.foldl (fun t b => t.receiveByte b true) s = s.takeWhole f := by
  have size : (BitVec.ofNat 8 (f.payload.length + 2)).toNat = f.payload.length + 2 := by
    rw [BitVec.toNat_ofNat]
    omega
  have crc : byte2 (crc16 (BitVec.ofNat 8 (f.payload.length + 2) :: f.tag :: f.kind :: f.payload)).toNat =
      [(crc16 (BitVec.ofNat 8 (f.payload.length + 2) :: f.tag :: f.kind :: f.payload)).extractLsb' 8 8,
        (crc16 (BitVec.ofNat 8 (f.payload.length + 2) :: f.tag :: f.kind :: f.payload)).extractLsb' 0 8] := by
    generalize crc16 _ = c
    rw [byte2, numberBytes_two]
    congr 1
    apply BitVec.eq_of_toNat_eq
    simp [Nat.shiftRight_eq_div_pow]
  have whole : ∀ c : BitVec 16, c = c.extractLsb' 8 8 ++ c.extractLsb' 0 8 := fun c => by
    apply BitVec.eq_of_toNat_eq
    rw [← readNumber_two]
    simp [readNumber, Nat.shiftRight_eq_div_pow]
    omega
  have start : s.receiveByte 0xA6#8 true = s.collect [] := (State.receiveByte_hunting hunting _ _).trans (if_pos ⟨rfl, rfl⟩)
  unfold Frame.lineBytes
  dsimp only
  rw [crc, List.cons_append, List.foldl_cons, start]
  exact s.receive_rest _ _ fits size (whole _) (held := []) rfl

end Sys2Proof.Machine

/-! SUPPORT. What payloads and sideband frames spell: reading their bytes gives back what was written (R66, R197, R198). -/

namespace Sys2Proof.Machine

/-! ## Parameter pairs -/

theorem pairBytes_length (pair : Byte × BitVec 48) : (pairBytes pair).length = 7 := by simp [pairBytes]

theorem readPairs_cons (n : Nat) (pair : Byte × BitVec 48) (rest : List Byte) :
    readPairs (n + 1) (pairBytes pair ++ rest) = pair :: readPairs n rest := by
  have value : numberAt (pairBytes pair ++ rest) 1 6 = pair.2.toNat := by
    have := numberAt_numberBytes (before := [pair.1]) (after := rest) (off := 1) (len := 6) (n := pair.2.toNat) rfl (by omega)
    simpa [pairBytes, byte6] using this
  have tail : (pairBytes pair ++ rest).drop 7 = rest := List.drop_left' (pairBytes_length pair)
  rw [readPairs, value, tail, BitVec.ofNat_toNat, BitVec.setWidth_eq]
  rfl

theorem pairsBytes_length (pairs : List (Byte × BitVec 48)) : (pairs.flatMap pairBytes).length = 7 * pairs.length := by
  induction pairs with
  | nil => rfl
  | cons pair rest ih => rw [List.flatMap_cons, List.length_append, pairBytes_length, ih, List.length_cons]; omega

/-- The owning block reads the pairs that the request carries (R197). -/
theorem readPairs_pairBytes (pairs : List (Byte × BitVec 48)) :
    readPairs ((pairs.flatMap pairBytes).length / 7) (pairs.flatMap pairBytes) = pairs := by
  rw [pairsBytes_length, Nat.mul_div_cancel_left _ (by decide)]
  induction pairs with
  | nil => rfl
  | cons pair rest ih => rw [List.length_cons, List.flatMap_cons, readPairs_cons, ih]

/-! ## The bytes of a sideband frame (Table 11-7) -/

theorem numberBytes_four (n : Nat) : numberBytes 4 n =
    [BitVec.ofNat 8 (n / 256 / 256 / 256), BitVec.ofNat 8 (n / 256 / 256), BitVec.ofNat 8 (n / 256), BitVec.ofNat 8 n] := rfl

theorem sidebandBody_length (kind : FrameKind) (f : SidebandFrame) : (sidebandBody kind f).length = 30 := by
  simp [sidebandBody]

theorem sidebandBytes_length (kind : FrameKind) (f : SidebandFrame) : (sidebandBytes kind f).length = 32 := by
  simp [sidebandBytes, sidebandBody_length]

theorem readFrame_sidebandBytes (kind : FrameKind) (f : SidebandFrame) (tail : List Byte) :
    readFrame (sidebandBody kind f ++ tail) = f := by
  have flags : ∀ r k : Bool, (BitVec.ofNat 8 ((if r then 1 else 0) + (if k then 2 else 0))).getLsbD 0 = r
      ∧ (BitVec.ofNat 8 ((if r then 1 else 0) + (if k then 2 else 0))).getLsbD 1 = k := by decide
  have masks : ∀ fence kept : BitVec 4, (BitVec.ofNat 8 (fence.toNat + 16 * kept.toNat)).extractLsb' 0 4 = fence
      ∧ (BitVec.ofNat 8 (fence.toNat + 16 * kept.toNat)).extractLsb' 4 4 = kept := by decide
  have places : readFrame (sidebandBody kind f ++ tail) =
      { f with
        ready := (BitVec.ofNat 8 ((if f.ready then 1 else 0) + (if f.keptValid then 2 else 0))).getLsbD 0
        keptValid := (BitVec.ofNat 8 ((if f.ready then 1 else 0) + (if f.keptValid then 2 else 0))).getLsbD 1
        senderChassis := BitVec.ofNat 48 (readNumber (numberBytes 6 f.senderChassis.toNat))
        fenceMask := (BitVec.ofNat 8 (f.fenceMask.toNat + 16 * f.keptMask.toNat)).extractLsb' 0 4
        keptMask := (BitVec.ofNat 8 (f.fenceMask.toNat + 16 * f.keptMask.toNat)).extractLsb' 4 4
        expectedChassis := BitVec.ofNat 48 (readNumber (numberBytes 6 f.expectedChassis.toNat))
        generation := BitVec.ofNat 16 (readNumber (numberBytes 2 f.generation.toNat))
        probeStamp := BitVec.ofNat 32 (readNumber (numberBytes 4 f.probeStamp.toNat))
        turnaround := BitVec.ofNat 16 (readNumber (numberBytes 2 f.turnaround.toNat)) } := by
    simp only [sidebandBody, byte1_eq, byte2, byte4, byte6, numberBytes_six, numberBytes_four, numberBytes_two,
      List.cons_append, List.nil_append, readFrame, byteAt, numberAt, List.getD_cons_succ, List.getD_cons_zero,
      List.drop_succ_cons, List.drop_zero, List.take_succ_cons, List.take_zero]
  rw [places, (flags _ _).1, (flags _ _).2, (masks _ _).1, (masks _ _).2, ofNat_readNumber _ rfl, ofNat_readNumber _ rfl,
    ofNat_readNumber _ rfl, ofNat_readNumber _ rfl, ofNat_readNumber _ rfl]

theorem frameKindOf_code (kind : FrameKind) : frameKindOf (BitVec.ofNat 8 kind.code) = some kind := by
  cases kind <;> rfl

theorem readSideband_sidebandBytes (kind : FrameKind) (f : SidebandFrame) :
    readSideband (sidebandBytes kind f) = some (kind, f) := by
  have body : (sidebandBytes kind f).take 30 = sidebandBody kind f := List.take_left' (sidebandBody_length kind f)
  have crc : numberAt (sidebandBytes kind f) 30 2 = (crc16 (sidebandBody kind f)).toNat := by
    have := numberAt_numberBytes (after := []) (len := 2) (n := (crc16 (sidebandBody kind f)).toNat)
      (sidebandBody_length kind f) (by omega)
    rwa [List.append_nil] at this
  have first : byteAt (sidebandBytes kind f) 0 = BitVec.ofNat 8 kind.code := rfl
  rw [readSideband, body, if_pos crc, first, frameKindOf_code, sidebandBytes, readFrame_sidebandBytes]
  rfl

theorem byteBits_length (b : Byte) : (byteBits b).length = 8 := by simp [byteBits]

theorem flatMap_byteBits_length (bytes : List Byte) : (bytes.flatMap byteBits).length = 8 * bytes.length := by
  induction bytes with
  | nil => rfl
  | cons b rest ih => rw [List.flatMap_cons, List.length_append, byteBits_length, ih, List.length_cons]; omega

theorem sidebandLineBits_first (kind : FrameKind) (f : SidebandFrame) :
    (sidebandLineBits kind f).take 8 = [false, false, true, true, true, true, false, false] := by
  have first : sidebandLineBits kind f = byteBits 0x3C ++ (0xE1 :: sidebandBytes kind f).flatMap byteBits := rfl
  rw [first, List.take_left' (byteBits_length _)]
  decide

/-! ## Bytes that a receiver ignores (R198) -/

theorem byteAt_set_of_ne {bytes : List Byte} {n i : Nat} (apart : i ≠ n) (x : Byte) :
    byteAt (bytes.set n x) i = byteAt bytes i := by
  simp only [byteAt, List.getD_eq_getElem?_getD, List.getElem?_set_ne apart.symm]

theorem numberAt_set_of_out {bytes : List Byte} {n off len : Nat} (out : n < off ∨ off + len ≤ n) (x : Byte) :
    numberAt (bytes.set n x) off len = numberAt bytes off len := by
  have same : ((bytes.set n x).drop off).take len = (bytes.drop off).take len := by
    apply List.ext_getElem?
    intro i
    simp only [List.getElem?_take, List.getElem?_drop]
    split
    · rw [List.getElem?_set_ne (by omega)]
    · rfl
  rw [numberAt, same, numberAt]

theorem readFrame_set_reserved (bytes : List Byte) (x : Byte) : readFrame (bytes.set 29 x) = readFrame bytes := by
  have byte (i : Nat) (h : i ≠ 29) := byteAt_set_of_ne (bytes := bytes) h x
  have number (off len : Nat) (h : 29 < off ∨ off + len ≤ 29) := numberAt_set_of_out (bytes := bytes) h x
  simp only [readFrame, byte 1 (by decide), byte 8 (by decide), byte 9 (by decide), byte 10 (by decide), byte 11 (by decide),
    byte 18 (by decide), byte 21 (by decide), byte 22 (by decide), number 2 6 (by decide), number 12 6 (by decide),
    number 19 2 (by decide), number 23 4 (by decide), number 27 2 (by decide)]

theorem byteAt_set_self (bytes : List Byte) (n : Nat) (x : Byte) :
    byteAt (bytes.set n x) n = if n < bytes.length then x else byteAt bytes n := by
  simp only [byteAt, List.getD_eq_getElem?_getD, List.getElem?_set_self']
  split
  · next there => simp [there]
  · next past => simp [past]

theorem readFrame_set_flags {bytes : List Byte} {x : Byte} (ready : x.getLsbD 0 = (byteAt bytes 1).getLsbD 0)
    (kept : x.getLsbD 1 = (byteAt bytes 1).getLsbD 1) : readFrame (bytes.set 1 x) = readFrame bytes := by
  have byte (i : Nat) (h : i ≠ 1) := byteAt_set_of_ne (bytes := bytes) h x
  have number (off len : Nat) (h : 1 < off ∨ off + len ≤ 1) := numberAt_set_of_out (bytes := bytes) h x
  have ready' : (byteAt (bytes.set 1 x) 1).getLsbD 0 = (byteAt bytes 1).getLsbD 0 := by
    rw [byteAt_set_self]; split
    · exact ready
    · rfl
  have kept' : (byteAt (bytes.set 1 x) 1).getLsbD 1 = (byteAt bytes 1).getLsbD 1 := by
    rw [byteAt_set_self]; split
    · exact kept
    · rfl
  simp only [readFrame, ready', kept', byte 8 (by decide), byte 9 (by decide), byte 10 (by decide), byte 11 (by decide),
    byte 18 (by decide), byte 21 (by decide), byte 22 (by decide), number 2 6 (by decide), number 12 6 (by decide),
    number 19 2 (by decide), number 23 4 (by decide), number 27 2 (by decide)]

/-! ## Received frames (R66) -/

theorem completedFrame_of_length {bytes : List Byte} (h : bytes.length = 32) : completedFrame bytes = bytes :=
  List.take_left' h

theorem completedFrame_of_le {bytes : List Byte} (h : bytes.length ≤ 32) :
    completedFrame bytes = bytes ++ List.replicate (32 - bytes.length) 0xFF := by
  rw [completedFrame, List.take_append, List.take_of_length_le h, List.take_replicate, Nat.min_eq_left (by omega)]

theorem completedFrame_stopped (bytes : List Byte) (n : Nat) (h : (bytes.take n).length = n) (le : n ≤ 32) :
    completedFrame (bytes.take n ++ List.replicate (32 - n) 0xFF) = completedFrame (bytes.take n) := by
  rw [completedFrame_of_le (bytes := bytes.take n) (by omega), h, completedFrame_of_length]
  rw [List.length_append, h, List.length_replicate]
  omega

theorem numberAt_crc {bytes : List Byte} (h : bytes.length = 32) :
    numberAt bytes 30 2 = (byteAt bytes 30 ++ byteAt bytes 31 : BitVec 16).toNat := by
  have two : (bytes.drop 30).take 2 = [byteAt bytes 30, byteAt bytes 31] := by
    apply List.ext_getElem (by simp [h])
    intro i hi _
    simp only [List.length_take, List.length_drop, h] at hi
    have : i = 0 ∨ i = 1 := by omega
    rcases this with rfl | rfl <;> simp [byteAt, h]
  rw [numberAt, two, readNumber_two]

theorem frameKindOf_eq_none_iff (b : Byte) : frameKindOf b = none ↔ b = 0 ∨ 3 < b.toNat := by
  unfold frameKindOf
  split
  · next h => subst h; decide
  · split
    · next h => subst h; decide
    · split
      · next h => subst h; decide
      · simp only [true_iff]; bv_omega

theorem senderOf_eq_none {f : SidebandFrame} (h : ¬ (f.senderChassis ≠ 0 ∧ f.senderPort.toNat ≤ 31)) : senderOf f = none := by
  rw [Option.eq_none_iff_forall_ne_some]
  intro i found
  obtain ⟨nonzero, -, port⟩ := senderOf_eq_some.mp found
  exact h ⟨nonzero, by have := i.port.isLt; omega⟩

theorem senderOf_eq_some_of_valid {f : SidebandFrame} (nonzero : f.senderChassis ≠ 0) (port : f.senderPort.toNat ≤ 31) :
    ∃ i, senderOf f = some i :=
  ⟨⟨f.senderChassis, ⟨f.senderPort.toNat, by omega⟩⟩, senderOf_eq_some.mpr ⟨nonzero, rfl, rfl⟩⟩

theorem readSideband_of_length {bytes : List Byte} (h : bytes.length = 32) : readSideband bytes =
    if crc16 (bytes.take 30) = byteAt bytes 30 ++ byteAt bytes 31 then
      (frameKindOf (byteAt bytes 0)).map fun kind => (kind, readFrame bytes)
    else none := by
  rw [readSideband, numberAt_crc h]
  by_cases good : crc16 (bytes.take 30) = byteAt bytes 30 ++ byteAt bytes 31
  · rw [if_pos good, if_pos (by rw [good])]
  · rw [if_neg good, if_neg fun same => good (BitVec.eq_of_toNat_eq same.symm)]

/-- The four checks of R66. -/
abbrev FrameChecks (bytes : List Byte) : Prop :=
  crc16 (bytes.take 30) = byteAt bytes 30 ++ byteAt bytes 31 ∧ (readFrame bytes).senderChassis ≠ 0
    ∧ (readFrame bytes).senderPort.toNat ≤ 31

theorem sidebandCommand_of_kind {bytes : List Byte} (h : bytes.length = 32) (valid : FrameChecks bytes) {kind : FrameKind}
    (at_ : frameKindOf (byteAt bytes 0) = some kind) (p : Fin 32) (lag : Fin 126) : sidebandCommand p lag bytes =
      match kind with
      | .beacon => .beaconReceived p (readFrame bytes)
      | .probe => .probeReceived p (readFrame bytes)
      | .echo => .echoReceived p (readFrame bytes) lag := by
  obtain ⟨crc, nonzero, port⟩ := valid
  obtain ⟨i, sender⟩ := senderOf_eq_some_of_valid nonzero port
  have read : readSideband bytes = some (kind, readFrame bytes) := by
    rw [readSideband_of_length h, if_pos crc, at_]
    rfl
  unfold sidebandCommand
  rw [completedFrame_of_length h, read]
  dsimp only
  rw [sender]
  cases kind <;> rfl

theorem sidebandCommand_rejected {bytes : List Byte} (h : bytes.length = 32)
    (bad : ¬ FrameChecks bytes ∨ frameKindOf (byteAt bytes 0) = none) (p : Fin 32) (lag : Fin 126) :
    sidebandCommand p lag bytes = .sidebandFrameRejected p := by
  have read := readSideband_of_length h
  unfold sidebandCommand
  rw [completedFrame_of_length h]
  by_cases crc : crc16 (bytes.take 30) = byteAt bytes 30 ++ byteAt bytes 31
  · rw [if_pos crc] at read
    cases known : frameKindOf (byteAt bytes 0) with
    | none =>
      rw [known] at read
      rw [show readSideband bytes = none from read]
    | some kind =>
      have sender : senderOf (readFrame bytes) = none :=
        senderOf_eq_none fun good => (bad.resolve_right (by simp [known])) ⟨crc, good⟩
      rw [known] at read
      rw [show readSideband bytes = some (kind, readFrame bytes) from read]
      dsimp only
      rw [sender]
  · rw [if_neg crc] at read
    rw [read]

/-- Settles O12: each reading undoes its writing, and the bytes of a frame on the line end in its arrival
(`State.receive_lineBytes`). -/
theorem bytesSpellWhatTheyCarry : Obligations.BytesSpellWhatTheyCarry := by
  refine ⟨⟨fun a e _ => readPlanEntry_rawEntryBytes a 1 e, readOverride_rawOverrideBytes, readPairs_pairBytes,
    fun len n fits => ⟨readNumber_numberBytes len n fits, numberBytes_length len n⟩,
    fun kind f => ⟨readSideband_sidebandBytes kind f, sidebandBytes_length kind f, ?bits, rfl, sidebandLineBits_first kind f⟩,
    fun bytes x => ⟨readFrame_set_reserved bytes x, readFrame_set_flags⟩,
    fun p lag bytes length => ⟨fun valid zero => ?beacon, fun valid one => ?probe, fun valid two => ?echo, fun bad => ?rejected,
      fun n le => ?stopped⟩⟩, fun s f fits hunting => congrArg Host.Outcome.next (State.receive_lineBytes fits hunting)⟩
  case bits =>
    rw [sidebandLineBits, flatMap_byteBits_length, sidebandLineBytes, List.length_append, sidebandBytes_length]
    rfl
  case beacon => exact sidebandCommand_of_kind length valid (kind := .beacon) (by rw [zero]; rfl) p lag
  case probe => exact sidebandCommand_of_kind length valid (kind := .probe) (by rw [one]; rfl) p lag
  case echo => exact sidebandCommand_of_kind length valid (kind := .echo) (by rw [two]; rfl) p lag
  case rejected =>
    exact sidebandCommand_rejected length (bad.imp_right (frameKindOf_eq_none_iff _).mpr) p lag
  case stopped =>
    have taken : (bytes.take n).length = n := by rw [List.length_take, length]; omega
    rw [sidebandCommand, sidebandCommand, completedFrame_stopped bytes n taken le]

end Sys2Proof.Machine

/-! SUPPORT. A step on an empty queue, a step that takes a command, and the state after power-on reset (R199). -/

namespace Sys2Proof.Machine

/-- Settles O1: a step takes the command at the front of its queue. -/
theorem frontCommandIsTaken : Obligations.FrontCommandIsTaken := fun _ _ _ => rfl

/-! ## One TU (R117, R118, R139) -/

theorem State.port_advance (n : Nat) (s : State) (p : Fin 32) : (s.advance n).port p = (s.port p).advance n := Table.get_mapFin ..

theorem Port.lane_advance (n : Nat) (pt : Port) (l : Fin 4) : (pt.advance n).lane l = (pt.lane l).advance n := Table.get_mapFin ..

theorem Burst.probe_advance (n : Nat) (b : Burst) (k : Fin 8) : (b.advance n).probes.get k = (b.probes.get k).advance n :=
  Table.get_mapFin ..

theorem MarkerTx.advance_between {m : MarkerTx} (h : m.since < 818) : m.advance 1 = ⟨m.since + 1, m.sequence⟩ := by
  have within : m.since + 1 < Config.markerPeriod := Nat.succ_lt_succ h
  rw [MarkerTx.advance, Nat.mod_eq_of_lt within, Nat.div_eq_of_lt within]
  exact congrArg (MarkerTx.mk _) (Fin.add_zero _)

theorem MarkerTx.advance_at {m : MarkerTx} (h : m.since = 818) : m.advance 1 = ⟨0, m.sequence + 1⟩ := by
  rw [MarkerTx.advance, h]
  rfl

/-- Settles O2: `State.advance` lets one TU pass at every timer, counter and marker transmitter. -/
theorem idleStepLetsOneUnitPass : Obligations.IdleStepLetsOneUnitPass := by
  intro s empty tick
  have passes : tick = Timer.advance 1 := by funext x; cases x <;> rfl
  rw [passes]
  refine ⟨s.advance 1, ?_, rfl, empty, rfl, rfl, rfl, rfl, rfl, fun p => ?_⟩
  · unfold step
    rw [empty]
  · rw [State.port_advance]
    exact ⟨rfl, rfl, rfl, rfl, rfl, MarkerTx.advance_between, MarkerTx.advance_at, rfl, rfl, rfl, rfl, rfl,
      fun l => Port.lane_advance 1 _ l, rfl, rfl, rfl, rfl, rfl, rfl, rfl, fun k => Burst.probe_advance 1 _ k⟩

/-! ## Power-on reset -/

theorem State.settled_reset : State.reset.settled :=
  ⟨fun p => by rw [State.port_reset]; rfl, ⟨.inr ⟨rfl, .inl rfl⟩, rfl⟩, State.noneDue_of_open nofun⟩

theorem State.retryLaw_reset : State.reset.retryLaw := fun p => by
  rw [State.port_reset]
  exact Nat.zero_le _

theorem State.distinctPeers_reset : State.reset.distinctPeers := fun p _ _ bears => by
  rw [State.port_reset] at bears
  cases bears

/-- Settles O3: the tables of the reset, and the laws at it. -/
theorem resetStateIsAsStated : Obligations.ResetStateIsAsStated := by
  refine ⟨⟨rfl, rfl, rfl, rfl, rfl, fun p => ⟨Table.get_replicate .., Table.get_replicate .., Table.get_replicate ..⟩⟩, ?mli,
    fun p => ?port, ?rest, State.settled_reset, by decide, List.Pairwise.nil, State.retryLaw_reset, fun p => ?bearing,
    Plan.inRange.reset, State.stored.params_reset, State.stored.device_reset, fun p => ?presence, fun p => ?silent,
    fun p => ?neighbor, State.distinctPeers_reset, fun p => ?stage⟩
  case mli => decide
  case rest => decide
  all_goals rw [State.port_reset]
  case port => decide
  case bearing => decide
  case presence => exact ⟨iff_of_true rfl (.inl rfl), nofun, nofun⟩
  case silent => decide
  case neighbor => decide
  case stage => decide

end Sys2Proof.Machine

/-! SUPPORT. CONFIG_SET at an idle link (R179, R180). -/

namespace Sys2Proof.Machine

/-! ## The checks -/

theorem pairRefused_iff (x : Byte × BitVec 48) : pairRefused x = true ↔ x.1 ∉ parameterIds ∨ x.1 = 11 ∧ 1 < x.2.toNat % 65536
    ∨ x.1 = 14 ∧ 3 < x.2.toNat % 65536 ∨ x.1 = 1 ∧ x.2 = 0 := by
  simp only [pairRefused, Bool.or_eq_true, Bool.and_eq_true, decide_eq_true_eq, or_assoc]
  exact Iff.rfl

theorem State.configRefusal_first {s : State} {before after : List (Byte × BitVec 48)} {x : Byte × BitVec 48}
    (passed : ∀ y ∈ before, pairRefused y = false) (fails : pairRefused x = true) :
    s.configRefusal (before ++ x :: after) = some (.argRange, x.1) := by
  have first : (before ++ x :: after).find? pairRefused = some x := by
    rw [List.find?_append, List.find?_eq_none.mpr fun y hy => by rw [passed y hy]; nofun, Option.none_or, List.find?_cons, fails]
  rw [State.configRefusal, first]

/-- The pairs that would change the chassis identifier. -/
def changesChassis (s : State) (pairs : List (Byte × BitVec 48)) : Bool :=
  pairs.any fun pair => decide (pair.1 = 1) && decide (pair.2 ≠ s.params.chassisId)

theorem changesChassis_iff (s : State) (pairs : List (Byte × BitVec 48)) :
    changesChassis s pairs = true ↔ ∃ x ∈ pairs, x.1 = 1 ∧ x.2 ≠ s.params.chassisId := by
  simp [changesChassis]

theorem State.allDisabled_iff (s : State) : s.allDisabled = true ↔ ∀ p : Fin 32, (s.port p).state = .disabled := by
  simp [State.allDisabled, allPorts]

theorem State.configRefusal_of_passed {s : State} {pairs : List (Byte × BitVec 48)} (passed : ∀ x ∈ pairs, pairRefused x = false) :
    s.configRefusal pairs = if changesChassis s pairs = true ∧ !s.allDisabled then some (.busyPorts, 1) else none := by
  have none_ : pairs.find? pairRefused = none := List.find?_eq_none.mpr fun y hy => by rw [passed y hy]; nofun
  rw [State.configRefusal, none_]
  rfl

/-! ## The answer -/

theorem State.answer_configSet (s : State) (tag : Byte) {pairs : List (Byte × BitVec 48)} (some_ : 1 ≤ pairs.length)
    (short : pairs.length ≤ 30) : s.answer ⟨tag, 0x10, pairs.flatMap pairBytes⟩ = s.configSet pairs := by
  have allowed : lengthAllowed 0x10 (pairs.flatMap pairBytes).length = true := by
    rw [pairsBytes_length]
    exact decide_eq_true ⟨Nat.mul_mod_right 7 _, by omega, by omega⟩
  rw [s.answer_of_known (f := ⟨tag, 0x10, pairs.flatMap pairBytes⟩) rfl allowed]
  change s.configSet (readPairs ((pairs.flatMap pairBytes).length / 7) (pairs.flatMap pairBytes)) = _
  rw [readPairs_pairBytes]

theorem State.configSet_of_refusal {s : State} {pairs : List (Byte × BitVec 48)} {st : Status} {id : Byte}
    (refusal : s.configRefusal pairs = some (st, id)) : s.configSet pairs = takes s st [id] := by
  rw [State.configSet, refusal]

theorem State.configSet_of_taken {s : State} {pairs : List (Byte × BitVec 48)} (taken : s.configRefusal pairs = none) :
    s.configSet pairs = takes (s.applyConfig (pairs.foldl applyPair (s.params, [])).1)
      (if (pairs.foldl applyPair (s.params, [])).2 = [] then .ok else .okClamped)
      (if (pairs.foldl applyPair (s.params, [])).2 = [] then []
        else byte1 (pairs.foldl applyPair (s.params, [])).2.length ++ (pairs.foldl applyPair (s.params, [])).2) := by
  rw [State.configSet, taken]
  dsimp only
  split
  · next e => rw [e]; rfl
  · next pr ids some_ e =>
    rw [e]
    dsimp only
    rw [if_neg some_, if_neg some_, listBytes, List.flatMap_singleton']

/-! ## The parameters take their values -/

theorem chassisId_kept {pairs : List (Byte × BitVec 48)} (other : ∀ x ∈ pairs, x.1 ≠ 1) (acc : Params × List Byte) :
    (pairs.foldl applyPair acc).1.chassisId = acc.1.chassisId := by
  induction pairs generalizing acc with
  | nil => rfl
  | cons pair rest ih =>
    rw [List.foldl_cons, ih (fun x hx => other x (by simp [hx])), applyPair_fst, Params.assign_chassisId,
      if_neg fun at_ : pair.1.toNat = 1 => other pair (by simp) (BitVec.eq_of_toNat_eq at_)]

/-- One pair for the chassis identifier that passes its checks leaves one other than 0 in force. -/
theorem chassisId_set {pairs : List (Byte × BitVec 48)} (passed : ∀ pair ∈ pairs, ¬ (pair.1 = 1 ∧ pair.2 = 0))
    (some_ : ∃ pair ∈ pairs, pair.1 = 1) (acc : Params × List Byte) : (pairs.foldl applyPair acc).1.chassisId ≠ 0 := by
  induction pairs generalizing acc with
  | nil => obtain ⟨_, mem, -⟩ := some_; cases mem
  | cons pair rest ih =>
    have passed' : ∀ x ∈ rest, ¬ (x.1 = 1 ∧ x.2 = 0) := fun x hx => passed x (by simp [hx])
    by_cases at_ : pair.1 = 1
    · refine chassisId_pairs passed' ?_
      rw [applyPair_fst, Params.assign_chassisId, if_pos (by rw [at_]; rfl)]
      exact fun zero => passed pair (by simp) ⟨at_, zero⟩
    · refine ih passed' ?_ _
      obtain ⟨x, mem, hx⟩ := some_
      rcases List.mem_cons.mp mem with rfl | mem
      · exact absurd hx at_
      · exact ⟨x, mem, hx⟩

theorem State.applyConfig_stays {s : State} {pr : Params} (h : ¬ (s.mli.device = .unconfigured ∧ pr.chassisId ≠ 0)) :
    s.applyConfig pr = s.modMli fun m => { m with params := pr } := if_neg h

theorem State.applyConfig_enters {s : State} {pr : Params} (h : s.mli.device = .unconfigured) (chassis : pr.chassisId ≠ 0) :
    s.applyConfig pr = (s.modMli fun m => { m with params := pr }).enterRunning := if_pos ⟨h, chassis⟩

/-- A CONFIG_SET that leaves the device state as it is changes the parameters alone. -/
theorem State.takeWhole_configSet {s : State} (h : s.ready) {f : Frame} {pr : Params} {st : Status} {content : List Byte}
    (answer : s.hunt.answer f = takes (s.hunt.applyConfig pr) st content)
    (stays : ¬ (s.mli.device = .unconfigured ∧ pr.chassisId ≠ 0)) :
    s.takeWhole f = State.replying { s with mli := { s.mli with params := pr } } f.tag f.kind st content := by
  rw [State.applyConfig_stays (s := s.hunt) stays] at answer
  exact State.takeWhole_of_takes_still (u := { s with mli := { s.mli with params := pr } }) h answer (.of_ports rfl rfl) rfl

/-! ## Entry to RUNNING (R30, R179) -/

theorem Port.enable_state (pr : Params) (pt : Port) :
    (pt.enable pr).state = if pt.present then .sideband else .waitCable := by
  unfold Port.enable
  dsimp only
  split <;> rfl

theorem State.port_enterRunning (s : State) (p : Fin 32) : s.enterRunning.port p =
    if (s.port p).adminEnable ∧ (s.port p).state = .disabled then (s.port p).enable s.params else s.port p :=
  State.port_mapPorts ..

/-- A port that rests as it stood, in a state without transmission, is left by the end of an event. -/
theorem concludePort_of_resting {before after : State} {p : Fin 32} (same : after.port p = before.port p)
    (rests : (before.port p).state.sending = false) (settled : (before.port p).tx.settled = true) :
    concludePort before after p (after.port p) = before.port p := by
  rw [same]
  refine concludePort_quiet (Bool.and_not_self _) ?_ settled
  rw [promptDue, same, rests, Bool.false_and]

/-- Settles O27: the checks in order, then the pairs, then the entry to RUNNING. -/
theorem configSetAppliesItsPairs : Obligations.ConfigSetAppliesItsPairs := by
  intro s tag pairs ready some_ short fails changes applied status content
  have answer := s.hunt.answer_configSet tag some_ short
  have not_fails {y : Byte × BitVec 48} (h : ¬ fails y) : pairRefused y = false := by
    rw [← Bool.not_eq_true, pairRefused_iff]; exact h
  have changes_iff : changesChassis s.hunt pairs = true ↔ changes := changesChassis_iff s.hunt pairs
  have passes (passed : ∀ x ∈ pairs, ¬ fails x) (free : changes → ∀ p : Fin 32, (s.port p).state = .disabled) :
      s.hunt.answer ⟨tag, 0x10, pairs.flatMap pairBytes⟩ = takes (s.hunt.applyConfig applied.1) status content := by
    rw [answer]
    refine State.configSet_of_taken ((State.configRefusal_of_passed fun x hx => not_fails (passed x hx)).trans (if_neg ?_))
    rintro ⟨change, busy⟩
    rw [(State.allDisabled_iff s.hunt).mpr (free (changes_iff.mp change))] at busy
    cases busy
  refine ⟨fun before x after split passed bad => ?first, fun passed change ⟨p, busy⟩ => ?busy, fun passed free running => ?running,
    fun passed other unconfigured law => ?stays, fun passed chassis unconfigured law presence => ?enters⟩
  case first =>
    refine congrArg Host.Outcome.next (State.takeWhole_of_view (f := ⟨tag, 0x10, pairs.flatMap pairBytes⟩) ready ?_)
    rw [answer]
    refine State.configSet_of_refusal ?_
    rw [split]
    exact State.configRefusal_first (fun y hy => not_fails (passed y hy)) ((pairRefused_iff x).mpr bad)
  case busy =>
    refine congrArg Host.Outcome.next (State.takeWhole_of_view (f := ⟨tag, 0x10, pairs.flatMap pairBytes⟩) ready ?_)
    rw [answer]
    refine State.configSet_of_refusal ?_
    rw [State.configRefusal_of_passed fun x hx => not_fails (passed x hx)]
    refine if_pos ⟨changes_iff.mpr change, ?_⟩
    rw [Bool.not_eq_true', ← Bool.not_eq_true, State.allDisabled_iff]
    exact fun all => busy (all p)
  case running =>
    exact congrArg Host.Outcome.next (State.takeWhole_configSet ready (passes passed free) fun h => by
      rw [running] at h; cases h.1)
  case stays =>
    have none_ : s.params.chassisId = 0 := by
      by_contra nonzero
      rw [law.mpr nonzero] at unconfigured
      cases unconfigured
    have free : changes → ∀ p : Fin 32, (s.port p).state = .disabled := fun ⟨x, mem, at_, _⟩ => absurd at_ (other x mem)
    exact congrArg Host.Outcome.next (State.takeWhole_configSet ready (passes passed free) fun h =>
      h.2 ((chassisId_kept other _).trans none_))
  case enters =>
    have disabled : ∀ p : Fin 32, (s.port p).state = .disabled := fun p => (presence p).1.mpr (.inr unconfigured)
    have ⟨idle, settled, _⟩ := ready
    have nonzero : applied.1.chassisId ≠ 0 := chassisId_set
      (fun x hx bad => passed x hx (.inr (.inr (.inr bad)))) chassis _
    have taken := State.takeWhole_idle idle ⟨tag, 0x10, pairs.flatMap pairBytes⟩
    rw [passes passed fun _ => disabled, State.applyConfig_enters (s := s.hunt) unconfigured nonzero] at taken
    refine ⟨_, congrArg Host.Outcome.next taken, rfl, rfl, rfl, rfl, rfl, fun p => ?_⟩
    have port : (s.hunt.modMli fun m => { m with params := applied.1 }).enterRunning.port p =
        if (s.port p).adminEnable ∧ (s.port p).state = .disabled then (s.port p).enable applied.1 else s.port p :=
      State.port_enterRunning ..
    rw [State.port_modMli, State.port_conclude]
    constructor
    · change ((s.hunt.modMli fun m => { m with params := applied.1 }).enterRunning.port p).state = _
      rw [port]
      cases admin : (s.port p).adminEnable with
      | true =>
        rw [if_pos ⟨rfl, disabled p⟩, Port.enable_state]
        rfl
      | false =>
        rw [if_neg (by simp)]
        exact disabled p
    · intro off
      rw [if_neg (by simp [off])] at port
      exact concludePort_of_resting (before := s.hunt) port (by rw [State.hunt, State.port_modMli, disabled p]; rfl) (settled p)

end Sys2Proof.Machine

/-! SUPPORT. Scan jobs: MONITOR_SCAN and MONITOR_CANCEL at an idle link (R106 to R109). -/

namespace Sys2Proof.Machine

/-- The first number that a search from 0 up finds. -/
theorem find?_finRange_eq_some {n : Nat} {test : Fin n → Bool} {i : Fin n} (hit : test i = true)
    (miss : ∀ k < i, test k = false) : (List.finRange n).find? test = some i := by
  rw [← Fin.find?_eq_find?_finRange, Fin.find?_eq_some_iff]
  exact ⟨hit, fun k lt => by rw [miss k lt]⟩

/-! ## Creating a job -/

theorem freeJobId_eq {jobs : List ScanJob} {id : Fin 4} (free : ∀ j ∈ jobs, j.id ≠ id) (lower : ∀ k < id, ∃ j ∈ jobs, j.id = k) :
    freeJobId jobs = some id := by
  refine find?_finRange_eq_some (by simpa using free) fun k lt => ?_
  obtain ⟨j, mem, at_⟩ := lower k lt
  rw [List.all_eq_false]
  exact ⟨j, mem, by simp [at_]⟩

/-- The job that MONITOR_SCAN creates. -/
def newJob (id : Fin 4) (lanes : BitVec 128) (passes : Byte) : ScanJob :=
  { id := id, mask := lanes, passes := clampTo 1 16 passes.toNat, pass := 1, next := 0, made := 0 }

/-- The state in which the new job waits. -/
def State.withJob (s : State) (j : ScanJob) : State := s.withMonitor { s.monitor with jobs := s.monitor.jobs ++ [j] }

theorem State.answer_monitorScan (s : State) (tag : Byte) (lanes : BitVec 128) (passes : Byte) :
    s.answer ⟨tag, 0x0B, numberBytes 16 lanes.toNat ++ [passes]⟩ =
      if lanes = 0 then refuse s .argRange
      else if 4 ≤ s.monitor.jobs.length then refuse s .queueFull
      else match freeJobId s.monitor.jobs with
        | none => refuse s .queueFull
        | some id =>
          { takes (s.withJob (newJob id lanes passes)).select.state
              (if clampTo 1 16 passes.toNat = passes.toNat then .ok else .okClamped)
              [BitVec.ofNat 8 id.val, BitVec.ofNat 8 (clampTo 1 16 passes.toNat)] with
            notices := doneNotices (s.withJob (newJob id lanes passes)).select.done } := by
  have mask : BitVec.ofNat 128 (numberAt (numberBytes 16 lanes.toNat ++ [passes]) 0 16) = lanes := by
    rw [numberAt, List.drop_zero, List.take_left' (numberBytes_length 16 _)]
    exact ofNat_readNumber lanes rfl
  have count : byteAt (numberBytes 16 lanes.toNat ++ [passes]) 16 = passes := by
    rw [byteAt, List.getD_append_right _ _ _ _ (by rw [numberBytes_length]), numberBytes_length]
    rfl
  have allowed : lengthAllowed 0x0B (numberBytes 16 lanes.toNat ++ [passes]).length = true := by
    rw [List.length_append, numberBytes_length]
    rfl
  rw [s.answer_of_known (f := ⟨tag, 0x0B, numberBytes 16 lanes.toNat ++ [passes]⟩) rfl allowed]
  change s.takeMonitorScan (numberBytes 16 lanes.toNat ++ [passes]) = _
  unfold State.takeMonitorScan
  dsimp only
  rw [mask, count]
  simp only [okStatus_fit]
  rfl

theorem State.select_of_busy {s : State} (busy : s.monitor.engine ≠ none) : s.select = ⟨s, []⟩ := by
  unfold State.select
  split
  · rfl
  · next free => exact absurd free busy

/-- The first lane of a job's mask that is not FENCED. -/
theorem ScanJob.seek_first {fenced : Fin 128 → Bool} {j : ScanJob} {g : Fin 128} (start : j.next = 0)
    (listed : j.mask.getLsbD g.val = true) (open_ : fenced g = false)
    (first : ∀ h < g, j.mask.getLsbD h.val = true → fenced h = true) (fuel : Nat) :
    j.seek fenced (fuel + 1) = (j, some g) := by
  have found : j.candidate fenced = some g := by
    refine find?_finRange_eq_some (by simp [start, listed, open_]) fun h lt => ?_
    cases mem : j.mask.getLsbD h.val with
    | false => simp
    | true => simp [first h lt mem]
  rw [ScanJob.seek, found]

/-- A free engine with no request waiting serves the only job. -/
theorem State.select_only {s : State} {j : ScanJob} {g : Fin 128} (free : s.monitor.engine = none) (queue : s.monitor.queue = [])
    (jobs : s.monitor.jobs = [j]) (seek : j.seek s.laneFenced 16 = (j, some g)) : s.select =
      ⟨{ s with monitor := { s.monitor with
          jobs := [{ j with next := g.val + 1 }]
          runCount := 0
          engine := some ⟨g, .scan (some j.id), (s.lane g).current, .running 50000⟩ } }, []⟩ := by
  have examined : examineJobs s.laneFenced [j] = ⟨[j], some g, []⟩ := by rw [examineJobs, seek]
  unfold State.select
  rw [free]
  dsimp only
  rw [jobs, examined, State.monitor_withMonitor, queue]
  rfl

/-! ## Cancelling a job -/

theorem State.answer_monitorCancel (s : State) (tag id : Byte) :
    s.answer ⟨tag, 0x0C, [id]⟩ = match s.monitor.jobs.find? fun j => decide (j.id.val = id.toNat) with
      | none => refuse s .argRange
      | some j =>
        { takes (s.withMonitor { s.monitor with
              jobs := s.monitor.jobs.filter fun k => decide (k.id ≠ j.id)
              engine := s.monitor.engine.map (Measurement.orphan j.id) })
            .ok (byte1 j.id.val ++ byte2 j.made) with
          notices := [.monitorDone j.id .cancelled 0] } := by
  rw [s.answer_of_known rfl rfl]
  rfl

theorem Measurement.orphan_eq (id : Fin 4) (m : Measurement) :
    m.orphan id = if m.source = .scan (some id) then { m with source := .scan none } else m := by
  unfold Measurement.orphan
  split
  · next j source =>
    rw [source]
    by_cases same : j = id
    · rw [if_pos same, if_pos (by rw [same])]
    · rw [if_neg same, if_neg (by simpa using same)]
  · next source => rw [source]; exact (if_neg nofun).symm
  · next source => rw [source]; exact (if_neg nofun).symm

theorem jobs_find {before after : List ScanJob} {j : ScanJob} {id : Byte} (at_ : j.id.val = id.toNat)
    (others : ∀ k ∈ before ++ after, k.id ≠ j.id) :
    (before ++ j :: after).find? (fun k => decide (k.id.val = id.toNat)) = some j := by
  have before_ : before.find? (fun k => decide (k.id.val = id.toNat)) = none :=
    List.find?_eq_none.mpr fun k mem same => others k (List.mem_append_left _ mem)
      (Fin.ext ((of_decide_eq_true same).trans at_.symm))
  rw [List.find?_append, before_, Option.none_or, List.find?_cons, at_, decide_eq_true rfl]

theorem jobs_filter {before after : List ScanJob} {j : ScanJob} (others : ∀ k ∈ before ++ after, k.id ≠ j.id) :
    (before ++ j :: after).filter (fun k => decide (k.id ≠ j.id)) = before ++ after := by
  have kept (l : List ScanJob) (h : ∀ k ∈ l, k ∈ before ++ after) : l.filter (fun k => decide (k.id ≠ j.id)) = l :=
    List.filter_eq_self.mpr fun k mem => decide_eq_true (others k (h k mem))
  rw [List.filter_append, List.filter_cons_of_neg (by simp), kept before fun k mem => List.mem_append_left _ mem,
    kept after fun k mem => List.mem_append_right _ mem]

/-- Settles O25: a new job waits or is served by a free engine, a cancelled one is gone. -/
theorem scanJobsAreCreatedAndCancelled : Obligations.ScanJobsAreCreatedAndCancelled := by
  refine ⟨fun s tag lanes passes ready => ?scan, fun s tag id ready => ?cancel⟩
  case scan =>
    have answer := s.hunt.answer_monitorScan tag lanes passes
    refine ⟨fun empty => ?_, fun some_ full => ?_, fun id some_ room unused lower => ?_⟩
    · exact congrArg Host.Outcome.next (State.takeWhole_of_refuse ready (answer.trans (if_pos empty)))
    · exact congrArg Host.Outcome.next (State.takeWhole_of_refuse ready (answer.trans ((if_neg some_).trans (if_pos full))))
    · intro count status
      have id_eq : freeJobId s.hunt.monitor.jobs = some id := freeJobId_eq unused lower
      have room : ¬ 4 ≤ s.hunt.monitor.jobs.length := Nat.not_le_of_lt room
      rw [if_neg some_, if_neg room, id_eq, clampTo_eq (by decide)] at answer
      dsimp only at answer
      refine ⟨fun busy => ?_, fun g free queue none_ listed open_ first => ?_⟩
      · have waits : (s.hunt.withJob (newJob id lanes passes)).select = ⟨s.hunt.withJob (newJob id lanes passes), []⟩ :=
          State.select_of_busy busy
        rw [waits] at answer
        refine congrArg Host.Outcome.next ((State.takeWhole_of_still (u := s.withJob (newJob id lanes passes)) ready answer
          (.of_ports rfl rfl) rfl).trans ?_)
        rw [newJob, clampTo_eq (by decide)]
        rfl
      · have jobs : (s.hunt.withJob (newJob id lanes passes)).monitor.jobs = [newJob id lanes passes] :=
          congrArg (· ++ [newJob id lanes passes]) none_
        have seek : (newJob id lanes passes).seek (s.hunt.withJob (newJob id lanes passes)).laneFenced 16 = _ :=
          ScanJob.seek_first (j := newJob id lanes passes) (g := g) rfl listed open_ first 15
        have served := State.select_only (s := s.hunt.withJob (newJob id lanes passes)) free queue jobs seek
        rw [served] at answer
        refine congrArg Host.Outcome.next ((State.takeWhole_of_still (u := { s with monitor := { s.monitor with
            jobs := [{ newJob id lanes passes with next := g.val + 1 }]
            runCount := 0
            engine := some ⟨g, .scan (some id), (s.lane g).current, .running 50000⟩ } }) ready answer
          (.of_ports rfl rfl) rfl).trans ?_)
        rw [newJob, clampTo_eq (by decide)]
        rfl
  case cancel =>
    have answer := s.hunt.answer_monitorCancel tag id
    refine ⟨fun unknown => ?_, fun before j after split at_ others => ?_⟩
    · have none_ : s.hunt.monitor.jobs.find? (fun j => decide (j.id.val = id.toNat)) = none :=
        List.find?_eq_none.mpr fun j mem same => unknown j mem (of_decide_eq_true same)
      rw [none_] at answer
      exact congrArg Host.Outcome.next (State.takeWhole_of_refuse ready answer)
    · have split' : s.hunt.monitor.jobs = before ++ j :: after := split
      rw [split', jobs_find at_ others] at answer
      dsimp only at answer
      rw [jobs_filter others, byte1_toNat at_.symm] at answer
      refine congrArg Host.Outcome.next ((State.takeWhole_of_still (u := s.withMonitor { s.monitor with
          jobs := before ++ after
          engine := s.monitor.engine.map (Measurement.orphan j.id) }) ready answer (.of_ports rfl rfl) rfl).trans ?_)
      rw [show Measurement.orphan j.id = _ from funext (Measurement.orphan_eq j.id)]
      rfl

end Sys2Proof.Machine

/-! SUPPORT. The conditions of the nineteen codes (R154 to R161, Tables 8-4 and 8-5). -/

namespace Sys2Proof.Machine

section
variable {s : State} {p : Fin 32} {i : PeerId}

/-- What a CURRENT record's peer says of the record. -/
theorem State.identity_of_currentPeer (peer : s.currentPeer p = some i) : (s.port p).neighbor.identity = some i := by
  unfold State.currentPeer at peer
  split at peer
  · exact peer
  · cases peer

theorem State.duplicatePartner_isSome (peer : s.currentPeer p = some i) :
    (s.duplicatePartner p).isSome = true ↔ ∃ q : Fin 32, q ≠ p ∧ s.currentPeer q = some i := by
  simp [State.duplicatePartner, State.identity_of_currentPeer peer, allPorts]

theorem State.swapPartner_isSome (peer : s.currentPeer p = some i) :
    (s.swapPartner p).isSome = true ↔ (s.expected p).kind = .planned ∧ i ∉ (s.expected p).accepted
      ∧ ∃ q : Fin 32, s.Exchanged p i q := by
  by_cases foreign : (s.expected p).kind = .planned ∧ i ∉ (s.expected p).accepted
  · have tested : ∀ q : Fin 32, (decide (q ≠ p) && decide ((s.expected q).kind = .planned)
        && decide (i ∈ (s.expected q).accepted)
          && match s.currentPeer q with
            | some j => decide (j ∈ (s.expected p).accepted)
            | none => false) = true ↔ s.Exchanged p i q := fun q => by
      cases found : s.currentPeer q <;> simp [State.Exchanged, found, and_assoc]
    simp only [State.swapPartner, peer, if_pos foreign, List.find?_isSome]
    exact ⟨fun ⟨q, _, meets⟩ => ⟨foreign.1, foreign.2, q, (tested q).mp meets⟩,
      fun ⟨_, _, q, meets⟩ => ⟨q, List.mem_finRange q, (tested q).mpr meets⟩⟩
  · simp only [State.swapPartner, peer, if_neg foreign, Option.isSome_none, Bool.false_eq_true, false_iff]
    exact fun ⟨planned, alien, _⟩ => foreign ⟨planned, alien⟩

end

theorem wrongChassis_iff {e : Effective} {i : PeerId} :
    wrongChassis e i = true ↔ e.kind = .planned ∧ ∀ a ∈ e.accepted, a.chassis ≠ i.chassis := by simp [wrongChassis]

theorem wrongPort_iff {e : Effective} {i : PeerId} :
    wrongPort e i = true ↔ e.kind = .planned ∧ i ∉ e.accepted ∧ ∃ a ∈ e.accepted, a.chassis = i.chassis := by
  simp only [wrongPort, Bool.and_eq_true, decide_eq_true_iff, List.any_eq_true, and_assoc]
  exact and_congr_right fun _ => and_comm

/-- Table 8-4. -/
theorem laneCrossed_iff {order : Option MapClass} {policy : LanePolicy} :
    laneCrossed order policy = true ↔
      order = some .reversed ∧ policy = .strict ∨ order = some .permuted ∧ policy ≠ .any := by
  cases order with
  | none => simp [laneCrossed]
  | some cls => cases cls <;> cases policy <;> simp [laneCrossed]

theorem Held.anyLane_iff {h : Held} {test : HeldLane → Bool} :
    h.anyLane test = true ↔ ∃ f, ∃ l : Fin 4, h.findings = some f ∧ test (f.lanes.get l) = true := by
  cases found : h.findings <;> simp [Held.anyLane, found, allLanes]

theorem HeldLane.used_iff {final : Option (BitVec 4)} {l : HeldLane} :
    l.used final = true ↔ l.status = .kept ∧ ∃ m k, final = some m ∧ l.logical = some k ∧ m.getLsbD k.val = true := by
  cases final with
  | none => simp [HeldLane.used]
  | some m => cases carried : l.logical <;> simp [HeldLane.used, carried]

/-- A code of the KEPT lanes in the final set (R158). -/
theorem Held.anyLane_used_iff {h : Held} {test : HeldLane → Bool} :
    (h.anyLane fun l => l.used h.finalSet && test l) = true ↔
      ∃ f m, ∃ l k : Fin 4, h.findings = some f ∧ h.finalSet = some m ∧ (f.lanes.get l).status = .kept
        ∧ (f.lanes.get l).logical = some k ∧ m.getLsbD k.val = true ∧ test (f.lanes.get l) = true := by
  simp only [Held.anyLane_iff, Bool.and_eq_true, HeldLane.used_iff]
  constructor
  · rintro ⟨f, l, found, ⟨kept, m, k, final, carries, inSet⟩, meets⟩
    exact ⟨f, m, l, k, found, final, kept, carries, inSet, meets⟩
  · rintro ⟨f, m, l, k, found, final, kept, carries, inSet, meets⟩
    exact ⟨f, l, found, ⟨kept, m, k, final, carries, inSet⟩, meets⟩

theorem outOfWindow_iff {window : Option Window} {length : Option Nat} :
    outOfWindow window length = true ↔ ∃ w n, window = some w ∧ length = some n ∧ (n < w.low ∨ w.high < n) := by
  cases window <;> cases length <;> simp [outOfWindow]

/-- Table 8-5. -/
theorem Code.judged_iff (c : Code) : c.judged .planned = true
    ∧ (c.judged .any = true ↔ c ∉ [.pairSwapped, .wrongChassis, .wrongPort, .unplanned])
    ∧ (c.judged .unused = true ↔ c ∈ [.duplicatePeer, .unplanned, .peerDisagrees, .peerFailed, .planGenerationSkew]) := by
  cases c <;> decide

/-- Settles O59: each code's condition is the one of its rule; the record's identity is the CURRENT peer. -/
theorem codesHoldAsTheirTablesSay : Obligations.CodesHoldAsTheirTablesSay := by
  intro s p h i peer e n present keptInFinal
  have identity := State.identity_of_currentPeer peer
  refine ⟨Code.judged_iff, State.duplicatePartner_isSome peer, State.swapPartner_isSome peer, ?chassis, ?port,
    decide_eq_true_iff, ?disagrees, ?failed, decide_eq_true_iff, laneCrossed_iff, ?insufficient, ?excess, outOfWindow_iff,
    ?degraded, ?unstable, Held.anyLane_used_iff, Held.anyLane_used_iff, Iff.rfl, Iff.rfl, decide_eq_true_iff⟩
  case chassis => simp only [present, State.codeHolds, identity]; exact wrongChassis_iff
  case port => simp only [present, State.codeHolds, identity]; exact wrongPort_iff
  case disagrees =>
    have differs : ∀ j : PeerId, j ≠ ⟨s.params.chassisId, p⟩ ↔ j.chassis ≠ s.params.chassisId ∨ j.port ≠ p := fun j => by
      rw [Ne, PeerId.mk.injEq, not_and_or]
    cases named : n.expected with
    | none => simp [present, State.codeHolds, n, named]
    | some j => simpa [present, State.codeHolds, n, named] using differs j
  case failed => simp [present, State.codeHolds, n]
  case insufficient => cases final : h.finalSet <;> simp [present, State.codeHolds, final, e]
  case excess => cases found : h.findings <;> simp [present, State.codeHolds, found]
  case degraded => cases final : h.finalSet <;> simp [present, State.codeHolds, final, e]
  case unstable =>
    simp only [present, State.codeHolds, Held.anyLane_iff, decide_eq_true_iff]

end Sys2Proof.Machine

/-! SUPPORT. The final collection: lane map, eligible lanes, skews, candidates, and what is fixed (R126 to R132, R136). -/

namespace Sys2Proof.Machine

/-! ## Lists of numbers -/

theorem minOf_eq_min? (l : List Int) : minOf l = l.min? := by cases l <;> rfl

theorem maxOf_eq_max? (l : List Nat) : maxOf l = l.max? := by cases l <;> rfl

/-- No two of the skews are further apart than a limit just when the largest and the smallest are not. -/
theorem skewSpread_le_iff {skews : List Nat} {limit : Nat} :
    skewSpread skews ≤ limit ↔ ∀ x ∈ skews, ∀ y ∈ skews, x - y ≤ limit := by
  cases skews with
  | nil => simp [skewSpread]
  | cons a rest =>
    obtain ⟨largest, most⟩ := List.max?_eq_some_iff.mp (List.max?_cons' (x := a) (xs := rest))
    obtain ⟨smallest, least⟩ := List.min?_eq_some_iff.mp (List.min?_cons' (x := a) (xs := rest))
    refine ⟨fun bound x hx y hy => ?_, fun bound => bound _ largest _ smallest⟩
    have := most x hx
    have := least y hy
    simp only [skewSpread] at bound
    omega

/-- An Option-valued map of a list has a value just when each of its members has one. -/
theorem isSome_mapM_iff {α β : Type} {f : α → Option β} {l : List α} :
    (l.mapM f).isSome = true ↔ ∀ x ∈ l, (f x).isSome = true := by
  induction l with
  | nil => simp
  | cons a rest ih =>
    cases head : f a with
    | none => simp [head]
    | some b =>
      rw [List.forall_mem_cons, ← ih, head]
      cases tail : rest.mapM f <;> simp [head, tail]

theorem mem_of_mapM {α β : Type} {f : α → Option β} {l : List α} {out : List β} (h : l.mapM f = some out) (y : β) :
    y ∈ out ↔ ∃ x ∈ l, f x = some y := by
  induction l generalizing out with
  | nil =>
    have : out = [] := by simpa using h.symm
    simp [this]
  | cons a rest ih =>
    cases head : f a with
    | none => simp [head] at h
    | some b =>
      cases tail : rest.mapM f with
      | none => simp [head, tail] at h
      | some out' =>
        have built : b :: out' = out := by simpa [head, tail] using h
        rw [← built, List.mem_cons, ih tail]
        simp [head, eq_comm]

/-! ## The lane map (R126) -/

/-- Lane `l` has seen a marker and carries logical lane `k`. -/
def Port.Maps (pt : Port) (l k : Fin 4) : Prop := (pt.dlane l).seen = true ∧ (pt.dlane l).logical = some k

/-- Two lanes carry one logical lane. -/
def Port.MapInvalid (pt : Port) : Prop := ∃ a b k : Fin 4, a ≠ b ∧ pt.Maps a k ∧ pt.Maps b k

/-- The entry of one lane. -/
def Port.mapEntry (pt : Port) (l : Fin 4) : Option (Fin 4 × Fin 4) :=
  match (pt.dlane l).seen, (pt.dlane l).logical with
  | true, some k => some (l, k)
  | _, _ => none

theorem Port.mapEntries_eq (pt : Port) : pt.mapEntries = allLanes.filterMap pt.mapEntry := rfl

theorem Port.mapEntry_eq_some_iff {pt : Port} {l : Fin 4} {e : Fin 4 × Fin 4} :
    pt.mapEntry l = some e ↔ e.1 = l ∧ pt.Maps e.1 e.2 := by
  obtain ⟨a, k⟩ := e
  unfold Port.mapEntry Port.Maps
  constructor
  · cases seen : (pt.dlane l).seen <;> cases carried : (pt.dlane l).logical <;>
      simp only [reduceCtorEq, false_imp_iff, Option.some.injEq, Prod.mk.injEq, and_imp]
    rintro rfl rfl
    exact ⟨rfl, seen, carried⟩
  · rintro ⟨rfl, seen, carried⟩
    simp only at seen carried
    simp only [seen, carried]

theorem Port.mem_mapEntries {pt : Port} {l k : Fin 4} : (l, k) ∈ pt.mapEntries ↔ pt.Maps l k := by
  simp [Port.mapEntries_eq, Port.mapEntry_eq_some_iff, allLanes]

theorem Port.mapEntries_nodup (pt : Port) : pt.mapEntries.Nodup := by
  rw [Port.mapEntries_eq]
  refine (List.nodup_finRange 4).filterMap fun a b e ha hb => ?_
  rw [← (Port.mapEntry_eq_some_iff.mp ha).1, ← (Port.mapEntry_eq_some_iff.mp hb).1]

theorem Port.nodup_logical_iff (pt : Port) : (pt.mapEntries.map (·.2)).Nodup ↔ ¬ pt.MapInvalid := by
  rw [List.nodup_map_iff_inj_on pt.mapEntries_nodup]
  constructor
  · rintro inj ⟨a, b, k, other, ha, hb⟩
    exact other (congrArg Prod.fst (inj _ (Port.mem_mapEntries.mpr ha) _ (Port.mem_mapEntries.mpr hb) rfl))
  · rintro valid ⟨a, j⟩ ha ⟨b, k⟩ hb same
    obtain rfl : j = k := same
    by_contra other
    exact valid ⟨a, b, j, fun eq => other (by rw [eq]), Port.mem_mapEntries.mp ha, Port.mem_mapEntries.mp hb⟩

section
variable {entries : List (Fin 4 × Fin 4)}

theorem classify_invalid_iff : classify entries = .invalid ↔ ¬ (entries.map (·.2)).Nodup := by
  unfold classify; split_ifs <;> tauto

theorem classify_identity_iff :
    classify entries = .identity ↔ (entries.map (·.2)).Nodup ∧ ∀ e ∈ entries, e.2 = e.1 := by
  unfold classify; split_ifs <;> tauto

theorem classify_reversed_iff : classify entries = .reversed ↔ (entries.map (·.2)).Nodup
    ∧ (¬ ∀ e ∈ entries, e.2 = e.1) ∧ ∀ e ∈ entries, e.2.val = 3 - e.1.val := by
  unfold classify; split_ifs <;> tauto

theorem classify_permuted_iff : classify entries = .permuted ↔ (entries.map (·.2)).Nodup
    ∧ (¬ ∀ e ∈ entries, e.2 = e.1) ∧ ¬ ∀ e ∈ entries, e.2.val = 3 - e.1.val := by
  unfold classify; split_ifs <;> tauto

end

theorem Port.forall_mapEntries_iff {pt : Port} {test : Fin 4 → Fin 4 → Prop} :
    (∀ e ∈ pt.mapEntries, test e.1 e.2) ↔ ∀ l k : Fin 4, pt.Maps l k → test l k :=
  ⟨fun all l k maps => all (l, k) (Port.mem_mapEntries.mpr maps), fun all e mem => all e.1 e.2 (Port.mem_mapEntries.mp mem)⟩

/-- The class of the map of a port (Table 6-4). -/
theorem Port.mapClass_iff (pt : Port) :
    (classify pt.mapEntries = .invalid ↔ pt.MapInvalid)
    ∧ (classify pt.mapEntries = .identity ↔ ¬ pt.MapInvalid ∧ ∀ l k : Fin 4, pt.Maps l k → k = l)
    ∧ (classify pt.mapEntries = .reversed ↔ ¬ pt.MapInvalid ∧ (∃ l k : Fin 4, pt.Maps l k ∧ k ≠ l)
        ∧ ∀ l k : Fin 4, pt.Maps l k → l.val + k.val = 3)
    ∧ (classify pt.mapEntries = .permuted ↔ ¬ pt.MapInvalid ∧ (∃ l k : Fin 4, pt.Maps l k ∧ k ≠ l)
        ∧ ∃ l k : Fin 4, pt.Maps l k ∧ l.val + k.val ≠ 3) := by
  have straight : (∀ e ∈ pt.mapEntries, e.2 = e.1) ↔ ∀ l k : Fin 4, pt.Maps l k → k = l :=
    Port.forall_mapEntries_iff (test := fun l k => k = l)
  have turned : (∀ e ∈ pt.mapEntries, e.2.val = 3 - e.1.val) ↔ ∀ l k : Fin 4, pt.Maps l k → l.val + k.val = 3 :=
    (Port.forall_mapEntries_iff (test := fun l k => k.val = 3 - l.val)).trans
      (forall₂_congr fun l k => imp_congr_right fun _ => by omega)
  rw [classify_invalid_iff, classify_identity_iff, classify_reversed_iff, classify_permuted_iff, pt.nodup_logical_iff,
    straight, turned]
  push Not
  exact ⟨Iff.rfl, Iff.rfl, Iff.rfl, Iff.rfl⟩

/-! ## The eligible lanes (R127) -/

/-- A collecting lane that is stable. -/
def Port.Remains (pt : Port) (l : Fin 4) : Prop := pt.collecting l = true ∧ pt.stable l = true

/-- R127. -/
def Port.Eligible (pt : Port) (l : Fin 4) : Prop := pt.Remains l ∧ ¬ pt.MapInvalid ∧ ∃ k : Fin 4,
  (pt.dlane l).logical = some k ∧ pt.fence k = false ∧ pt.neighbor.fence.getLsbD k.val = false

theorem Port.mem_stable {pt : Port} {l : Fin 4} : l ∈ pt.findings.stable ↔ pt.Remains l := by
  simp [Port.findings, Port.Remains, allLanes]

theorem Port.mem_eligible {pt : Port} {l : Fin 4} : l ∈ pt.findings.eligible ↔ pt.Eligible l := by
  have valid : classify pt.mapEntries ≠ .invalid ↔ ¬ pt.MapInvalid := not_congr pt.mapClass_iff.1
  have unfolded : l ∈ pt.findings.eligible ↔ pt.Remains l ∧ classify pt.mapEntries ≠ .invalid
      ∧ ∃ k : Fin 4, (pt.dlane l).logical = some k ∧ pt.fence k = false ∧ pt.neighbor.fence.getLsbD k.val = false := by
    cases carried : (pt.dlane l).logical with
    | none => simp [Port.findings, carried]
    | some k =>
      simp only [Port.findings, carried, List.mem_filter, Bool.and_eq_true, decide_eq_true_iff, Bool.not_eq_true', allLanes,
        List.mem_finRange, true_and, Option.some.injEq, exists_eq_left', Port.Remains]
  rw [unfolded, valid, Port.Eligible]

theorem Port.Eligible.remains {pt : Port} {l : Fin 4} (h : pt.Eligible l) : pt.Remains l := h.1

theorem Port.Eligible.maps {pt : Port} {l k : Fin 4} (h : pt.Eligible l) (carried : (pt.dlane l).logical = some k) :
    pt.Maps l k :=
  ⟨(Bool.and_eq_true_iff.mp h.remains.1).2, carried⟩

/-- Eligible lanes carry distinct logical lanes. -/
theorem Port.Eligible.eq_of_logical {pt : Port} {a b k : Fin 4} (ha : pt.Eligible a) (hb : pt.Eligible b)
    (carriesA : (pt.dlane a).logical = some k) (carriesB : (pt.dlane b).logical = some k) : a = b := by
  by_contra other
  exact ha.2.1 ⟨a, b, k, other, ha.maps carriesA, hb.maps carriesB⟩

/-! ## Averages and skews (R128) -/

/-- The average of a stable lane that is not the reference, from its four differences. -/
theorem Port.average_of_differences {pt : Port} {l : Fin 4} {a b c e : Int} (other : pt.deskew.reference ≠ some l)
    (cells : (pt.dlane l).differences.cells = [some a, some b, some c, some e]) :
    pt.average l = (a + b + c + e + 2) / 4 := by
  have all : (pt.dlane l).allDifferences = some [a, b, c, e] := by
    simp [DeskewLane.allDifferences, Table.get, cells]
  rw [Port.average, if_neg other, all]
  simp [averageOf]

theorem Port.average_of_reference {pt : Port} {l : Fin 4} (reference : pt.deskew.reference = some l) : pt.average l = 0 :=
  if_pos reference

section
variable {pt : Port} {E : List (Fin 4)} {l : Fin 4}

theorem Port.skewOf_of_not_mem (h : l ∉ E) : pt.skewOf E l = none := if_neg h

/-- The skew of an eligible lane is measured from the earliest. -/
theorem Port.skewOf_of_mem (h : l ∈ E) : ∃ o ∈ E, ∃ n : Nat, pt.skewOf E l = some n ∧ (n : Int) = pt.average l - pt.average o
    ∧ ∀ i ∈ E, pt.average o ≤ pt.average i := by
  have some_ : (E.map pt.average).min?.isSome = true := by
    rw [List.isSome_min?_iff]
    exact fun empty => List.not_mem_nil (List.map_eq_nil_iff.mp empty ▸ h)
  obtain ⟨m, least⟩ := Option.isSome_iff_exists.mp some_
  obtain ⟨attained, bound⟩ := List.min?_eq_some_iff.mp least
  obtain ⟨o, memO, rfl⟩ := List.mem_map.mp attained
  have lowest : ∀ i ∈ E, pt.average o ≤ pt.average i := fun i hi =>
    bound _ (List.mem_map_of_mem hi)
  refine ⟨o, memO, (pt.average l - pt.average o).toNat, ?_, ?_, lowest⟩
  · rw [Port.skewOf, if_pos h, minOf_eq_min?, least]
  · have := lowest l h
    omega

theorem Port.mem_skewsOf {lanes : List (Fin 4)} {n : Nat} :
    n ∈ pt.skewsOf E lanes ↔ ∃ l ∈ lanes, pt.skewOf E l = some n := List.mem_filterMap

theorem Port.mem_of_skewOf {n : Nat} (h : pt.skewOf E l = some n) : l ∈ E := by
  by_contra foreign
  rw [Port.skewOf_of_not_mem foreign] at h
  cases h

end

/-! ## The candidates (R129) -/

section
variable {pt : Port} {limit minWidth : Nat}

/-- The lanes of one legal set, if it qualifies. -/
def Port.takeSet (pt : Port) (E : List (Fin 4)) (limit minWidth : Nat) (m : BitVec 4) : Option (List (Fin 4)) :=
  if setWidth m < minWidth then none
  else
    match pt.carriers E m with
    | some lanes => if skewSpread (pt.skewsOf E lanes) ≤ limit then some lanes else none
    | none => none

/-- Every skew lies within the limit. -/
def Port.SkewsWithin (pt : Port) (limit : Nat) : Prop :=
  ∀ (l : Fin 4) (n : Nat), pt.skewOf pt.findings.eligible l = some n → n ≤ limit

/-- A legal set that can be kept. -/
def Port.Qualifies (pt : Port) (limit minWidth : Nat) (m : BitVec 4) : Prop :=
  minWidth ≤ setWidth m
    ∧ (∀ k : Fin 4, m.getLsbD k.val = true → ∃ l : Fin 4, pt.Eligible l ∧ (pt.dlane l).logical = some k)
    ∧ ∀ (a b j k : Fin 4) (x y : Nat), pt.Eligible a → pt.Eligible b → (pt.dlane a).logical = some j →
        (pt.dlane b).logical = some k → m.getLsbD j.val = true → m.getLsbD k.val = true →
        pt.skewOf pt.findings.eligible a = some x → pt.skewOf pt.findings.eligible b = some y → x - y ≤ limit

theorem Port.chooseCandidates_of_within (within : pt.SkewsWithin limit) :
    pt.chooseCandidates pt.findings.eligible limit minWidth = some pt.findings.eligible := by
  unfold Port.chooseCandidates
  cases largest : maxOf (pt.skewsOf pt.findings.eligible pt.findings.eligible) with
  | none => rfl
  | some x =>
    rw [maxOf_eq_max?] at largest
    obtain ⟨l, -, skew⟩ := Port.mem_skewsOf.mp (List.max?_eq_some_iff.mp largest).1
    exact if_pos (within l x skew)

theorem Port.chooseCandidates_of_not_within (beyond : ¬ pt.SkewsWithin limit) :
    pt.chooseCandidates pt.findings.eligible limit minWidth
      = legalSets.findSome? (pt.takeSet pt.findings.eligible limit minWidth) := by
  unfold Port.SkewsWithin at beyond
  push Not at beyond
  obtain ⟨l, n, skew, over_⟩ := beyond
  have mem : n ∈ pt.skewsOf pt.findings.eligible pt.findings.eligible :=
    Port.mem_skewsOf.mpr ⟨l, Port.mem_of_skewOf skew, skew⟩
  unfold Port.chooseCandidates
  cases largest : maxOf (pt.skewsOf pt.findings.eligible pt.findings.eligible) with
  | none => rw [maxOf_eq_max?, List.max?_eq_none_iff] at largest; rw [largest] at mem; cases mem
  | some x =>
    rw [maxOf_eq_max?] at largest
    have : n ≤ x := (List.max?_eq_some_iff.mp largest).2 n mem
    exact if_neg (by omega)

theorem Port.carried {k l : Fin 4} (found : pt.carrier pt.findings.eligible k = some l) :
    pt.Eligible l ∧ (pt.dlane l).logical = some k := by
  unfold Port.carrier at found
  exact ⟨Port.mem_eligible.mp (List.mem_of_find?_eq_some found),
    by simpa only [decide_eq_true_iff] using List.find?_some found⟩

/-- The eligible lane that carries a logical lane is the only one. -/
theorem Port.carrier_eq_some_iff {k l : Fin 4} :
    pt.carrier pt.findings.eligible k = some l ↔ pt.Eligible l ∧ (pt.dlane l).logical = some k := by
  constructor
  · intro found
    exact Port.carried found
  · rintro ⟨eligible, carries⟩
    have some_ : (pt.carrier pt.findings.eligible k).isSome = true :=
      List.find?_isSome.mpr ⟨l, Port.mem_eligible.mpr eligible, decide_eq_true carries⟩
    obtain ⟨o, found⟩ := Option.isSome_iff_exists.mp some_
    obtain ⟨theirs, same⟩ := Port.carried found
    rw [found, theirs.eq_of_logical eligible same carries]

theorem Port.mem_carriers {m : BitVec 4} {lanes : List (Fin 4)} (h : pt.carriers pt.findings.eligible m = some lanes)
    (l : Fin 4) : l ∈ lanes ↔ pt.Eligible l ∧ ∃ k : Fin 4, (pt.dlane l).logical = some k ∧ m.getLsbD k.val = true := by
  rw [mem_of_mapM h]
  simp only [Port.carrier_eq_some_iff, List.mem_filter, allLanes, List.mem_finRange, true_and]
  exact ⟨fun ⟨k, inSet, eligible, carries⟩ => ⟨eligible, k, carries, inSet⟩,
    fun ⟨eligible, k, carries, inSet⟩ => ⟨k, inSet, eligible, carries⟩⟩

theorem Port.carriers_isSome {m : BitVec 4} : (pt.carriers pt.findings.eligible m).isSome = true ↔
    ∀ k : Fin 4, m.getLsbD k.val = true → ∃ l : Fin 4, pt.Eligible l ∧ (pt.dlane l).logical = some k := by
  rw [Port.carriers, isSome_mapM_iff]
  simp only [Option.isSome_iff_exists, Port.carrier_eq_some_iff, List.mem_filter, allLanes, List.mem_finRange, true_and]

theorem Port.takeSet_isSome {m : BitVec 4} :
    (pt.takeSet pt.findings.eligible limit minWidth m).isSome = true ↔ pt.Qualifies limit minWidth m := by
  unfold Port.takeSet Port.Qualifies
  by_cases narrow : setWidth m < minWidth
  · rw [if_pos narrow]
    exact ⟨fun h => absurd h Bool.false_ne_true, fun h => absurd h.1 (by omega)⟩
  rw [if_neg narrow, ← Port.carriers_isSome]
  cases carried : pt.carriers pt.findings.eligible m with
  | none => simp
  | some lanes =>
    have spread_ : skewSpread (pt.skewsOf pt.findings.eligible lanes) ≤ limit ↔
        ∀ (a b j k : Fin 4) (x y : Nat), pt.Eligible a → pt.Eligible b → (pt.dlane a).logical = some j →
          (pt.dlane b).logical = some k → m.getLsbD j.val = true → m.getLsbD k.val = true →
          pt.skewOf pt.findings.eligible a = some x → pt.skewOf pt.findings.eligible b = some y → x - y ≤ limit := by
      simp only [skewSpread_le_iff, Port.mem_skewsOf, Port.mem_carriers carried]
      constructor
      · intro bound a b j k x y ha hb carriesA carriesB inA inB skewA skewB
        exact bound x ⟨a, ⟨ha, j, carriesA, inA⟩, skewA⟩ y ⟨b, ⟨hb, k, carriesB, inB⟩, skewB⟩
      · rintro bound x ⟨a, ⟨ha, j, carriesA, inA⟩, skewA⟩ y ⟨b, ⟨hb, k, carriesB, inB⟩, skewB⟩
        exact bound a b j k x y ha hb carriesA carriesB inA inB skewA skewB
    rw [← spread_]
    by_cases close : skewSpread (pt.skewsOf pt.findings.eligible lanes) ≤ limit
    · simp [close, Nat.le_of_not_lt narrow]
    · simp [close]

theorem Port.mem_takeSet {m : BitVec 4} {lanes : List (Fin 4)}
    (h : pt.takeSet pt.findings.eligible limit minWidth m = some lanes) (l : Fin 4) :
    l ∈ lanes ↔ pt.Eligible l ∧ ∃ k : Fin 4, (pt.dlane l).logical = some k ∧ m.getLsbD k.val = true := by
  unfold Port.takeSet at h
  split at h
  · cases h
  split at h
  · split at h
    · cases h
      exact Port.mem_carriers ‹_› l
    · cases h
  · cases h

/-- The first legal set that qualifies. -/
theorem Port.chooseCandidates_of_first (beyond : ¬ pt.SkewsWithin limit) {before after : List (BitVec 4)} {m : BitVec 4}
    (sets : legalSets = before ++ m :: after) (earlier : ∀ b ∈ before, ¬ pt.Qualifies limit minWidth b)
    (qualifies : pt.Qualifies limit minWidth m) :
    ∃ lanes, pt.chooseCandidates pt.findings.eligible limit minWidth = some lanes
      ∧ ∀ l, l ∈ lanes ↔ pt.Eligible l ∧ ∃ k : Fin 4, (pt.dlane l).logical = some k ∧ m.getLsbD k.val = true := by
  obtain ⟨lanes, taken⟩ := Option.isSome_iff_exists.mp (Port.takeSet_isSome.mpr qualifies)
  refine ⟨lanes, ?_, Port.mem_takeSet taken⟩
  rw [Port.chooseCandidates_of_not_within beyond]
  exact List.findSome?_eq_some_iff.mpr ⟨before, m, after, sets, taken, fun b hb =>
    Option.not_isSome_iff_eq_none.mp (mt Port.takeSet_isSome.mp (earlier b hb))⟩

theorem Port.chooseCandidates_of_none (beyond : ¬ pt.SkewsWithin limit)
    (none_ : ∀ m ∈ legalSets, ¬ pt.Qualifies limit minWidth m) :
    pt.chooseCandidates pt.findings.eligible limit minWidth = none := by
  rw [Port.chooseCandidates_of_not_within beyond, List.findSome?_eq_none_iff]
  exact fun m hm => Option.not_isSome_iff_eq_none.mp (mt Port.takeSet_isSome.mp (none_ m hm))

/-- Candidates are eligible. -/
theorem Port.eligible_of_candidate {l : Fin 4}
    (h : l ∈ (pt.chooseCandidates pt.findings.eligible limit minWidth).getD []) : pt.Eligible l := by
  by_cases within : pt.SkewsWithin limit
  · rw [Port.chooseCandidates_of_within within] at h
    exact Port.mem_eligible.mp h
  · rw [Port.chooseCandidates_of_not_within within] at h
    cases taken : legalSets.findSome? (pt.takeSet pt.findings.eligible limit minWidth) with
    | none => rw [taken] at h; cases h
    | some lanes =>
      rw [taken] at h
      obtain ⟨_, m, _, _, took, _⟩ := List.findSome?_eq_some_iff.mp taken
      exact ((Port.mem_takeSet took l).mp h).1

end

end Sys2Proof.Machine

/-! SUPPORT. What the fixing of the mask writes, width reduction and the receive paths (R126 to R132, R136). -/

namespace Sys2Proof.Machine

/-- The width reduction takes the first legal set inside the mask (R132). -/
theorem reduceWidth_of_first {m w : BitVec 4} {before after : List (BitVec 4)} (sets : legalSets = before ++ w :: after)
    (inside : w &&& m = w) (earlier : ∀ b ∈ before, b &&& m ≠ b) : reduceWidth m = w := by
  have found : legalSets.find? (fun s => s &&& m == s) = some w :=
    List.find?_eq_some_iff_append.mpr ⟨beq_iff_eq.mpr inside, before, after, sets,
      fun b hb => by simpa using earlier b hb⟩
  rw [reduceWidth, found]

/-- The lowest kept lane that the map gives for a logical lane feeds it (R136). -/
theorem Port.receivePath_of_lowest {pt : Port} {l k : Fin 4} (active : pt.state = .active) (kept : pt.keptLane l = true)
    (carries : (pt.dlane l).logical = some k)
    (lowest : ∀ o : Fin 4, o < l → pt.keptLane o = true → (pt.dlane o).logical ≠ some k) :
    pt.receivePath k = some ⟨l, (pt.dlane l).delay, (pt.lane l).inversion, pt.inFinalSet k⟩ := by
  have found : (allLanes.find? fun p => pt.keptLane p && decide ((pt.dlane p).logical = some k)) = some l := by
    rw [allLanes, ← Fin.find?_eq_find?_finRange, Fin.find?_eq_some_iff]
    exact ⟨by simp [kept, carries], fun o below => by simpa using lowest o below⟩
  rw [Port.receivePath, if_pos active, found, Option.map_some]

section
variable (base : BaseFields) (pt : Port)

/-- The candidates at the fixing of the mask. -/
def Port.candidates : List (Fin 4) :=
  (pt.chooseCandidates pt.findings.eligible base.appliedSkewLimit base.minWidth.lanes).getD []

theorem Port.average_fixMask (l : Fin 4) : ((pt.fixMask base).dlane l).average =
    if l ∈ pt.findings.stable then some (pt.average l) else none := by
  simp [Port.fixMask, Port.modDeskew, Port.dlane]

theorem Port.skew_fixMask (l : Fin 4) : ((pt.fixMask base).dlane l).skew = pt.skewOf pt.findings.eligible l := by
  simp [Port.fixMask, Port.modDeskew, Port.dlane]

theorem Port.status_fixMask (l : Fin 4) : ((pt.fixMask base).dlane l).status =
    finalStatus pt.findings (pt.candidates base) l (pt.dlane l).status := by
  simp [Port.fixMask, Port.modDeskew, Port.dlane, Port.candidates]

theorem Port.delay_of_not_candidate {l : Fin 4} (out : l ∉ pt.candidates base) : ((pt.fixMask base).dlane l).delay = none := by
  unfold Port.candidates at out
  simp only [Port.fixMask, Port.modDeskew, Port.dlane, Table.get_mapFin, if_neg out]

theorem Port.delay_fixMask {l : Fin 4} {x y : Nat} (kept : l ∈ pt.candidates base)
    (most : maxOf (pt.skewsOf pt.findings.eligible (pt.candidates base)) = some x)
    (skew : pt.skewOf pt.findings.eligible l = some y) : ((pt.fixMask base).dlane l).delay = some (x - y) := by
  unfold Port.candidates at kept most
  simp only [Port.fixMask, Port.modDeskew, Port.dlane, Table.get_mapFin, if_pos kept, most, skew]

theorem Port.maxKeptSkew_fixMask : (pt.fixMask base).deskew.maxKeptSkew
    = maxOf (pt.skewsOf pt.findings.eligible (pt.candidates base)) := rfl

theorem Port.skewExcess_fixMask : (pt.fixMask base).deskew.skewExcess
    = (pt.chooseCandidates pt.findings.eligible base.appliedSkewLimit base.minWidth.lanes).isNone := rfl

theorem Port.keptMask_fixMask (k : Fin 4) : (pt.fixMask base).deskew.keptMask.getLsbD k.val = true ↔
    ∃ l ∈ pt.candidates base, (pt.dlane l).logical = some k := by
  have mask : (pt.fixMask base).deskew.keptMask = pt.keptOf (pt.candidates base) := rfl
  rw [mask, Port.keptOf, laneMask_getLsbD]
  simp

end

section
variable {base : BaseFields} {pt : Port} {l : Fin 4}

theorem Port.eligible_of_mem_candidates (h : l ∈ pt.candidates base) : pt.Eligible l := Port.eligible_of_candidate h

/-- Of lanes that were not KEPT before, the candidates are KEPT at the fixing. -/
theorem Port.kept_fixMask_iff (fresh : ∀ l : Fin 4, (pt.dlane l).status ≠ .kept) :
    ((pt.fixMask base).dlane l).status = .kept ↔ l ∈ pt.candidates base := by
  rw [Port.status_fixMask]
  unfold finalStatus
  split_ifs with candidate
  · simp [candidate]
  · simp [candidate]
  · simp [candidate]
  · simp [candidate, fresh l]

theorem Port.average_of_remains (remains : pt.Remains l) : ((pt.fixMask base).dlane l).average = some (pt.average l) := by
  rw [Port.average_fixMask, if_pos (Port.mem_stable.mpr remains)]

theorem Port.average_of_not_remains (gone : ¬ pt.Remains l) : ((pt.fixMask base).dlane l).average = none := by
  rw [Port.average_fixMask, if_neg (mt Port.mem_stable.mp gone)]

/-- R131: the statuses of the lanes that are not kept. -/
theorem Port.status_of_not_candidate (out : l ∉ pt.candidates base) :
    (pt.Eligible l → ((pt.fixMask base).dlane l).status = .outsideSubset)
    ∧ (pt.Remains l → ¬ pt.Eligible l → ((pt.fixMask base).dlane l).status = .excluded)
    ∧ (¬ pt.Remains l → ((pt.fixMask base).dlane l).status = (pt.dlane l).status) := by
  rw [Port.status_fixMask, finalStatus, if_neg out]
  refine ⟨fun eligible => ?_, fun remains ineligible => ?_, fun gone => ?_⟩
  · rw [if_pos (Port.mem_eligible.mpr eligible)]
  · rw [if_neg (mt Port.mem_eligible.mp ineligible), if_pos (Port.mem_stable.mpr remains)]
  · rw [if_neg fun mem => gone (Port.mem_eligible.mp mem).remains, if_neg (mt Port.mem_stable.mp gone)]

/-- R130: the delay of a candidate brings it to the largest kept skew, which a candidate has. -/
theorem Port.delay_of_candidate (kept : l ∈ pt.candidates base) :
    ∃ o ∈ pt.candidates base, ∃ x y : Nat, ((pt.fixMask base).dlane o).skew = some x
      ∧ (pt.fixMask base).deskew.maxKeptSkew = some x ∧ ((pt.fixMask base).dlane l).skew = some y ∧ y ≤ x
      ∧ ((pt.fixMask base).dlane l).delay = some (x - y) := by
  obtain ⟨_, _, y, skew, -⟩ := Port.skewOf_of_mem (Port.mem_eligible.mpr (Port.eligible_of_mem_candidates kept))
  have mem : y ∈ pt.skewsOf pt.findings.eligible (pt.candidates base) := Port.mem_skewsOf.mpr ⟨l, kept, skew⟩
  obtain ⟨x, largest⟩ := Option.isSome_iff_exists.mp (List.isSome_max?_iff.mpr (List.ne_nil_of_mem mem))
  obtain ⟨attained, bound⟩ := List.max?_eq_some_iff.mp largest
  obtain ⟨o, memO, skewO⟩ := Port.mem_skewsOf.mp attained
  have most : maxOf (pt.skewsOf pt.findings.eligible (pt.candidates base)) = some x := by rw [maxOf_eq_max?, largest]
  refine ⟨o, memO, x, y, (Port.skew_fixMask ..).trans skewO, (Port.maxKeptSkew_fixMask ..).trans most,
    (Port.skew_fixMask ..).trans skew, bound y mem,
    Port.delay_fixMask base pt kept most skew⟩

end

/-- Settles O55: the fixing is read item by item. `Port.mem_eligible` says which lanes are eligible, `Port.skewOf_of_mem` how
their skews are measured, and `Port.chooseCandidates_of_within`, `_of_first` and `_of_none` which of them are candidates;
candidates are what is KEPT (`Port.kept_fixMask_iff`). -/
theorem maskIsFixedFromMapAndSkews : Obligations.MaskIsFixedFromMapAndSkews := by
  refine ⟨fun m => ⟨?empty, fun before w after => reduceWidth_of_first⟩, rfl, fun pt l k => Port.receivePath_of_lowest,
    fun base pt fresh => ?_⟩
  case empty => rintro rfl; decide
  intro g limit maps invalid remains eligible kept within qualifies
  obtain ⟨invalidClass, identityClass, reversedClass, permutedClass⟩ := pt.mapClass_iff
  have someClass : ∀ cls, g.deskew.mapClass = some cls ↔ classify pt.mapEntries = cls := fun cls => Option.some_inj
  have keptIff : ∀ l, kept l ↔ l ∈ pt.candidates base := fun l => Port.kept_fixMask_iff fresh
  have skewIs : ∀ l, (g.dlane l).skew = pt.skewOf pt.findings.eligible l := Port.skew_fixMask base pt
  have limitIs : base.appliedSkewLimit = limit := rfl
  have withinIff : within ↔ pt.SkewsWithin base.appliedSkewLimit := by
    simp only [within, skewIs, limitIs, Port.SkewsWithin]
  have qualifiesIff : ∀ m, qualifies m ↔ pt.Qualifies base.appliedSkewLimit base.minWidth.lanes m := fun m => by
    simp only [qualifies, skewIs, limitIs]
    rfl
  refine ⟨rfl, rfl, rfl, (someClass _).trans invalidClass, (someClass _).trans identityClass,
    (someClass _).trans reversedClass, (someClass _).trans permutedClass, fun l => Port.average_of_not_remains,
    fun l remains reference => (Port.average_of_remains remains).trans (congrArg some (Port.average_of_reference reference)),
    fun l a b c e remains other cells =>
      (Port.average_of_remains remains).trans (congrArg some (Port.average_of_differences other cells)),
    fun l ineligible => (skewIs l).trans (Port.skewOf_of_not_mem (mt Port.mem_eligible.mp ineligible)), ?skew, ?within,
    fun beyond => ⟨?first, ?none⟩, ?out, ?delay, ?mask⟩
  case skew =>
    intro l eligible
    obtain ⟨o, memO, n, skew, distance, lowest⟩ := Port.skewOf_of_mem (pt := pt) (Port.mem_eligible.mpr eligible)
    have eligibleO := Port.mem_eligible.mp memO
    refine ⟨o, _, _, n, eligibleO, Port.average_of_remains eligible.1, Port.average_of_remains eligibleO.1,
      (skewIs l).trans skew, distance, fun i z eligibleI average => ?_⟩
    have : pt.average i = z := Option.some_inj.mp ((Port.average_of_remains eligibleI.1).symm.trans average)
    exact this ▸ lowest i (Port.mem_eligible.mpr eligibleI)
  case within =>
    intro all
    have choice := Port.chooseCandidates_of_within (minWidth := base.minWidth.lanes) (withinIff.mp all)
    refine ⟨fun l => (keptIff l).trans ?_, by rw [Port.skewExcess_fixMask, choice, Option.isNone_some]⟩
    rw [Port.candidates, choice, Option.getD_some]
    exact Port.mem_eligible
  case first =>
    intro before m after sets earlier meets
    obtain ⟨lanes, choice, mem⟩ := Port.chooseCandidates_of_first (mt withinIff.mpr beyond) sets
      (fun b hb => mt (qualifiesIff b).mpr (earlier b hb)) ((qualifiesIff m).mp meets)
    refine ⟨by rw [Port.skewExcess_fixMask, choice, Option.isNone_some], fun l => (keptIff l).trans ?_⟩
    rw [Port.candidates, choice, Option.getD_some]
    exact mem l
  case none =>
    intro none_
    have choice := Port.chooseCandidates_of_none (mt withinIff.mpr beyond)
      (fun m hm => mt (qualifiesIff m).mpr (none_ m hm))
    refine ⟨by rw [Port.skewExcess_fixMask, choice, Option.isNone_none], fun l isKept => ?_⟩
    have mem := (keptIff l).mp isKept
    rw [Port.candidates, choice, Option.getD_none] at mem
    exact List.not_mem_nil mem
  case out =>
    intro l notKept
    have out := mt (keptIff l).mpr notKept
    exact ⟨Port.delay_of_not_candidate base pt out, Port.status_of_not_candidate out⟩
  case delay =>
    intro l isKept
    obtain ⟨o, memO, x, y, rest⟩ := Port.delay_of_candidate ((keptIff l).mp isKept)
    exact ⟨o, x, y, (keptIff o).mpr memO, rest⟩
  case mask =>
    intro k
    rw [Port.keptMask_fixMask]
    exact exists_congr fun l => and_congr_left fun _ => (keptIff l).symm

end Sys2Proof.Machine

/-! SUPPORT. What an event leaves of the ports it is not about, and of the Lane Monitor (R59, R62, R165, R166). -/

namespace Sys2Proof.Machine

/-! ## Withdrawals -/

/-- Of the Lane Monitor nothing changed but requests withdrawn. -/
structure State.Withdraws (s t : State) : Prop where
  rest : t.monitor = { s.monitor with queue := t.monitor.queue }
  queue : t.monitor.queue.Sublist s.monitor.queue

namespace State.Withdraws

variable {s t u : State}

theorem of_eq (h : t.monitor = s.monitor) : s.Withdraws t := ⟨by rw [h], by rw [h]⟩

theorem refl (s : State) : s.Withdraws s := of_eq rfl

theorem trans (h : s.Withdraws t) (k : t.Withdraws u) : s.Withdraws u :=
  ⟨k.rest.trans (by rw [h.rest]), k.queue.trans h.queue⟩

theorem setups (h : s.Withdraws t) : t.monitor.setups = s.monitor.setups := by rw [h.rest]

theorem results (h : s.Withdraws t) : t.monitor.results = s.monitor.results := by rw [h.rest]

theorem withdrawPort (s : State) (p : Fin 32) : s.Withdraws (s.withdrawPort p) := ⟨rfl, List.filter_sublist⟩

theorem foldl {α : Type} (f : State → α → State) (hf : ∀ (s : State) a, s.Withdraws (f s a)) (l : List α) (s : State) :
    s.Withdraws (l.foldl f s) := by
  induction l generalizing s with
  | nil => exact refl s
  | cons a rest ih => exact (hf s a).trans (ih _)

theorem fail (s : State) (p : Fin 32) (c : Cause) (n : Nat) (l : Option (Fin 4)) : s.Withdraws (s.fail p c n l) :=
  (of_eq (State.monitor_modPort ..)).trans (withdrawPort ..)

theorem examineLanes (s : State) (p : Fin 32) : s.Withdraws (s.examineLanes p) := by
  unfold State.examineLanes
  dsimp only
  split
  · split
    · exact refl s
    · exact of_eq rfl
    · exact fail ..
  · exact refl s

theorem actOn (s : State) (first : Bool) (p : Fin 32) : s.Withdraws (s.actOn first p) := by
  unfold State.actOn
  split
  · exact fail ..
  · split
    · exact of_eq rfl
    · exact refl s
  · split
    · exact of_eq rfl
    · exact refl s
  · exact refl s

theorem verdictPass (s : State) (set : List (Fin 32)) : s.Withdraws (s.verdictPass set) :=
  (foldl (fun t p => t.modPort p fun pt => { pt with verdict := s.compute p }) (fun _ _ => of_eq rfl) _ _).trans
    (foldl _ (fun _ _ => actOn ..) _ _)

theorem verdictPasses (n : Nat) (s : State) (set : List (Fin 32)) : s.Withdraws (State.verdictPasses n s set) := by
  induction n generalizing s set with
  | zero => exact refl s
  | succ n ih =>
    cases set with
    | nil => exact refl s
    | cons p rest =>
      unfold State.verdictPasses
      dsimp only
      split
      · exact (verdictPass ..).trans (ih _ _)
      · exact verdictPass ..

theorem trigger (s : State) (selected : Fin 32 → Bool) : s.Withdraws (s.trigger selected) := by
  unfold State.trigger
  split
  · exact verdictPasses ..
  · exact of_eq rfl

theorem verdicts (s before : State) (own : Fin 32 → Bool) : s.Withdraws (s.verdicts before own) := trigger ..

theorem finish (before s : State) (limits done : List Notice) : s.Withdraws (before.finish s limits done) :=
  of_eq (by simp [State.finish])

/-- No request of a withdrawn port comes back. -/
theorem none_of (h : s.Withdraws t) {p : Fin 32} (gone : ∀ r ∈ s.monitor.queue, lanePort r.lane ≠ p) :
    ∀ r ∈ t.monitor.queue, lanePort r.lane ≠ p := fun r hr => gone r (h.queue.subset hr)

end State.Withdraws

theorem State.withdrawn (s : State) (p : Fin 32) : ∀ r ∈ (s.withdrawPort p).monitor.queue, lanePort r.lane ≠ p := by
  simp [State.withdrawPort]

/-! ## Passes leave alone what cannot be judged -/

theorem State.not_judgeable_iff {s : State} {q : Fin 32} :
    s.judgeable q = false ↔ (s.port q).state.bearing = false ∧ s.verdictDue q = false := by
  simp [State.judgeable]

theorem State.judgeable_congr {s t : State} {q : Fin 32} (plan : t.plan = s.plan) (port : t.port q = s.port q) :
    t.judgeable q = s.judgeable q := by
  rw [State.judgeable, State.judgeable, State.verdictDue, State.verdictDue, plan, port]

theorem State.port_verdictPass_apart {s : State} {set : List (Fin 32)} (nodup : set.Nodup)
    (judgeable : ∀ p ∈ set, s.judgeable p = true) {q : Fin 32} (apart : s.judgeable q = false) :
    (s.verdictPass set).port q = s.port q := by
  obtain ⟨nd, -, from_⟩ := s.joinPartners_spec 32 nodup
  rw [State.port_verdictPass nd, if_neg]
  intro mem
  have : s.judgeable q = true := (from_ q mem).elim (judgeable q) id
  rw [apart] at this
  cases this

theorem State.port_verdictPasses_apart (n : Nat) {s : State} {set : List (Fin 32)} (nodup : set.Nodup)
    (judgeable : ∀ p ∈ set, s.judgeable p = true) {q : Fin 32} (apart : s.judgeable q = false) :
    (State.verdictPasses n s set).port q = s.port q := by
  induction n generalizing s set with
  | zero => rfl
  | succ n ih =>
    cases set with
    | nil => rfl
    | cons p rest =>
      have once := State.port_verdictPass_apart nodup judgeable apart
      unfold State.verdictPasses
      dsimp only
      split
      · exact (ih ((List.nodup_finRange 32).filter _) (fun r hr => State.judgeable_of_bearing (List.mem_filter.mp hr).2)
          ((State.judgeable_congr (State.Only.verdictPass ..).plan once).trans apart)).trans once
      · exact once

/-- A port that can join no pass, and bears no verdict, is not touched by a trigger. -/
theorem State.port_trigger_apart {s : State} {q : Fin 32} (apart : s.judgeable q = false) (selected : Fin 32 → Bool) :
    (s.trigger selected).port q = s.port q := by
  unfold State.trigger
  split
  · exact State.port_verdictPasses_apart _ ((List.nodup_finRange 32).filter _) State.judgeable_of_selected apart
  · rw [State.port_mapPorts, (State.not_judgeable_iff.mp apart).1, Bool.false_and, if_neg Bool.false_ne_true]

theorem State.port_verdicts_apart {s : State} {q : Fin 32} (apart : s.judgeable q = false) (before : State)
    (own : Fin 32 → Bool) : (s.verdicts before own).port q = s.port q := State.port_trigger_apart apart _

/-! ## The conclusion at a port -/

theorem State.advertised_congr {s t : State} {q : Fin 32} (plan : t.plan = s.plan) (port : t.port q = s.port q) :
    t.advertised q = s.advertised q := by
  simp only [State.advertised, State.advertisedPeer, State.expected, plan, port]

/-- A port as it was before an event, under the plan as it was, has nothing to conclude. -/
theorem State.port_conclude_same {before after : State} {q : Fin 32} (plan : after.plan = before.plan)
    (port : after.port q = before.port q) (settled : (before.port q).tx.settled = true) (limits done : List Notice) :
    (before.conclude after limits done).port q = before.port q := by
  rw [State.port_conclude, port]
  exact concludePort_quiet (by simp) (promptDue_same (by rw [port]) (State.advertised_congr plan port)) settled

/-- A conclusion changes of a port its pending flag and its transmitter alone. -/
theorem concludePort_eq (before after : State) (p : Fin 32) (pt : Port) : ∃ pending tx,
    concludePort before after p pt = { pt with verdict := { pt.verdict with pending := pending }, tx := tx } := by
  cases left : (before.port p).state.bearing && !pt.state.bearing with
  | true => simp only [concludePort, left, if_true]; exact ⟨false, _, rfl⟩
  | false => simp only [concludePort, left, Bool.false_eq_true, if_false]; exact ⟨pt.verdict.pending, _, rfl⟩

/-- A port that stays out of the verdict-bearing states keeps its verdict whole. -/
theorem concludePort_of_not_bearing {before : State} (after : State) {p : Fin 32} (pt : Port)
    (low : (before.port p).state.bearing = false) : ∃ tx, concludePort before after p pt = { pt with tx := tx } := by
  simp only [concludePort, low, Bool.false_and, Bool.false_eq_true, if_false]
  exact ⟨_, rfl⟩

theorem State.port_finish (before after : State) (limits done : List Notice) (q : Fin 32) :
    (before.finish after limits done).port q = concludePort before after q (after.port q) := by
  rw [State.finish, State.port_startOutbound, State.port_conclude]

theorem State.port_finish_same {before after : State} {q : Fin 32} (plan : after.plan = before.plan)
    (port : after.port q = before.port q) (settled : (before.port q).tx.settled = true) (limits done : List Notice) :
    (before.finish after limits done).port q = before.port q := by
  rw [State.finish, State.port_startOutbound, State.port_conclude_same plan port settled]

@[simp] theorem State.monitor_finish (before after : State) (limits done : List Notice) :
    (before.finish after limits done).monitor = after.monitor := by simp [State.finish]

/-! ## The whole event -/

/-- The outbound transmitter takes a reply or a notice at most; the rest of the link stays. -/
theorem State.sameDevice_startOutbound (s : State) : s.sameDevice s.startOutbound := by
  rcases s.startOutbound_cases with ⟨same, -⟩ | ⟨r, rest, -, -, same⟩ | ⟨n, rest, -, -, -, -, same⟩ <;> rw [same] <;>
    exact ⟨rfl, rfl, rfl, rfl, rfl, rfl, rfl, rfl, rfl, rfl, rfl⟩

/-- No event touches the device, as long as its own effect leaves the setups. -/
theorem State.sameDevice_finish {s u : State} (only : s.Only u) (setups : u.monitor.setups = s.monitor.setups)
    (limits done : List Notice) : s.sameDevice (s.finish u limits done) := by
  obtain ⟨plan, params, device, queue, framer, reset, notify, setups', errors, timestamp, pending⟩ :=
    (s.conclude u limits done).sameDevice_startOutbound
  simp only [State.plan_conclude, State.mli_conclude, State.monitor_conclude, State.frameErrors_conclude,
    State.timestamp_conclude, State.pending_conclude, only.plan, only.mli, only.frameErrors, only.timestamp, only.pending,
    setups] at plan params device queue framer reset notify setups' errors timestamp pending
  exact ⟨plan, params, device, queue, framer, reset, notify, setups', errors, timestamp, pending⟩

section
variable {s u : State} {p : Fin 32}

theorem State.sameDevice_event (only : s.Only u) (setups : u.monitor.setups = s.monitor.setups) :
    s.sameDevice (s.event u) :=
  State.sameDevice_finish (only.trans (.verdicts ..)) ((State.Withdraws.verdicts ..).setups.trans setups) _ _

theorem State.withdraws_event (s u : State) : u.Withdraws (s.event u) :=
  (State.Withdraws.verdicts ..).trans (.finish ..)

/-- Ports that an event is not about and that bear no verdict are kept, whatever verdicts it starts. -/
theorem State.port_finish_other (settled : s.sidebandSettled) (none_ : s.noneDue) (only : s.Only u) {q : Fin 32}
    (port : u.port q = s.port q) (low : (s.port q).state.bearing = false) (own : Fin 32 → Bool)
    (limits done : List Notice) : (s.finish (u.verdicts s own) limits done).port q = s.port q := by
  have apart : u.judgeable q = false :=
    (State.judgeable_congr only.plan port).trans (State.not_judgeable_iff.mpr ⟨low, none_ q⟩)
  exact State.port_finish_same (only.trans (.verdicts ..)).plan ((State.port_verdicts_apart apart ..).trans port)
    (settled q) _ _

theorem State.otherPortsKept_event (settled : s.settled) (only : s.Only u) (at_ : State.AtPort p s u) :
    s.otherPortsKept (s.event u) p := fun q other low =>
  State.port_finish_other settled.1 settled.2.2 only (at_.others q other) low _ _ _

/-- The port of an event that leaves it where it can join no pass. -/
theorem State.port_finish_own (apart : u.judgeable p = false) (own : Fin 32 → Bool) (limits done : List Notice) :
    ∃ pending tx, (s.finish (u.verdicts s own) limits done).port p =
      { u.port p with verdict := { (u.port p).verdict with pending := pending }, tx := tx } := by
  rw [State.port_finish, State.port_verdicts_apart apart]
  exact concludePort_eq ..

theorem State.port_event_own (apart : u.judgeable p = false) : ∃ pending tx, (s.event u).port p =
    { u.port p with verdict := { (u.port p).verdict with pending := pending }, tx := tx } :=
  State.port_finish_own apart _ _ _

end

/-! ## Events that start no verdict -/

/-- An event's own effect is at one port, whose CURRENT peer it leaves and whose verdict does not fall due. -/
structure State.Alone (s u : State) (p : Fin 32) : Prop where
  only : s.Only u
  at_ : State.AtPort p s u
  peer : u.currentPeer p = s.currentPeer p
  due : u.verdictDue p = false

namespace State.Alone

variable {s u : State} {p : Fin 32}

theorem modPort {f : Port → Port} (peer : (s.modPort p f).currentPeer p = s.currentPeer p)
    (due : (s.modPort p f).verdictDue p = false) : s.Alone (s.modPort p f) p :=
  ⟨.modPort .., .modPort .., peer, due⟩

theorem currentPeer (h : s.Alone u p) (q : Fin 32) : s.currentPeer q = u.currentPeer q := by
  by_cases at_ : q = p
  · subst at_; exact h.peer.symm
  · rw [State.currentPeer, State.currentPeer, h.at_.others q at_]

theorem noneDue (h : s.Alone u p) (none_ : s.noneDue) : u.noneDue := fun q => by
  by_cases at_ : q = p
  · subst at_; exact h.due
  · rw [State.verdictDue, h.only.plan, h.at_.others q at_]; exact none_ q

theorem verdicts (h : s.Alone u p) (none_ : s.noneDue) : (u.verdicts s fun _ => false) = u :=
  State.verdicts_quiet (h.noneDue none_) h.currentPeer

theorem event (h : s.Alone u p) (none_ : s.noneDue) : s.event u = s.finish u [] [] := by
  rw [State.event, h.verdicts none_]

/-- Every other port is as it was. -/
theorem others (h : s.Alone u p) (settled : s.settled) : ∀ q : Fin 32, q ≠ p → (s.event u).port q = s.port q :=
  fun q other => by
    rw [h.event settled.2.2]
    exact State.port_finish_same h.only.plan (h.at_.others q other) (settled.1 q) _ _

theorem own (h : s.Alone u p) (settled : s.settled) : (s.event u).port p = concludePort s u p (u.port p) := by
  rw [h.event settled.2.2, State.port_finish]

theorem own_fields (h : s.Alone u p) (settled : s.settled) : ∃ pending tx, (s.event u).port p =
    { u.port p with verdict := { (u.port p).verdict with pending := pending }, tx := tx } := by
  rw [h.own settled]
  exact concludePort_eq ..

theorem monitor (h : s.Alone u p) (settled : s.settled) : (s.event u).monitor = u.monitor := by
  rw [h.event settled.2.2, State.monitor_finish]

end State.Alone

/-! ## Failures -/

/-- What a failure reads of its port. -/
structure Port.Stakes (a b : Port) : Prop where
  active : b.state = .active ↔ a.state = .active
  retryCount : b.retryCount = a.retryCount
  attempt : b.attempt = a.attempt
  flags : b.flags = a.flags
  linkLosses : b.counters.linkLosses = a.counters.linkLosses

section
variable {pt : Port}

/-- The lane stages are left (R33). -/
theorem Port.leftStages_leaveStages (pt : Port) : pt.leaveStages.leftStages := by
  refine ⟨fun l => ?_, rfl, rfl, rfl⟩
  simp only [Port.lane, Port.leaveStages, Table.get_mapFin]
  exact ⟨rfl, rfl⟩

theorem Port.linkLosses_countLinkLoss (pt : Port) : pt.countLinkLoss.counters.linkLosses =
    if pt.state = .active then bump pt.counters.linkLosses else pt.counters.linkLosses := by
  unfold Port.countLinkLoss
  split <;> rfl

theorem Port.status_makeStale (pt : Port) : pt.makeStale.neighbor.status ≠ .current := by
  unfold Port.makeStale
  cases status : pt.neighbor.status <;> simp [status]

/-- A recovery changes of a port its state, its retry count and its backoff timer alone. -/
theorem Port.recover_eq (base : BaseFields) (pr : Params) (p : Fin 32) (pt : Port) : ∃ state retry timer,
    pt.recover base pr p = { pt with state := state, retryCount := retry, backoffTimer := timer }
      ∧ (state = .backoff ∨ state = .fault) := by
  unfold Port.recover
  split
  · exact ⟨.fault, _, _, rfl, .inr rfl⟩
  · split
    · exact ⟨.backoff, _, _, rfl, .inl rfl⟩
    · exact ⟨.fault, _, _, rfl, .inr rfl⟩

theorem Port.state_fail (base : BaseFields) (pr : Params) (p : Fin 32) (cause : Cause) (stage : Nat)
    (lane : Option (Fin 4)) (pt : Port) :
    (pt.fail base pr p cause stage lane).state = .backoff ∨ (pt.fail base pr p cause stage lane).state = .fault := by
  obtain ⟨state, retry, timer, same, rests⟩ := Port.recover_eq base pr p
    { (pt.record cause stage lane).countLinkLoss.leaveStages.makeStale with ready := false, stageTimer := .stopped }
  rw [Port.fail, same]
  exact rests

end

end Sys2Proof.Machine

/-! SUPPORT. Failures as the event that makes them leaves them (R44). -/

namespace Sys2Proof.Machine

section
variable {base : BaseFields} {pr : Params} {p : Fin 32} {cause : Cause} {stage : Nat} {lane : Option (Fin 4)}

/-- A port that failed, up to its recovery. -/
theorem Port.fail_eq (pt : Port) : ∃ state retry timer, pt.fail base pr p cause stage lane =
    { (pt.record cause stage lane).countLinkLoss.leaveStages.makeStale with
      ready := false, stageTimer := .stopped, state := state, retryCount := retry, backoffTimer := timer } := by
  obtain ⟨state, retry, timer, same, -⟩ := Port.recover_eq base pr p
    { (pt.record cause stage lane).countLinkLoss.leaveStages.makeStale with ready := false, stageTimer := .stopped }
  exact ⟨state, retry, timer, same⟩

theorem Port.bearing_fail (pt : Port) : (pt.fail base pr p cause stage lane).state.bearing = false := by
  rcases Port.state_fail base pr p cause stage lane pt with state | state <;> rw [state] <;> rfl

theorem State.judgeable_fail (s : State) (p : Fin 32) (cause : Cause) (stage : Nat) (lane : Option (Fin 4)) :
    (s.fail p cause stage lane).judgeable p = false := by
  have at_ : (s.fail p cause stage lane).port p = (s.port p).fail (s.expected p).base s.params p cause stage lane := by
    rw [State.fail, State.port_withdrawPort, State.port_modPort_self]
  rw [State.not_judgeable_iff, at_]
  refine ⟨Port.bearing_fail _, ?_⟩
  rw [← Bool.not_eq_true, State.verdictDue_eq_true, at_]
  rintro ⟨-, taken, waits⟩
  rcases Port.state_fail (s.expected p).base s.params p cause stage lane (s.port p) with state | state <;>
    rw [state] at waits <;> cases waits

/-- What a port that failed holds (R44), its recovery aside. -/
theorem Port.left_fail (pt : Port) :
    (pt.fail base pr p cause stage lane).lastFailure = some ⟨cause, stage, lane, pt.attempt⟩
    ∧ (pt.fail base pr p cause stage lane).leftStages
    ∧ (pt.fail base pr p cause stage lane).neighbor.status ≠ .current
    ∧ (pt.fail base pr p cause stage lane).ready = false
    ∧ (pt.fail base pr p cause stage lane).stageTimer = .stopped
    ∧ (pt.fail base pr p cause stage lane).silence = .stopped
    ∧ (pt.fail base pr p cause stage lane).attempt = pt.attempt
    ∧ (pt.fail base pr p cause stage lane).flags = pt.flags
    ∧ (pt.fail base pr p cause stage lane).counters.linkLosses =
        if pt.state = .active then bump pt.counters.linkLosses else pt.counters.linkLosses := by
  obtain ⟨state, retry, timer, same⟩ := Port.fail_eq (base := base) (pr := pr) (p := p) (cause := cause) (stage := stage)
    (lane := lane) pt
  have counted := Port.linkLosses_countLinkLoss (pt.record cause stage lane)
  have lossKept : ∀ b : Port, b.countLinkLoss.lastFailure = b.lastFailure ∧ b.countLinkLoss.attempt = b.attempt
      ∧ b.countLinkLoss.flags = b.flags := fun b => by unfold Port.countLinkLoss; split <;> exact ⟨rfl, rfl, rfl⟩
  obtain ⟨failure, attempt, flags⟩ := lossKept (pt.record cause stage lane)
  rw [same]
  generalize (pt.record cause stage lane).countLinkLoss = departed at failure attempt flags counted ⊢
  refine ⟨failure, ⟨fun l => ?_, rfl, rfl, rfl⟩, Port.status_makeStale departed.leaveStages, rfl, rfl, rfl, attempt, flags,
    counted⟩
  simp only [Port.lane, Port.leaveStages, Port.makeStale, Table.get_mapFin]
  exact ⟨rfl, rfl⟩

end

/-- A port that failed at stakes as an event found them, concluded and out of the monitor's queue, stands as a failure leaves
it. -/
theorem State.failed_of_port {s t : State} {b : Port} {p : Fin 32} {cause : Cause} {stage : Nat} {lane : Option (Fin 4)}
    (stakes : (s.port p).Stakes b)
    (concluded : ∃ pending tx, t.port p = { b.fail (s.expected p).base s.params p cause stage lane with
      verdict := { (b.fail (s.expected p).base s.params p cause stage lane).verdict with pending := pending }, tx := tx })
    (withdrawn : ∀ r ∈ t.monitor.queue, lanePort r.lane ≠ p) : s.failed t p cause stage lane := by
  obtain ⟨pending, tx, at_⟩ := concluded
  obtain ⟨failure, stages, stale, ready, stageTimer, silence, attempt, flags, losses⟩ :=
    Port.left_fail (base := (s.expected p).base) (pr := s.params) (p := p) (cause := cause) (stage := stage) (lane := lane) b
  have recovered := Port.recovered_fail (s.expected p).base s.params p cause stage lane b
  simp only [Port.recovered, stakes.retryCount] at recovered
  rw [State.failed, at_]
  exact ⟨recovered, failure.trans (by rw [stakes.attempt]), stages, stale, ready, stageTimer, silence,
    attempt.trans stakes.attempt, flags.trans stakes.flags, by simp only [losses, stakes.active, stakes.linkLosses], withdrawn⟩

section
variable {s s' : State} {p : Fin 32} {cause : Cause} {stage : Nat} {lane : Option (Fin 4)}

/-- The effect of an event that ends in a failure. -/
abbrev State.Fails (s s' : State) (p : Fin 32) : Prop := s.Only s' ∧ State.AtPort p s s' ∧ (s.port p).Stakes (s'.port p)
  ∧ s'.monitor.setups = s.monitor.setups

theorem State.Fails.modPort {f : Port → Port} (stakes : (s.port p).Stakes (f (s.port p))) : s.Fails (s.modPort p f) p :=
  ⟨.modPort .., .modPort .., by rw [State.port_modPort_self]; exact stakes, rfl⟩

/-- An event that ends in a failure: the port stands failed, the ports that bear no verdict and the device are as they were. -/
theorem State.failed_finish (settled : s.settled) (fails : s.Fails s' p) (own : Fin 32 → Bool) (limits done : List Notice) :
    s.failed (s.finish ((s'.fail p cause stage lane).verdicts s own) limits done) p cause stage lane
      ∧ s.otherPortsKept (s.finish ((s'.fail p cause stage lane).verdicts s own) limits done) p
      ∧ s.sameDevice (s.finish ((s'.fail p cause stage lane).verdicts s own) limits done) := by
  obtain ⟨only, at_, stakes, setups⟩ := fails
  have failedAt : (s'.fail p cause stage lane).port p
      = (s'.port p).fail (s.expected p).base s.params p cause stage lane := by
    rw [State.fail, State.port_withdrawPort, State.port_modPort_self, State.expected, State.expected, only.plan, only.params]
  have onlyFail : s.Only (s'.fail p cause stage lane) := only.trans (.fail ..)
  refine ⟨State.failed_of_port stakes ?_ ?_, fun q other low => ?_, ?_⟩
  · rw [← failedAt]
    exact State.port_finish_own (State.judgeable_fail ..) _ _ _
  · exact ((State.Withdraws.verdicts ..).trans (.finish ..)).none_of (State.withdrawn _ _)
  · exact State.port_finish_other settled.1 settled.2.2 onlyFail ((at_.trans (.fail ..)).others q other) low _ _ _
  · exact State.sameDevice_finish (onlyFail.trans (.verdicts ..))
      ((State.Withdraws.verdicts ..).setups.trans ((State.Withdraws.fail ..).setups.trans setups)) _ _

theorem State.failed_event (settled : s.settled) (fails : s.Fails s' p) :
    s.failed (s.event (s'.fail p cause stage lane)) p cause stage lane
      ∧ s.otherPortsKept (s.event (s'.fail p cause stage lane)) p ∧ s.sameDevice (s.event (s'.fail p cause stage lane)) :=
  State.failed_finish settled fails _ _ _

/-- What a failure leaves of fields that it does not name. -/
theorem State.port_failed_event (stakes : s.Only s') : ∃ pending tx, (s.event (s'.fail p cause stage lane)).port p =
    { (s'.port p).fail (s.expected p).base s.params p cause stage lane with
      verdict := { ((s'.port p).fail (s.expected p).base s.params p cause stage lane).verdict with pending := pending }
      tx := tx } := by
  have failedAt : (s'.fail p cause stage lane).port p
      = (s'.port p).fail (s.expected p).base s.params p cause stage lane := by
    rw [State.fail, State.port_withdrawPort, State.port_modPort_self, State.expected, State.expected, stakes.plan,
      stakes.params]
  rw [← failedAt]
  exact State.port_event_own (State.judgeable_fail ..)

end

/-- A failure counts nothing but the link loss. -/
theorem Port.stageTimeouts_fail {base : BaseFields} {pr : Params} {p : Fin 32} {cause : Cause} {stage : Nat}
    {lane : Option (Fin 4)} (pt : Port) :
    (pt.fail base pr p cause stage lane).counters.stageTimeouts = pt.counters.stageTimeouts := by
  obtain ⟨state, retry, timer, same⟩ := Port.fail_eq (base := base) (pr := pr) (p := p) (cause := cause) (stage := stage)
    (lane := lane) pt
  have counted : (pt.record cause stage lane).countLinkLoss.counters.stageTimeouts = pt.counters.stageTimeouts := by
    unfold Port.countLinkLoss; split <;> rfl
  rw [same]
  exact counted

/-! ## Events that change nothing, or one port's own fields -/

theorem State.event_self {s : State} (settled : s.settled) : s.event s = s :=
  State.event_quiet rfl (fun _ => rfl) (fun _ => rfl) (fun _ => rfl) (fun _ => rfl) settled.1 settled.2.2 settled.2.1.1

/-- What a port shows to others and to the Verdict Unit. -/
structure Port.Shows (a b : Port) : Prop where
  state : b.state = a.state
  verdict : b.verdict = a.verdict
  ready : b.ready = a.ready
  phase : b.deskew.phase = a.deskew.phase
  kept : b.deskew.keptMask = a.deskew.keptMask
  fences : b.fenceMask = a.fenceMask
  neighbor : b.neighbor.status = a.neighbor.status ∧ b.neighbor.identity = a.neighbor.identity

theorem State.advertised_shows {s : State} {p : Fin 32} {f : Port → Port} (h : (s.port p).Shows (f (s.port p))) (q : Fin 32) :
    (s.modPort p f).advertised q = s.advertised q := by
  by_cases at_ : q = p
  · subst at_
    simp only [State.advertised, State.advertisedPeer, State.port_modPort_self, State.plan_modPort, State.expected_modPort,
      Port.sentKept, Port.keptValid, h.state, h.verdict, h.ready, h.phase, h.kept, h.fences]
    rfl
  · exact State.advertised_congr rfl (State.port_modPort_other (s := s) (f := f) at_)

theorem State.Alone.of_shows {s : State} (none_ : s.noneDue) {p : Fin 32} {f : Port → Port}
    (h : (s.port p).Shows (f (s.port p))) : s.Alone (s.modPort p f) p := by
  refine .modPort ?_ ?_
  · rw [State.currentPeer, State.currentPeer, State.port_modPort_self, h.neighbor.1, h.neighbor.2]
  · rw [State.verdictDue, State.port_modPort_self, h.state]; exact none_ p

/-- An event whose own effect is on one port's own fields leaves exactly that effect, with what its transmitter starts. -/
theorem State.event_private {s : State} (settled : s.settled) {p : Fin 32} {f g : Port → Port}
    (shows_ : (s.port p).Shows (f (s.port p)))
    (started : { f (s.port p) with
      tx := (f (s.port p)).tx.start ((s.modPort p f).frameFields p) s.timestamp s.params.beaconInterval } = g (s.port p)) :
    s.event (s.modPort p f) = s.modPort p g := by
  have alone := State.Alone.of_shows settled.2.2 shows_
  have noNotice : ∀ q, (s.port q).noticeDue ((s.modPort p f).port q) = false := fun q => by
    rw [State.port_modPort]
    split
    · next at_ => subst at_; exact Port.noticeDue_same shows_.state.symm shows_.verdict.symm
    · exact Port.noticeDue_self _
  have notices : eventNotices s (s.modPort p f) [] [] = [] := by
    simp [eventNotices, planNotices, portNotices, noNotice]
  have own : concludePort s (s.modPort p f) p (f (s.port p)) = g (s.port p) := by
    have quiet : promptDue s (s.modPort p f) p = false :=
      promptDue_same (by rw [State.port_modPort_self, shows_.state]) (State.advertised_shows shows_ p)
    have stays : ((s.port p).state.bearing && !(f (s.port p)).state.bearing) = false := by rw [shows_.state]; simp
    simp only [concludePort, stays, quiet, Bool.false_eq_true, if_false]
    exact started
  have ports : (s.modPort p f).ports.mapFin (concludePort s (s.modPort p f)) = (s.modPort p g).ports := by
    refine Table.ext_get fun q => ?_
    rw [Table.get_mapFin]
    by_cases at_ : q = p
    · subst at_
      rw [show (s.modPort q f).ports.get q = f (s.port q) from State.port_modPort_self .., own]
      exact (State.port_modPort_self ..).symm
    · have left : (s.modPort p f).ports.get q = s.port q := State.port_modPort_other (s := s) (f := f) at_
      rw [left, show (s.modPort p g).ports.get q = s.port q from State.port_modPort_other (s := s) (f := g) at_]
      exact concludePort_quiet (by simp)
        (promptDue_same (by rw [State.port_modPort_other (s := s) (f := f) at_]) (State.advertised_shows shows_ q)) (settled.1 q)
  have concluded : s.conclude (s.modPort p f) [] [] = s.modPort p g := by
    unfold State.conclude
    rw [notices, ports]
    rfl
  rw [alone.event settled.2.2, State.finish, concluded]
  exact State.startOutbound_settled settled.2.1.1

/-- The transmitter too is left as it was. -/
theorem State.event_private_settled {s : State} (settled : s.settled) {p : Fin 32} {f : Port → Port}
    (shows_ : (s.port p).Shows (f (s.port p))) (tx : (f (s.port p)).tx.settled = true) :
    s.event (s.modPort p f) = s.modPort p f :=
  State.event_private settled shows_ (by rw [SidebandTx.start_settled tx])

end Sys2Proof.Machine

/-! SUPPORT. Stage, backoff and silence timers (R42, R43, R47, R69). -/

namespace Sys2Proof.Machine

theorem Outcome.exists_next {t : State} {P : State → Prop} (h : P t) :
    ∃ u, (Host.Outcome.next t : Outcome) = .next u ∧ P u := ⟨t, rfl, h⟩

/-! ## The stage timer -/

/-- A stage timer that runs out in SIDEBAND, ALIGN or VERIFY is a failure with that stage's code (R42). -/
theorem State.stageExpired_of_stage {s : State} {p : Fin 32} {stage : Nat}
    (at_ : (s.port p).state = .sideband ∧ stage = 1 ∨ (s.port p).state = .align ∧ stage = 3
      ∨ (s.port p).state.name = .verify ∧ stage = 4) :
    s.stageExpired p = (s.modPort p Port.countStageTimeout).fail p .stageTimeout stage none := by
  unfold State.stageExpired
  rcases at_ with ⟨state, rfl⟩ | ⟨state, rfl⟩ | ⟨state, rfl⟩
  · rw [state]
  · rw [state]
  · cases verify : (s.port p).state <;> rw [verify] at state <;> cases state

theorem State.stageExpired_elsewhere {s : State} {p : Fin 32} (sideband : (s.port p).state.name ≠ .sideband)
    (align : (s.port p).state.name ≠ .align) (verify : (s.port p).state.name ≠ .verify) : s.stageExpired p = s := by
  unfold State.stageExpired
  cases state : (s.port p).state with
  | sideband => exact absurd (by rw [state]; rfl) sideband
  | align => exact absurd (by rw [state]; rfl) align
  | verify sub => exact absurd (by rw [state]; rfl) verify
  | disabled | waitCable | laneLock | held stage next | active | backoff | fault => rfl

theorem State.exec_stageTimerExpiry_stopped {s : State} {p : Fin 32} (stopped : (s.port p).stageTimer.isRunning = false) :
    exec (.stageTimerExpiry p) s = .next s := by
  show execStageTimerExpiry p s = _
  rw [execStageTimerExpiry, stopped, if_neg Bool.false_ne_true]

theorem State.exec_stageTimerExpiry {s : State} {p : Fin 32} (running : (s.port p).stageTimer.isRunning = true) :
    exec (.stageTimerExpiry p) s = .next (s.event (s.stageExpired p)) := if_pos running

/-- A stage that times out. -/
theorem State.failed_stageExpired {s : State} (settled : s.settled) {p : Fin 32} {stage : Nat}
    (at_ : (s.port p).state = .sideband ∧ stage = 1 ∨ (s.port p).state = .align ∧ stage = 3
      ∨ (s.port p).state.name = .verify ∧ stage = 4) :
    s.failed (s.event (s.stageExpired p)) p .stageTimeout stage none
      ∧ ((s.event (s.stageExpired p)).port p).counters.stageTimeouts = bump (s.port p).counters.stageTimeouts
      ∧ s.otherPortsKept (s.event (s.stageExpired p)) p ∧ s.sameDevice (s.event (s.stageExpired p)) := by
  rw [State.stageExpired_of_stage at_]
  have fails : s.Fails (s.modPort p Port.countStageTimeout) p := .modPort ⟨Iff.rfl, rfl, rfl, rfl, rfl⟩
  obtain ⟨failed, kept, device⟩ :=
    State.failed_event (cause := .stageTimeout) (stage := stage) (lane := none) settled fails
  obtain ⟨pending, tx, own⟩ :=
    State.port_failed_event (p := p) (cause := .stageTimeout) (stage := stage) (lane := none) fails.1
  refine ⟨failed, ?_, kept, device⟩
  rw [own, State.port_modPort_self]
  exact Port.stageTimeouts_fail _

/-! ## The backoff timer -/

theorem State.exec_backoffTimerExpiry_idle {s : State} {p : Fin 32}
    (idle : (s.port p).backoffTimer.isRunning = false ∨ (s.port p).state ≠ .backoff) :
    exec (.backoffTimerExpiry p) s = .next s := by
  refine if_neg ?_
  rintro ⟨running, backoff⟩
  exact idle.elim (fun stopped => by rw [running] at stopped; cases stopped) fun other => other backoff

/-- The end of a backoff wait starts the next attempt (R47). -/
theorem State.alone_backoff {s : State} {p : Fin 32} :
    s.Alone (s.modPort p fun pt => Port.enterSideband s.params { pt with backoffTimer := .stopped }) p := by
  refine .modPort ?_ ?_
  · rw [State.currentPeer, State.currentPeer, State.port_modPort_self]; rfl
  · rw [State.verdictDue, State.port_modPort_self]; exact Bool.and_false _

/-! ## The silence timer -/

theorem State.exec_silenceTimerExpiry_stopped {s : State} {p : Fin 32} (stopped : (s.port p).silence.isRunning = false) :
    exec (.silenceTimerExpiry p) s = .next s := by
  show execSilenceTimerExpiry p s = _
  rw [execSilenceTimerExpiry, stopped, if_neg Bool.false_ne_true]

theorem State.exec_silenceTimerExpiry {s : State} {p : Fin 32} (running : (s.port p).silence.isRunning = true) :
    exec (.silenceTimerExpiry p) s = .next (s.event (if (s.port p).state.engaged then
      (s.modPort p fun pt => { pt with silence := .stopped }).fail p .peerLost (s.port p).state.stageCode none
    else s.modPort p fun pt => { pt with silence := .stopped })) := if_pos running

/-- Settles O36: a stage timer's expiry and the silence of an engaged port are failures (`State.failed_event`); a backoff timer's
starts an attempt that no other port sees (`State.Alone`); the other expiries touch their own port alone. -/
theorem portTimersEndStagesAndWaits : Obligations.PortTimersEndStagesAndWaits := by
  refine ⟨fun s p settled => ⟨State.exec_stageTimerExpiry_stopped, ?elsewhere, ?stage⟩,
    fun s p settled => ⟨State.exec_backoffTimerExpiry_idle, ?backoff⟩,
    fun s p settled => ⟨State.exec_silenceTimerExpiry_stopped, ?quiet, ?lost⟩⟩
  case elsewhere =>
    intro sideband align verify
    by_cases running : (s.port p).stageTimer.isRunning = true
    · rw [State.exec_stageTimerExpiry running, State.stageExpired_elsewhere sideband align verify,
        State.event_self settled]
    · exact State.exec_stageTimerExpiry_stopped (Bool.not_eq_true _ ▸ running)
  case stage =>
    intro stage running at_
    rw [State.exec_stageTimerExpiry running]
    exact Outcome.exists_next (State.failed_stageExpired settled at_)
  case backoff =>
    intro running backoff
    have taken : exec (.backoffTimerExpiry p) s = .next (s.event (s.modPort p fun pt =>
        Port.enterSideband s.params { pt with backoffTimer := .stopped })) := if_pos ⟨running, backoff⟩
    obtain ⟨pending, tx, own⟩ := (State.alone_backoff (s := s) (p := p)).own_fields settled
    rw [State.port_modPort_self] at own
    rw [taken]
    refine Outcome.exists_next ?_
    rw [own]
    exact ⟨rfl, rfl, rfl, rfl, rfl, rfl, rfl, rfl, rfl, rfl, rfl, State.alone_backoff.others settled,
      State.sameDevice_event (.modPort ..) rfl, State.alone_backoff.monitor settled⟩
  case quiet =>
    intro running other
    rw [State.exec_silenceTimerExpiry running, other, if_neg Bool.false_ne_true]
    exact congrArg Host.Outcome.next
      (State.event_private_settled settled ⟨rfl, rfl, rfl, rfl, rfl, rfl, rfl, rfl⟩ (settled.1 p))
  case lost =>
    intro running engaged
    rw [State.exec_silenceTimerExpiry running, if_pos engaged]
    exact Outcome.exists_next (State.failed_event settled (.modPort ⟨Iff.rfl, rfl, rfl, rfl, rfl⟩))

end Sys2Proof.Machine

/-! SUPPORT. Presence: the debounce timer, the settled cable and its removal (R26 to R28). -/

namespace Sys2Proof.Machine

theorem State.modPort_congr {s : State} {p : Fin 32} {f g : Port → Port} (same : f (s.port p) = g (s.port p)) :
    s.modPort p f = s.modPort p g := congrArg (s.setPort p) same

/-! ## A port that sends nothing -/

/-- A port outside the sending states, with nothing waiting, concludes an event with its transmitter as it is. -/
theorem concludePort_of_silent {before after : State} {p : Fin 32} {pt : Port} (silent : (after.port p).state.sending = false)
    (tx : pt.tx.settled = true) :
    ∃ pending, concludePort before after p pt = { pt with verdict := { pt.verdict with pending := pending } } := by
  have quiet : promptDue before after p = false := by simp [promptDue, silent]
  cases left : (before.port p).state.bearing && !pt.state.bearing with
  | true =>
    simp only [concludePort, left, quiet, if_true, Bool.false_eq_true, if_false, SidebandTx.start_settled tx]
    exact ⟨false, rfl⟩
  | false =>
    simp only [concludePort, left, quiet, Bool.false_eq_true, if_false, SidebandTx.start_settled tx]
    exact ⟨pt.verdict.pending, rfl⟩

theorem State.port_event_silent {s u : State} {p : Fin 32} (apart : u.judgeable p = false)
    (silent : (u.port p).state.sending = false) (tx : (u.port p).tx.settled = true) : ∃ pending,
    (s.event u).port p = { u.port p with verdict := { (u.port p).verdict with pending := pending } } := by
  have same : (u.verdicts s fun _ => false).port p = u.port p := State.port_verdicts_apart apart ..
  rw [State.event, State.port_finish, same]
  exact concludePort_of_silent (by rw [same]; exact silent) tx

theorem State.judgeable_of_state {s : State} {p : Fin 32} {state : PortState} (at_ : (s.port p).state = state)
    (low : state.bearing = false) (other : state.name ≠ .verify) : s.judgeable p = false := by
  refine State.not_judgeable_iff.mpr ⟨by rw [at_, low], ?_⟩
  rw [← Bool.not_eq_true, State.verdictDue_eq_true]
  rintro ⟨-, taken, waits⟩
  exact other (by rw [← at_, waits]; rfl)

/-! ## The debounce timer -/

theorem Port.settles_iff {present : Bool} {pt : Port} :
    pt.settles present = true ↔ pt.debounce.isRunning = true ∧ pt.rawPresent = present ∧ pt.present ≠ present := by
  simp [Port.settles, and_assoc]

theorem Port.rawChange_eq (pr : Params) (low : Bool) (pt : Port) : pt.rawChange pr low =
    { pt with
      rawPresent := low
      debounce := if low = pt.present then .stopped
        else match pt.debounce with
          | .running left => .running left
          | .stopped => .running (pr.presenceDebounce * 1250000)
          | .paused _ => .running (pr.presenceDebounce * 1250000) } := by
  cases timer : pt.debounce <;> simp [Port.rawChange, timer, Timer.isRunning, armMs, Config.tuPerMs]

section
variable {s : State} {p : Fin 32}

theorem State.exec_presentNChange (settled : s.settled) (low : Bool) :
    exec (.presentNChange p low) s = .next (s.modPort p (Port.rawChange s.params low)) :=
  congrArg Host.Outcome.next
    (State.event_private_settled settled ⟨rfl, rfl, rfl, rfl, rfl, rfl, rfl, rfl⟩ (settled.1 p))

theorem State.exec_settled_not (present : Bool) (not : (s.port p).settles present = false) :
    exec (if present then .presenceSettledAsserted p else .presenceSettledDeasserted p) s = .next s := by
  cases present with
  | true => exact if_neg (by rw [not]; exact Bool.false_ne_true)
  | false => exact if_neg (by rw [not]; exact Bool.false_ne_true)

/-- What the presence pin and its timer say against a settling. -/
theorem Port.not_settles {present : Bool} {pt : Port}
    (not : pt.debounce.isRunning = false ∨ pt.rawPresent = !present ∨ pt.present = present) :
    pt.settles present = false := by
  rw [← Bool.not_eq_true, Port.settles_iff]
  rintro ⟨running, raw, other⟩
  rcases not with stopped | against | same
  · rw [running] at stopped; cases stopped
  · rw [raw] at against; cases present <;> cases against
  · exact other same

/-! ## A cable settles -/

theorem State.exec_asserted (settles : (s.port p).settles true = true) : exec (.presenceSettledAsserted p) s =
    .next (s.event (s.modPort p fun pt =>
      if (pt.settlePresence true).state = .waitCable then (pt.settlePresence true).seat s.params
      else pt.settlePresence true)) := if_pos settles

theorem State.exec_asserted_elsewhere (settled : s.settled) (settles : (s.port p).settles true = true)
    (other : (s.port p).state ≠ .waitCable) : exec (.presenceSettledAsserted p) s =
      .next (s.modPort p fun pt => { pt with debounce := .stopped, present := true }) := by
  rw [State.exec_asserted settles, State.modPort_congr (g := Port.settlePresence true) (if_neg other)]
  exact congrArg Host.Outcome.next
    (State.event_private_settled settled ⟨rfl, rfl, rfl, rfl, rfl, rfl, rfl, rfl⟩ (settled.1 p))

theorem State.alone_seat : s.Alone (s.modPort p fun pt => (pt.settlePresence true).seat s.params) p := by
  refine .modPort ?_ ?_
  · rw [State.currentPeer, State.currentPeer, State.port_modPort_self]; rfl
  · rw [State.verdictDue, State.port_modPort_self]; exact Bool.and_false _

theorem State.exec_asserted_waitCable (settles : (s.port p).settles true = true) (waits : (s.port p).state = .waitCable) :
    exec (.presenceSettledAsserted p) s =
      .next (s.event (s.modPort p fun pt => (pt.settlePresence true).seat s.params)) := by
  have seats : (if ((s.port p).settlePresence true).state = .waitCable then ((s.port p).settlePresence true).seat s.params
      else (s.port p).settlePresence true) = ((s.port p).settlePresence true).seat s.params := if_pos waits
  rw [State.exec_asserted settles]
  exact congrArg (fun u => Host.Outcome.next (s.event u)) (State.modPort_congr seats)

/-! ## A cable is removed -/

theorem State.exec_deasserted (settles : (s.port p).settles false = true) : exec (.presenceSettledDeasserted p) s =
    .next (s.event (if (s.port p).state.sending then (s.modPort p (Port.settlePresence false)).remove p
      else s.modPort p (Port.settlePresence false))) := if_pos settles

theorem Port.removed (pt : Port) :
    pt.remove.lastFailure = some ⟨.cableRemoved, pt.state.stageCode, none, pt.attempt⟩ ∧ pt.remove.leftStages
      ∧ pt.remove.neighbor.status ≠ .current ∧ pt.remove.silence = .stopped
      ∧ pt.remove.present = pt.present ∧ pt.remove.debounce = pt.debounce
      ∧ pt.remove.counters.linkLosses =
        if pt.state = .active then bump pt.counters.linkLosses else pt.counters.linkLosses := by
  have counted := Port.linkLosses_countLinkLoss (pt.record .cableRemoved pt.state.stageCode none)
  have kept : ∀ b : Port, b.countLinkLoss.lastFailure = b.lastFailure ∧ b.countLinkLoss.present = b.present
      ∧ b.countLinkLoss.debounce = b.debounce := fun b => by unfold Port.countLinkLoss; split <;> exact ⟨rfl, rfl, rfl⟩
  obtain ⟨failure, present, debounce⟩ := kept (pt.record .cableRemoved pt.state.stageCode none)
  unfold Port.remove
  generalize (pt.record .cableRemoved pt.state.stageCode none).countLinkLoss = departed at failure present debounce counted ⊢
  refine ⟨failure, ⟨fun l => ?_, rfl, rfl, rfl⟩, Port.status_makeStale departed.leaveStages.stopSending, rfl, present,
    debounce, counted⟩
  simp only [Port.lane, Port.leaveStages, Port.stopSending, Port.makeStale, Table.get_mapFin]
  exact ⟨rfl, rfl⟩

theorem Port.settled_remove (pt : Port) : pt.remove.tx.settled = true := by
  simp [Port.remove, Port.makeStale, Port.stopSending, SidebandTx.settled]

end

/-- Settles O35: the pin and its timer touch the port alone; a settled cable starts an attempt, which no other port sees, and a
removal leaves the lane stages and sends nothing more. -/
theorem presenceIsFilteredAndMovesThePort : Obligations.PresenceIsFilteredAndMovesThePort := by
  refine ⟨fun s p low settled => ?change, fun s p settled =>
    ⟨fun not => State.exec_settled_not true (Port.not_settles not),
      fun not => State.exec_settled_not false (Port.not_settles not), fun running raw absent => ?present,
      fun running raw present => ?absent⟩⟩
  case change =>
    rw [State.exec_presentNChange settled]
    exact congrArg Host.Outcome.next (State.modPort_congr (Port.rawChange_eq s.params low (s.port p)))
  case present =>
    have settles : (s.port p).settles true = true :=
      Port.settles_iff.mpr ⟨running, raw, by rw [absent]; exact Bool.false_ne_true⟩
    refine ⟨State.exec_asserted_elsewhere settled settles, fun waits => ?_⟩
    have alone := State.alone_seat (s := s) (p := p)
    obtain ⟨pending, tx, own⟩ := alone.own_fields settled
    rw [State.port_modPort_self] at own
    rw [State.exec_asserted_waitCable settles waits]
    refine Outcome.exists_next ?_
    rw [own]
    exact ⟨rfl, rfl, rfl, rfl, rfl, rfl, rfl, rfl, rfl, rfl, rfl, alone.others settled,
      State.sameDevice_event alone.only rfl, alone.monitor settled⟩
  case absent =>
    have settles : (s.port p).settles false = true :=
      Port.settles_iff.mpr ⟨running, raw, by rw [present]; exact Bool.noConfusion⟩
    refine ⟨fun silent => ?_, fun sends => ?_⟩
    · rw [State.exec_deasserted settles, silent, if_neg Bool.false_ne_true]
      exact congrArg Host.Outcome.next
        (State.event_private_settled settled ⟨rfl, rfl, rfl, rfl, rfl, rfl, rfl, rfl⟩ (settled.1 p))
    · rw [State.exec_deasserted settles, if_pos sends]
      refine Outcome.exists_next ?_
      have removed : ((s.modPort p (Port.settlePresence false)).remove p).port p
          = ((s.port p).settlePresence false).remove := by
        rw [State.remove, State.port_withdrawPort, State.port_modPort_self, State.port_modPort_self]
      have at_ : (((s.modPort p (Port.settlePresence false)).remove p).port p).state = .waitCable := by rw [removed]; rfl
      obtain ⟨pending, own⟩ := State.port_event_silent (s := s)
        (State.judgeable_of_state at_ rfl (by decide)) (by rw [at_]; rfl) (by rw [removed]; exact Port.settled_remove _)
      have only : s.Only ((s.modPort p (Port.settlePresence false)).remove p) := (State.Only.modPort ..).trans (.remove ..)
      obtain ⟨failure, stages, stale, silence, stays, timer, losses⟩ := Port.removed ((s.port p).settlePresence false)
      rw [own, removed]
      exact ⟨rfl, stays, timer, failure, rfl, rfl, stages, stale, rfl, rfl, silence, rfl, rfl, rfl, rfl, losses,
        (State.withdraws_event ..).none_of (State.withdrawn _ _),
        State.otherPortsKept_event settled only ((State.AtPort.modPort ..).trans (.remove ..)),
        State.sameDevice_event only ((State.Withdraws.withdrawPort ..).setups)⟩

end Sys2Proof.Machine

/-! SUPPORT. The sideband line at a port: what a free transmitter starts, and when the receiver collects (R60 to R66). -/

namespace Sys2Proof.Machine

/-! ## What a free transmitter starts (R62, R63) -/

section
variable {tx : SidebandTx} {fields : SidebandFrame} {now : BitVec 32} {interval : Nat}

theorem SidebandTx.start_echo {e : EchoSlot} {rest : List EchoSlot} (free : tx.sending = none) (echo : tx.echoes = e :: rest) :
    tx.start fields now interval = { tx with echoes := rest, sending := some ⟨.echo, echoFrame fields now e, none⟩ } := by
  obtain ⟨timer, beacon, probe, echoes, sending⟩ := tx
  simp only at free echo
  subst free echo
  rfl

theorem SidebandTx.start_probe {k : Fin 8} (free : tx.sending = none) (noEcho : tx.echoes = [])
    (probe : tx.probeWaiting = some k) :
    tx.start fields now interval = { tx with probeWaiting := none, sending := some ⟨.probe, probeFrame fields now, some k⟩ } := by
  obtain ⟨timer, beacon, waiting, echoes, sending⟩ := tx
  simp only at free noEcho probe
  subst free noEcho probe
  rfl

theorem SidebandTx.start_beacon (free : tx.sending = none) (noEcho : tx.echoes = []) (noProbe : tx.probeWaiting = none) :
    tx.start fields now interval =
      if tx.beaconWaiting then
        { tx with beaconWaiting := false, beaconTimer := armMs interval, sending := some ⟨.beacon, fields, none⟩ }
      else tx := by
  obtain ⟨timer, beacon, waiting, echoes, sending⟩ := tx
  simp only at free noEcho noProbe
  subst free noEcho noProbe
  cases beacon <;> rfl

/-- A settled transmitter that is free holds nothing. -/
theorem SidebandTx.empty_of_free (settled : tx.settled = true) (free : tx.sending = none) :
    tx.echoes = [] ∧ tx.probeWaiting = none ∧ tx.beaconWaiting = false := by
  simpa [SidebandTx.settled, free, and_assoc] using settled

/-- A beacon that falls due on a free line starts. -/
theorem SidebandTx.start_due (settled : tx.settled = true) (free : tx.sending = none) :
    ({ tx with beaconTimer := .stopped, beaconWaiting := true } : SidebandTx).start fields now interval =
      { tx with beaconTimer := armMs interval, sending := some ⟨.beacon, fields, none⟩ } := by
  obtain ⟨noEcho, noProbe, idle⟩ := SidebandTx.empty_of_free settled free
  obtain ⟨timer, beacon, waiting, echoes, sending⟩ := tx
  simp only at free noEcho noProbe idle
  subst free noEcho noProbe idle
  rfl

/-- A transmitter that sends starts nothing. -/
theorem SidebandTx.settled_of_sending (sends : tx.sending ≠ none) : tx.settled = true := by
  rw [SidebandTx.settled, Option.isSome_iff_ne_none.mpr sends, Bool.true_or]

end

/-- The fields of a frame are those of the port as it stands, which a change of its own fields leaves. -/
theorem State.frameFields_shows {s : State} {p : Fin 32} {f : Port → Port} (h : (s.port p).Shows (f (s.port p)))
    (trim : (f (s.port p)).trim = (s.port p).trim) : (s.modPort p f).frameFields p = s.frameFields p := by
  simp only [State.frameFields, State.advertisedPeer, State.port_modPort_self, State.plan_modPort, State.expected_modPort,
    State.params_modPort, Port.sentKept, Port.keptValid, h.state, h.verdict, h.ready, h.phase, h.kept, h.fences, trim]
  rfl

theorem State.modPort_id {s : State} {p : Fin 32} {f : Port → Port} (same : f (s.port p) = s.port p) : s.modPort p f = s := by
  have cells : s.ports.set p (s.port p) = s.ports := Table.set_get ..
  rw [State.modPort, same, State.setPort, cells]

/-! ## The beacon timer and the end of a frame -/

section
variable {s : State} {p : Fin 32}

theorem State.exec_beaconTimerExpiry_stopped (stopped : (s.port p).tx.beaconTimer.isRunning = false) :
    exec (.beaconTimerExpiry p) s = .next s := by
  show execBeaconTimerExpiry p s = _
  rw [execBeaconTimerExpiry, stopped, if_neg Bool.false_ne_true]

theorem State.exec_beaconTimerExpiry (running : (s.port p).tx.beaconTimer.isRunning = true) :
    exec (.beaconTimerExpiry p) s = .next (s.event (s.modPort p fun pt =>
      { pt with tx := { pt.tx with beaconTimer := .stopped, beaconWaiting := true } })) := if_pos running

theorem Port.endFrame_of_free {pt : Port} (now : BitVec 32) (free : pt.tx.sending = none) : pt.endFrame now = pt := by
  rw [Port.endFrame, free]

/-- The burst after the end of a frame: a PROBE's T1 is handed over (R64). -/
def endedBurst (now : BitVec 32) (f : SendingFrame) (b : Burst) : Burst :=
  match f.probe with
  | some k => b.handOver k f.frame.probeStamp now
  | none => b

theorem Port.endFrame_of_sending {pt : Port} {f : SendingFrame} (now : BitVec 32) (sends : pt.tx.sending = some f) :
    pt.endFrame now = { pt with tx := { pt.tx with sending := none }, burst := endedBurst now f pt.burst } := by
  cases probe : f.probe <;> simp only [Port.endFrame, endedBurst, sends, probe]

/-- The next frame starts at the end of the one before it. -/
theorem State.exec_sidebandFrameEnd (settled : s.settled) {f : SendingFrame} (sends : (s.port p).tx.sending = some f)
    {tx : SidebandTx} (starts : ({ (s.port p).tx with sending := none } : SidebandTx).start (s.frameFields p) s.timestamp
      s.params.beaconInterval = tx) :
    exec (.sidebandFrameEnd p) s =
      .next (s.modPort p fun pt => { pt with burst := endedBurst s.timestamp f pt.burst, tx := tx }) := by
  have ended := Port.endFrame_of_sending s.timestamp sends
  have shows_ : (s.port p).Shows ((s.port p).endFrame s.timestamp) := by
    rw [ended]; exact ⟨rfl, rfl, rfl, rfl, rfl, rfl, rfl, rfl⟩
  refine congrArg Host.Outcome.next (State.event_private settled shows_ ?_)
  rw [State.frameFields_shows shows_ (by rw [ended]), ended]
  dsimp only
  rw [starts]

end

/-- Settles O37: the events touch the port alone, and `SidebandTx.start` serves the oldest ECHO, then the PROBE, then the
beacon. -/
theorem transmitterServesEchoesThenProbesThenBeacons : Obligations.TransmitterServesEchoesThenProbesThenBeacons := by
  intro s p settled ended
  have endedIs : ∀ f b, endedBurst s.timestamp f b = ended f b := fun f b => by
    cases probe : f.probe with
    | none => simp only [endedBurst, ended, probe]
    | some k => simp only [endedBurst, ended, probe, Burst.handOver, Bool.and_eq_true, decide_eq_true_eq]; rfl
  simp only [← endedIs]
  refine ⟨State.exec_beaconTimerExpiry_stopped, ?waits, ?starts, ?free, ?echo, ?probe, ?beacon⟩
  case waits =>
    intro running sends
    rw [State.exec_beaconTimerExpiry running]
    exact congrArg Host.Outcome.next (State.event_private_settled settled ⟨rfl, rfl, rfl, rfl, rfl, rfl, rfl, rfl⟩
      (SidebandTx.settled_of_sending sends))
  case starts =>
    intro running free
    rw [State.exec_beaconTimerExpiry running]
    have shows_ : (s.port p).Shows
        { s.port p with tx := { (s.port p).tx with beaconTimer := .stopped, beaconWaiting := true } } :=
      ⟨rfl, rfl, rfl, rfl, rfl, rfl, rfl, rfl⟩
    refine congrArg Host.Outcome.next (State.event_private settled shows_ ?_)
    rw [State.frameFields_shows shows_ rfl]
    dsimp only
    rw [SidebandTx.start_due (settled.1 p) free]
  case free =>
    intro free
    have same : s.event (s.modPort p (Port.endFrame s.timestamp)) = s := by
      rw [State.modPort_id (Port.endFrame_of_free s.timestamp free), State.event_self settled]
    exact congrArg Host.Outcome.next same
  case echo =>
    intro f e rest sends echo
    rw [State.exec_sidebandFrameEnd settled sends (SidebandTx.start_echo rfl echo)]
    exact congrArg Host.Outcome.next (State.modPort_congr rfl)
  case probe =>
    intro f k sends noEcho probe
    rw [State.exec_sidebandFrameEnd settled sends (SidebandTx.start_probe rfl noEcho probe)]
    exact congrArg Host.Outcome.next (State.modPort_congr rfl)
  case beacon =>
    intro f sends noEcho noProbe
    rw [State.exec_sidebandFrameEnd settled sends (SidebandTx.start_beacon rfl noEcho noProbe)]
    exact congrArg Host.Outcome.next (State.modPort_congr rfl)

/-! ## The receiver (R60, R66) -/

section
variable {s : State} {p : Fin 32}

theorem State.Alone.refl (none_ : s.noneDue) : s.Alone s p := ⟨.refl s, .refl p s, rfl, none_ p⟩

theorem State.finish_self (settled : s.settled) : s.finish s [] [] = s := by
  rw [← (State.Alone.refl (p := 0) settled.2.2).event settled.2.2, State.event_self settled]

/-- A rejected frame ends the collection and is counted, and has no other effect. -/
theorem State.event_reject (settled : s.settled) : s.event (s.modPort p Port.reject) = s.modPort p Port.reject :=
  State.event_private_settled settled ⟨rfl, rfl, rfl, rfl, rfl, rfl, rfl, rfl⟩ (settled.1 p)

theorem State.finish_reject (settled : s.settled) :
    s.finish (s.modPort p Port.reject) [] [] = s.modPort p Port.reject := by
  have alone := State.Alone.of_shows (p := p) (f := Port.reject) settled.2.2 ⟨rfl, rfl, rfl, rfl, rfl, rfl, rfl, rfl⟩
  rw [← alone.event settled.2.2, State.event_reject settled]

/-- A frame that no receiver takes, or whose fields fail a check, whatever its kind would add. -/
theorem State.finish_receive_hunting (settled : s.settled) (off : (s.port p).state.sending = false ∨ (s.port p).rx = none)
    (f : SidebandFrame) (more : BitVec 32 → State → State) : s.finish (s.receive p f more) [] [] = s := by
  rw [State.receive_of_hunting f more off, State.finish_self settled]

theorem State.finish_receive_invalid (settled : s.settled) (sends : (s.port p).state.sending = true)
    (collects : (s.port p).rx ≠ none) {f : SidebandFrame} (invalid : f.senderChassis = 0 ∨ 31 < f.senderPort.toNat)
    (more : BitVec 32 → State → State) : s.finish (s.receive p f more) [] [] = s.modPort p Port.reject := by
  obtain ⟨stamp, collecting⟩ := Option.ne_none_iff_exists'.mp collects
  have none_ : senderOf f = none := senderOf_eq_none fun ⟨nonzero, port⟩ =>
    invalid.elim nonzero fun high => absurd port (Nat.not_le_of_lt high)
  rw [State.receive_of_invalid more sends collecting none_, State.finish_reject settled]

theorem State.exec_syncSequenceFound (settled : s.settled) :
    exec (.syncSequenceFound p) s = .next (s.modPort p (Port.findSync s.timestamp)) := by
  refine congrArg Host.Outcome.next ?_
  rcases (s.port p).findSync_cases s.timestamp with ⟨-, -, found⟩ | ⟨-, found⟩
  · refine State.event_private_settled settled ?_ ?_ <;> rw [found]
    · exact ⟨rfl, rfl, rfl, rfl, rfl, rfl, rfl, rfl⟩
    · exact settled.1 p
  · rw [State.modPort_id found, State.event_self settled]

theorem State.exec_sidebandFrameRejected (settled : s.settled) (sends : (s.port p).state.sending = true)
    (collects : (s.port p).rx ≠ none) : exec (.sidebandFrameRejected p) s = .next (s.modPort p Port.reject) := by
  obtain ⟨stamp, collecting⟩ := Option.ne_none_iff_exists'.mp collects
  have taken : s.modPort p (fun pt => if pt.collectingFrame.isSome then pt.reject else pt) = s.modPort p Port.reject :=
    State.modPort_congr (by rw [Port.collectingFrame_eq_some.mpr ⟨sends, collecting⟩, Option.isSome_some, if_pos rfl])
  exact congrArg Host.Outcome.next ((congrArg s.event taken).trans (State.event_reject settled))

theorem State.exec_sidebandFrameRejected_off (settled : s.settled)
    (off : (s.port p).state.sending = false ∨ (s.port p).rx = none) : exec (.sidebandFrameRejected p) s = .next s := by
  have same : s.modPort p (fun pt => if pt.collectingFrame.isSome then pt.reject else pt) = s :=
    State.modPort_id (by
      rw [Port.collectingFrame_eq_none.mpr off, Option.isSome_none, if_neg Bool.false_ne_true])
  exact congrArg Host.Outcome.next ((congrArg s.event same).trans (State.event_self settled))

end

/-- Settles O38: a collection starts at the sync sequence alone (`Port.findSync_cases`), and what is rejected while one runs is
seen at the port alone. -/
theorem receiverIsOnWhereFramesAreSent : Obligations.ReceiverIsOnWhereFramesAreSent := by
  intro s p settled
  refine ⟨?found, ?undisturbed, ?rejected, ?off⟩
  case found =>
    intro sends hunts
    rw [State.exec_syncSequenceFound settled]
    exact congrArg Host.Outcome.next (State.modPort_congr (by simp [Port.findSync, sends, hunts]))
  case undisturbed =>
    intro not
    have same : (s.port p).findSync s.timestamp = s.port p := by
      rcases (s.port p).findSync_cases s.timestamp with ⟨sends, hunts, -⟩ | ⟨-, same⟩
      · exact not.elim (fun silent => by rw [sends] at silent; cases silent) fun collects => absurd hunts collects
      · exact same
    rw [State.exec_syncSequenceFound settled, State.modPort_id same]
  case rejected =>
    intro sends collects rejected
    exact ⟨State.exec_sidebandFrameRejected settled sends collects, fun f lag invalid =>
      ⟨congrArg Host.Outcome.next (State.finish_receive_invalid settled sends collects invalid _),
        congrArg Host.Outcome.next (State.finish_receive_invalid settled sends collects invalid _),
        congrArg Host.Outcome.next (State.finish_receive_invalid settled sends collects invalid _)⟩⟩
  case off =>
    intro off
    exact ⟨State.exec_sidebandFrameRejected_off settled off, fun f lag =>
      ⟨congrArg Host.Outcome.next (State.finish_receive_hunting settled off f _),
        congrArg Host.Outcome.next (State.finish_receive_hunting settled off f _),
        congrArg Host.Outcome.next (State.finish_receive_hunting settled off f _)⟩⟩

end Sys2Proof.Machine

/-! SUPPORT. The probe burst and its outcome (R143 to R148). -/

namespace Sys2Proof.Machine

/-! ## Probes -/

/-- A probe that is neither UNREQUESTED, WAITING nor OUTSTANDING. -/
def Burst.done (b : Burst) (k : Fin 8) : Prop :=
  (b.probes.get k).status = .answered ∨ (b.probes.get k).status = .timedOut

theorem Burst.complete_iff {b : Burst} : b.complete = true ↔ b.running = true ∧ ∀ k, b.done k := by
  have closed : ∀ k, (match (b.probes.get k).status with
      | .answered | .timedOut => true
      | .unrequested | .waiting | .outstanding => false) = true ↔ b.done k := fun k => by
    unfold Burst.done
    cases (b.probes.get k).status <;> simp
  rw [Burst.complete, Bool.and_eq_true, List.all_eq_true]
  exact and_congr_right fun _ =>
    ⟨fun all k => (closed k).mp (all k (List.mem_finRange k)), fun all k _ => (closed k).mpr (all k)⟩

theorem Burst.get_modProbe_self {b : Burst} {k : Fin 8} {f : Probe → Probe} :
    (b.modProbe k f).probes.get k = f (b.probes.get k) := Table.get_modify_self ..

theorem Burst.get_modProbe_other {b : Burst} {j k : Fin 8} {f : Probe → Probe} (other : j ≠ k) :
    (b.modProbe k f).probes.get j = b.probes.get j := Table.get_modify_other _ _ other

/-- A change of one probe that leaves it done completes the burst when every other probe is done. -/
theorem Burst.complete_modProbe_iff {b : Burst} {k : Fin 8} {f : Probe → Probe}
    (ends : (f (b.probes.get k)).status = .answered ∨ (f (b.probes.get k)).status = .timedOut) :
    (b.modProbe k f).complete = true ↔ b.running = true ∧ ∀ j, j ≠ k → b.done j := by
  rw [Burst.complete_iff]
  refine and_congr_right fun _ => ⟨fun all j other => ?_, fun all j => ?_⟩
  · have := all j
    rwa [Burst.done, Burst.get_modProbe_other other] at this
  · by_cases at_ : j = k
    · subst at_
      rw [Burst.done, Burst.get_modProbe_self]
      exact ends
    · rw [Burst.done, Burst.get_modProbe_other at_]
      exact all j at_

/-- A probe without an answer gives no sample, before and after its timeout. -/
theorem Burst.validSamples_timeOut {b : Burst} {k : Fin 8} (open_ : (b.probes.get k).status = .outstanding) :
    (b.timeOut k).validSamples = b.validSamples := by
  refine List.filterMap_congr fun j _ => ?_
  by_cases at_ : j = k
  · subst at_
    simp only [Burst.timeOut, Burst.get_modProbe_self, open_]
  · simp only [Burst.timeOut, Burst.get_modProbe_other at_]

theorem Port.requestProbe_of_requested {pt : Port} {k : Fin 8} (requested : pt.burst.requested = k.val) :
    pt.requestProbe = { pt with
      burst := { pt.burst with
        requested := k.val + 1
        probes := pt.burst.probes.modify k fun pr => { pr with status := .waiting }
        schedule := if k.val < 7 then .running 125000 else .stopped }
      tx := { pt.tx with probeWaiting := some k } } := by
  have index : probeIndex k.val = some k := dif_pos k.isLt
  simp only [Port.requestProbe, Burst.modProbe, requested, index]
  rfl

/-! ## The outcome of a burst -/

section
variable {pt : Port} {kind : Fin 8} {delay : Nat}

theorem Port.finishBurst_short (few : pt.burst.validSamples.length < 4) :
    pt.finishBurst kind delay = pt.finishShort kind delay pt.burst.validSamples.length := by
  unfold Port.finishBurst
  dsimp only
  split
  · rfl
  · rw [if_pos few]

theorem Port.finishBurst_measured {low : Int} (enough : 4 ≤ pt.burst.validSamples.length) (mem : low ∈ pt.burst.validSamples)
    (least : ∀ x ∈ pt.burst.validSamples, low ≤ x) :
    pt.finishBurst kind delay = pt.finishMeasured kind delay pt.burst.validSamples.length low := by
  have smallest : minOf pt.burst.validSamples = some low := by
    rw [minOf_eq_min?, List.min?_eq_some_iff]
    exact ⟨mem, least⟩
  simp only [Port.finishBurst, smallest, if_neg (Nat.not_lt.mpr enough)]

/-- A burst's outcome is written to the length of the record and to the summary, and the burst is over. -/
theorem Port.finishBurst_eq (pt : Port) (kind : Fin 8) (delay : Nat) : ∃ length unmeasured suspect, ∃ summary : RangingSummary,
    summary.validSamples = some pt.burst.validSamples.length
      ∧ pt.finishBurst kind delay = { pt with
        neighbor := { pt.neighbor with length := length, unmeasured := unmeasured, suspect := suspect }
        summary := summary
        burst := Burst.reset } := by
  by_cases few : pt.burst.validSamples.length < 4
  · rw [Port.finishBurst_short few]
    exact ⟨_, _, _, _, rfl, rfl⟩
  · obtain ⟨low, smallest⟩ := Option.isSome_iff_exists.mp (List.isSome_min?_iff.mpr
      (List.ne_nil_of_length_pos (by omega : 0 < pt.burst.validSamples.length)))
    obtain ⟨mem, least⟩ := List.min?_eq_some_iff.mp smallest
    rw [Port.finishBurst_measured (by omega) mem least]
    exact ⟨_, _, _, _, rfl, rfl⟩

end

/-! ## A burst that completes while no plan is closed -/

section
variable {s : State} {p : Fin 32}

theorem State.checkBurst_of_complete (ranging : (s.port p).state = .verify .ranging) (complete : (s.port p).burst.complete = true) :
    s.checkBurst p = s.completeBurst p := if_pos ⟨ranging, complete⟩

theorem State.checkBurst_of_open (open_ : (s.port p).state ≠ .verify .ranging ∨ (s.port p).burst.complete = false) :
    s.checkBurst p = s := by
  refine if_neg ?_
  rintro ⟨ranging, complete⟩
  exact open_.elim (fun other => other ranging) fun incomplete => by rw [complete] at incomplete; cases incomplete

/-- The outcome is written and the port waits for the plan (R39, R145). -/
theorem State.completeBurst_of_open (open_ : s.plan.state ≠ .closed) : s.completeBurst p = s.modPort p fun pt =>
    (pt.finishBurst (s.expected p).base.cableKind (s.params.cableDelays.get (s.expected p).base.cableKind)).enterPlanWait true := by
  simp only [State.completeBurst, open_, decide_false, Port.fallDue, Bool.false_eq_true, if_false]

/-- The last probe of a burst ends, by whatever `f` does to it, while the plan is not CLOSED. -/
theorem State.alone_completeBurst (open_ : s.plan.state ≠ .closed) {f : Port → Port}
    (status : (f (s.port p)).neighbor.status = (s.port p).neighbor.status)
    (identity : (f (s.port p)).neighbor.identity = (s.port p).neighbor.identity) :
    s.Alone ((s.modPort p f).completeBurst p) p := by
  rw [State.completeBurst_of_open (s := s.modPort p f) open_, State.modPort_modPort]
  obtain ⟨length, unmeasured, suspect, summary, -, outcome⟩ := Port.finishBurst_eq (f (s.port p))
    (s.expected p).base.cableKind (s.params.cableDelays.get (s.expected p).base.cableKind)
  refine .modPort ?_ ?_
  · simp only [State.currentPeer, State.port_modPort_self, State.expected_modPort, State.params_modPort, outcome,
      Port.enterPlanWait, status, identity]
  · rw [State.verdictDue, State.plan_modPort, decide_eq_false open_, Bool.false_and]

/-- The port at the end of an event that so completes its burst, but for what it sends. -/
theorem State.port_completeBurst_event (settled : s.settled) (open_ : s.plan.state ≠ .closed)
    (ranging : (s.port p).state = .verify .ranging) {f : Port → Port}
    (status : (f (s.port p)).neighbor.status = (s.port p).neighbor.status)
    (identity : (f (s.port p)).neighbor.identity = (s.port p).neighbor.identity) :
    ∃ tx, (s.event ((s.modPort p f).completeBurst p)).port p =
      { ((f (s.port p)).finishBurst (s.expected p).base.cableKind
          (s.params.cableDelays.get (s.expected p).base.cableKind)).enterPlanWait true with tx := tx } := by
  rw [(State.alone_completeBurst open_ status identity).own settled,
    State.completeBurst_of_open (s := s.modPort p f) open_, State.port_modPort_self, State.port_modPort_self]
  exact concludePort_of_not_bearing _ _ (by rw [ranging]; rfl)

end

/-- Settles O44: a probe is requested, or times out, in the port's own burst; the last timeout writes the outcome that the valid
samples give (`Port.finishBurst_short`, `Port.finishBurst_measured`). -/
theorem burstAsksEightProbesAndEndsInALength : Obligations.BurstAsksEightProbesAndEndsInALength := by
  intro s p settled
  refine ⟨?unscheduled, ?request, fun k => ⟨?unanswerable, fun outstanding running => ?_⟩⟩
  case unscheduled =>
    intro not
    refine if_neg ?_
    rintro ⟨ranging, runs⟩
    exact not.elim (fun stopped => by rw [runs] at stopped; cases stopped) fun other => other ranging
  case request =>
    intro k ranging runs requested sends
    have asked := Port.requestProbe_of_requested requested
    have taken : exec (.scheduleTimerExpiry p) s = .next (s.event (s.modPort p Port.requestProbe)) :=
      if_pos ⟨ranging, runs⟩
    have quiet : s.event (s.modPort p Port.requestProbe) = s.modPort p Port.requestProbe := by
      refine State.event_private_settled settled ?_ ?_ <;> rw [asked]
      · exact ⟨rfl, rfl, rfl, rfl, rfl, rfl, rfl, rfl⟩
      · exact SidebandTx.settled_of_sending sends
    rw [taken, quiet]
    exact congrArg Host.Outcome.next (State.modPort_congr asked)
  case unanswerable =>
    intro not
    refine if_neg ?_
    rintro ⟨outstanding, runs⟩
    exact not.elim (fun other => other outstanding) fun stopped => by rw [runs] at stopped; cases stopped
  intro done
  have taken : exec (.probeTimeoutExpiry p k) s = .next (s.event
      ((s.modPort p fun pt => { pt with burst := pt.burst.timeOut k }).checkBurst p)) := if_pos ⟨outstanding, running⟩
  have complete := Burst.complete_modProbe_iff (b := (s.port p).burst) (k := k)
    (f := fun pr => { pr with status := .timedOut, timeout := .stopped }) (.inr rfl)
  refine ⟨?others, ?last⟩
  case others =>
    rintro ⟨j, other, open_⟩
    have incomplete : ((s.port p).burst.timeOut k).complete = false := by
      rw [← Bool.not_eq_true]
      exact fun all => open_ ((complete.mp all).2 j other)
    rw [taken, State.checkBurst_of_open (.inr (by rw [State.port_modPort_self]; exact incomplete))]
    exact congrArg Host.Outcome.next
      (State.event_private_settled settled ⟨rfl, rfl, rfl, rfl, rfl, rfl, rfl, rfl⟩ (settled.1 p))
  case last =>
    intro all ranging runs open_
    have finished : ((s.port p).burst.timeOut k).complete = true := complete.mpr ⟨runs, all⟩
    have alone := State.alone_completeBurst (s := s) (p := p) (f := fun pt => { pt with burst := pt.burst.timeOut k })
      open_ rfl rfl
    obtain ⟨tx, own⟩ := State.port_completeBurst_event (s := s) (p := p)
      (f := fun pt => { pt with burst := pt.burst.timeOut k }) settled open_ ranging rfl rfl
    have samples : ((s.port p).burst.timeOut k).validSamples = (s.port p).burst.validSamples :=
      Burst.validSamples_timeOut outstanding
    have others := alone.others settled
    have device := State.sameDevice_event alone.only rfl
    have monitor := alone.monitor settled
    rw [taken, State.checkBurst_of_complete (by rw [State.port_modPort_self]; exact ranging)
      (by rw [State.port_modPort_self]; exact finished)]
    refine Outcome.exists_next ?_
    rw [own]
    obtain ⟨length, unmeasured, suspect, summary, counted, outcome⟩ := Port.finishBurst_eq
      { s.port p with burst := (s.port p).burst.timeOut k } (s.expected p).base.cableKind
      (s.params.cableDelays.get (s.expected p).base.cableKind)
    refine ⟨rfl, by rw [outcome]; rfl, by rw [outcome]; rfl, by rw [outcome]; rfl, others, device, monitor,
      by rw [outcome]; exact counted.trans (congrArg (fun l => some l.length) samples), fun few => ?_,
      fun low mem enough least => ?_⟩
    · rw [Port.finishBurst_short (samples ▸ few)]
      rfl
    · rw [Port.finishBurst_measured (samples ▸ enough) (samples ▸ mem) (samples ▸ least)]
      rfl

end Sys2Proof.Machine

/-! SUPPORT. One lane of a port, the examination of the lanes, and the start and end of a lock (R36, R82, R83, R109). -/

namespace Sys2Proof.Machine

/-! ## One lane -/

section
variable (pt : Port) (l : Fin 4) (f g : Lane → Lane)

@[simp] theorem Port.lane_modLane_self : (pt.modLane l f).lane l = f (pt.lane l) := Table.get_modify_self ..

theorem Port.lane_modLane_other {o : Fin 4} (other : o ≠ l) : (pt.modLane l f).lane o = pt.lane o :=
  Table.get_modify_other _ _ other

theorem Port.modLane_modLane : (pt.modLane l f).modLane l g = pt.modLane l fun ln => g (f ln) := by
  have lanes : (pt.lanes.modify l f).modify l g = pt.lanes.modify l fun ln => g (f ln) := by
    refine Table.ext_get fun o => ?_
    by_cases at_ : o = l
    · subst at_
      simp only [Table.get_modify_self]
    · simp only [Table.get_modify_other _ _ at_]
  exact congrArg (fun t => { pt with lanes := t }) lanes

theorem Port.modLane_congr {f g : Lane → Lane} (same : f (pt.lane l) = g (pt.lane l)) : pt.modLane l f = pt.modLane l g :=
  congrArg (fun x => { pt with lanes := pt.lanes.set l x }) same

theorem Port.Shows.modLane : pt.Shows (pt.modLane l f) := ⟨rfl, rfl, rfl, rfl, rfl, rfl, rfl, rfl⟩

end

theorem Port.Shows.refl (pt : Port) : pt.Shows pt := ⟨rfl, rfl, rfl, rfl, rfl, rfl, rfl, rfl⟩

theorem Port.Shows.trans {a b c : Port} (h : a.Shows b) (k : b.Shows c) : a.Shows c :=
  ⟨k.state.trans h.state, k.verdict.trans h.verdict, k.ready.trans h.ready, k.phase.trans h.phase, k.kept.trans h.kept,
    k.fences.trans h.fences, k.neighbor.1.trans h.neighbor.1, k.neighbor.2.trans h.neighbor.2⟩

theorem State.modPort_modLane_congr {s : State} {p : Fin 32} {l : Fin 4} {f g : Lane → Lane}
    (same : f ((s.port p).lane l) = g ((s.port p).lane l)) :
    (s.modPort p fun pt => pt.modLane l f) = s.modPort p fun pt => pt.modLane l g :=
  State.modPort_congr (Port.modLane_congr _ _ same)

/-- The lane a global index names. -/
theorem State.modLane_globalLane (s : State) (p : Fin 32) (l : Fin 4) (f : Lane → Lane) :
    s.modLane (globalLane p l) f = s.modPort p fun pt => pt.modLane l f := by
  rw [State.modLane, lanePort_globalLane, lanePhysical_globalLane]

theorem State.lane_globalLane (s : State) (p : Fin 32) (l : Fin 4) : s.lane (globalLane p l) = (s.port p).lane l := by
  rw [State.lane, lanePort_globalLane, lanePhysical_globalLane]

theorem globalLane_of_val {g : Fin 128} {p : Fin 32} {l : Fin 4} (h : g.val = 4 * p.val + l.val) : g = globalLane p l :=
  Fin.ext h

/-! ## Events whose effect no other unit sees -/

/-- An event that leaves every port showing what it showed, with its transmitter settled, has its own effect alone; that on the
Lane Monitor is free. -/
theorem State.event_shows {s u : State} (settled : s.settled) (only : s.Only u) (shows_ : ∀ q, (s.port q).Shows (u.port q))
    (tx : u.sidebandSettled) : s.event u = u := by
  refine State.event_quiet (by rw [only.plan]) (fun q => (shows_ q).state) (fun q => (shows_ q).verdict) (fun q => ?_)
    (fun q => ?_) tx (fun q => ?_) ?_
  · simp only [State.advertised, State.advertisedPeer, State.expected, only.plan, Port.sentKept, Port.keptValid,
      (shows_ q).state, (shows_ q).verdict, (shows_ q).ready, (shows_ q).phase, (shows_ q).kept, (shows_ q).fences]
    rfl
  · rw [State.currentPeer, State.currentPeer, (shows_ q).neighbor.1, (shows_ q).neighbor.2]
  · rw [State.verdictDue, only.plan, (shows_ q).state]; exact settled.2.2 q
  · rw [only.mli, only.notices]; exact settled.2.1.1

theorem State.shows_modPort {s : State} {p : Fin 32} {f : Port → Port} (h : (s.port p).Shows (f (s.port p))) (q : Fin 32) :
    (s.port q).Shows ((s.modPort p f).port q) := by
  rw [State.port_modPort]
  split
  · next at_ => subst at_; exact h
  · exact .refl _

/-! ## The examination of the lanes (R36) -/

/-- A lane without a result. -/
def LaneState.isOpen : LaneState → Bool
  | .idle | .locking | .searching => true
  | .fenced | .good _ | .failed _ => false

theorem LaneState.isOpen_iff {st : LaneState} : st.isOpen = true ↔ st = .idle ∨ st = .locking ∨ st = .searching := by
  cases st <;> simp [LaneState.isOpen]

theorem LaneState.not_open_iff {st : LaneState} :
    st.isOpen = false ↔ st = .fenced ∨ st.isGood = true ∨ st.isFailed = true := by
  cases st <;> simp [LaneState.isOpen, LaneState.isGood, LaneState.isFailed]

theorem LaneState.not_good_of_failed {st : LaneState} (failed : st.isFailed = true) : st.isGood = false := by
  cases st with
  | failed reason => rfl
  | fenced | idle | locking | searching | good marginal => cases failed

theorem Port.laneOutcome_open {pt : Port} {l : Fin 4} (open_ : (pt.lane l).state.isOpen = true) : pt.laneOutcome = none := by
  have any_ : (allLanes.any fun l => (pt.lane l).state.isOpen) = true :=
    List.any_eq_true.mpr ⟨l, List.mem_finRange l, open_⟩
  exact if_pos any_

theorem Port.laneOutcome_closed {pt : Port} (closed : ∀ l, (pt.lane l).state.isOpen = false) :
    pt.laneOutcome = some (allLanes.any pt.good) := by
  have none_ : ¬ (allLanes.any fun l => (pt.lane l).state.isOpen) = true := by simp [closed]
  exact if_neg none_

section
variable {s : State} {p : Fin 32}

theorem State.examineLanes_elsewhere (other : (s.port p).state ≠ .laneLock) : s.examineLanes p = s := if_neg other

theorem State.examineLanes_open {l : Fin 4} (open_ : ((s.port p).lane l).state.isOpen = true) : s.examineLanes p = s := by
  simp only [State.examineLanes, Port.laneOutcome_open open_, ite_self]

theorem State.examineLanes_good (at_ : (s.port p).state = .laneLock) (closed : ∀ l, ((s.port p).lane l).state.isOpen = false)
    {l : Fin 4} (good : (s.port p).good l = true) : s.examineLanes p = s.modPort p (Port.enterAlign s.params) := by
  have any_ : allLanes.any (s.port p).good = true := List.any_eq_true.mpr ⟨l, List.mem_finRange l, good⟩
  simp only [State.examineLanes, if_pos at_, Port.laneOutcome_closed closed, any_]

theorem State.examineLanes_none (at_ : (s.port p).state = .laneLock) (closed : ∀ l, ((s.port p).lane l).state.isOpen = false)
    (bad : ∀ l, (s.port p).good l = false) : s.examineLanes p = s.fail p .noLanes 2 none := by
  have any_ : allLanes.any (s.port p).good = false := by simp [bad]
  simp only [State.examineLanes, if_pos at_, Port.laneOutcome_closed closed, any_]

/-! ## Selections that find no job (R109) -/

/-- An empty job list stays as it is when the scan side is examined. -/
theorem State.withMonitor_examined (jobs : s.monitor.jobs = []) :
    s.withMonitor { s.monitor with jobs := (examineJobs s.laneFenced s.monitor.jobs).jobs } = s := by
  rw [show (examineJobs s.laneFenced s.monitor.jobs).jobs = s.monitor.jobs by rw [jobs]; rfl]
  rfl

theorem State.select_request {r : BringUpRequest} {rest : List BringUpRequest} (free : s.monitor.engine = none)
    (queue : s.monitor.queue = r :: rest) (jobs : s.monitor.jobs = []) : s.select = ⟨s.serveRequest r rest, []⟩ := by
  have noLane : (examineJobs s.laneFenced s.monitor.jobs).lane = none := by rw [jobs]; rfl
  have noDone : (examineJobs s.laneFenced s.monitor.jobs).done = [] := by rw [jobs]; rfl
  unfold State.select
  rw [free]
  dsimp only
  rw [State.withMonitor_examined jobs, queue, noLane, noDone]

theorem State.select_nothing (free : s.monitor.engine = none) (queue : s.monitor.queue = []) (jobs : s.monitor.jobs = []) :
    s.select = ⟨s, []⟩ := by
  have noLane : (examineJobs s.laneFenced s.monitor.jobs).lane = none := by rw [jobs]; rfl
  have noDone : (examineJobs s.laneFenced s.monitor.jobs).done = [] := by rw [jobs]; rfl
  unfold State.select
  rw [free]
  dsimp only
  rw [State.withMonitor_examined jobs, queue, noLane, noDone]

theorem State.eventSelecting_of_select {s u t : State} {done : List (Fin 4)} (selects : u.select = ⟨t, done⟩)
    (limits : List Notice) : s.eventSelecting u limits = s.finish (t.verdicts s fun _ => false) limits (doneNotices done) := by
  rw [State.eventSelecting, selects]

theorem State.eventSelecting_quiet {s u t : State} (selects : u.select = ⟨t, []⟩) : s.eventSelecting u [] = s.event t :=
  State.eventSelecting_of_select selects []

end

end Sys2Proof.Machine

/-! SUPPORT. Lock acquired and lock timed out (R82, R83). -/

namespace Sys2Proof.Machine

/-- The method of a search and the setting of its first step (Table 4-2). -/
def Lane.chooses (pr : Params) (ln : Lane) (method : SearchMethod) (setting : Fin 32) : Prop :=
  ln.forced = some setting ∧ method = .forced
    ∨ ln.forced = none ∧ pr.eqMethod = .hold ∧ setting = ln.previous ∧ method = .hold
    ∨ ln.forced = none ∧ pr.eqMethod = .midpoint ∧ setting = 0 ∧ method = .midpoint

theorem Lane.startSearch_eq {pr : Params} {ln : Lane} {method : SearchMethod} {setting : Fin 32}
    (chosen : ln.chooses pr method setting) : ln.startSearch pr =
      { ln with
        state := .searching
        lockTimer := .stopped
        passMv := pr.eqPassMv
        minWindow := pr.eqMinWindow
        window := none
        currentRun := none
        bestRun := none
        method := method
        step := setting } := by
  rcases chosen with ⟨forced, rfl⟩ | ⟨forced, way, rfl, rfl⟩ | ⟨forced, way, rfl, rfl⟩
  · simp only [Lane.startSearch, forced]
  · simp only [Lane.startSearch, forced, way]
  · simp only [Lane.startSearch, forced, way]

theorem Lane.marker_startSearch (pr : Params) (ln : Lane) : (ln.startSearch pr).marker = ln.marker := by
  unfold Lane.startSearch
  dsimp only
  split <;> rfl

theorem State.modPort_withMonitor (s : State) (m : Monitor) (p : Fin 32) (f : Port → Port) :
    (s.withMonitor m).modPort p f = (s.modPort p f).withMonitor m := rfl

theorem State.withMonitor_withMonitor (s : State) (m n : Monitor) : (s.withMonitor m).withMonitor n = s.withMonitor n := rfl

section
variable {s : State} {p : Fin 32} {l : Fin 4}

/-- The first step of a search with nothing outstanding. -/
theorem State.acquireLock_free (free : ((s.port p).lane l).marker = .none) : s.acquireLock p l =
    (s.modPort p fun pt => pt.modLane l fun ln => (ln.startSearch s.params).beginStep).withMonitor
      { s.monitor with queue := s.monitor.queue ++ [⟨globalLane p l, (s.port p).attempt⟩] } := by
  have placed : (s.modPort p fun pt => pt.modLane l (Lane.startSearch s.params)).placeStep p l =
      (s.modPort p fun pt => pt.modLane l fun ln => (ln.startSearch s.params).beginStep).withMonitor
        { s.monitor with queue := s.monitor.queue ++ [⟨globalLane p l, (s.port p).attempt⟩] } := by
    unfold State.placeStep
    dsimp only
    rw [State.modPort_modPort, State.port_modPort_self]
    exact congrArg (fun u : State => u.withMonitor _) (State.modPort_congr (Port.modLane_modLane ..))
  simp only [State.acquireLock, State.port_modPort_self, Port.lane_modLane_self, Lane.marker_startSearch, free, if_true]
  exact placed

theorem State.acquireLock_outstanding (outstanding : ((s.port p).lane l).marker ≠ .none) :
    s.acquireLock p l = s.modPort p fun pt => pt.modLane l (Lane.startSearch s.params) := by
  simp only [State.acquireLock, State.port_modPort_self, Port.lane_modLane_self, Lane.marker_startSearch, if_neg outstanding]

/-- What changes lanes at one port and the Lane Monitor alone is the whole of its event. -/
theorem State.event_lane (settled : s.settled) (f : Lane → Lane) (m : Monitor) :
    s.event ((s.modPort p fun pt => pt.modLane l f).withMonitor m) = (s.modPort p fun pt => pt.modLane l f).withMonitor m := by
  refine State.event_shows settled ((State.Only.modPort ..).trans (.withMonitor ..))
    (State.shows_modPort (f := fun pt => pt.modLane l f) (Port.Shows.modLane (s.port p) l f)) fun q => ?_
  show ((s.modPort p fun pt => pt.modLane l f).port q).tx.settled = true
  rw [State.port_modPort]
  split
  · next at_ => subst at_; exact settled.1 q
  · exact settled.1 q

theorem State.event_modLane (settled : s.settled) (f : Lane → Lane) :
    s.event (s.modPort p fun pt => pt.modLane l f) = s.modPort p fun pt => pt.modLane l f :=
  State.event_lane settled f s.monitor

/-- A request joined to a free engine's empty queue is served at once. -/
theorem State.select_placed {f : Lane → Lane} {attempt : BitVec 32} (free : s.monitor.engine = none)
    (queue : s.monitor.queue = []) (jobs : s.monitor.jobs = []) :
    ((s.modPort p fun pt => pt.modLane l f).withMonitor
      { s.monitor with queue := s.monitor.queue ++ [⟨globalLane p l, attempt⟩] }).select =
    ⟨(s.modPort p fun pt => pt.modLane l fun ln => { f ln with marker := .inService }).withMonitor
      { s.monitor with
        runCount := min 8 (s.monitor.runCount + 1)
        engine := some ⟨globalLane p l, .bringUp attempt, (f ((s.port p).lane l)).current, .running Config.measurementTime⟩ },
      []⟩ := by
  have placed : ((s.modPort p fun pt => pt.modLane l f).withMonitor
      { s.monitor with queue := s.monitor.queue ++ [⟨globalLane p l, attempt⟩] }).monitor.queue
        = ⟨globalLane p l, attempt⟩ :: [] := by
    rw [State.monitor_withMonitor, queue, List.nil_append]
  refine (State.select_request (r := ⟨globalLane p l, attempt⟩) (rest := []) ?_ placed ?_).trans ?_
  · exact free
  · exact jobs
  unfold State.serveRequest State.startMeasurement
  simp only [State.modLane_globalLane, State.lane_globalLane, State.port_withMonitor, State.port_modPort_self,
    Port.lane_modLane_self, State.monitor_withMonitor, State.withMonitor_withMonitor, State.modPort_withMonitor,
    State.modPort_modPort, Port.modLane_modLane, queue]

end

/-- Settles O45: the search is the one of Table 4-2 (`Lane.startSearch_eq`) and its first step joins the queue or is served; a lock
that times out fails the lane, and the port when no other lane is open or GOOD (`State.examineLanes_none`). -/
theorem lockStartsASearchOrFailsTheLane : Obligations.LockStartsASearchOrFailsTheLane := by
  intro s p l settled ln
  refine ⟨?ignored, fun method setting locking chosen => ?_, fun locking running => ?_⟩
  case ignored => exact fun other => ⟨if_neg other, if_neg fun both => other both.1⟩
  · intro searching
    have taken : exec (.lockAcquired p l) s = .next (s.eventSelecting (s.acquireLock p l) []) := if_pos locking
    have begun : (ln.startSearch s.params).beginStep = { ln with
        state := .searching, lockTimer := .stopped, passMv := s.params.eqPassMv, minWindow := s.params.eqMinWindow,
        window := none, currentRun := none, bestRun := none, method := method, step := setting, current := setting,
        marker := .waiting } := by rw [Lane.startSearch_eq chosen]; rfl
    refine ⟨fun free busy => ?waits, fun free idle queue jobs => ?served, fun outstanding busy => ?later⟩
    case waits =>
      have stays : (s.acquireLock p l).monitor.engine ≠ none := by rw [State.acquireLock_free free]; exact busy
      rw [taken, State.eventSelecting_quiet (State.select_of_busy stays), State.acquireLock_free free,
        State.event_lane settled]
      exact congrArg (fun u : State => Host.Outcome.next (u.withMonitor _)) (State.modPort_modLane_congr begun)
    case served =>
      rw [taken, State.acquireLock_free free, State.eventSelecting_quiet (State.select_placed idle queue jobs),
        State.event_lane settled]
      have current : ((ln.startSearch s.params).beginStep).current = setting := by rw [begun]
      dsimp only
      rw [current]
      refine congrArg (fun u : State => Host.Outcome.next (u.withMonitor _)) (State.modPort_modLane_congr ?_)
      show { (ln.startSearch s.params).beginStep with marker := .inService } = _
      rw [begun]
    case later =>
      have marked : ln.marker ≠ .none := by
        rcases outstanding with marker | marker <;> rw [marker] <;> exact Marker.noConfusion
      have stays : (s.acquireLock p l).monitor.engine ≠ none := by
        rw [State.acquireLock_outstanding marked]; exact busy
      rw [taken, State.eventSelecting_quiet (State.select_of_busy stays), State.acquireLock_outstanding marked,
        State.event_modLane settled]
      exact congrArg Host.Outcome.next (State.modPort_modLane_congr (Lane.startSearch_eq chosen))
  · have taken : exec (.lockTimerExpiry p l) s =
        .next (s.event ((s.modPort p fun pt => pt.modLane l Lane.lockTimeout).examineLanes p)) := if_pos ⟨locking, running⟩
    refine ⟨fun goesOn => ?open_, fun at_ rest => ?last⟩
    case open_ =>
      have unexamined : (s.modPort p fun pt => pt.modLane l Lane.lockTimeout).examineLanes p =
          s.modPort p fun pt => pt.modLane l Lane.lockTimeout := by
        rcases goesOn with elsewhere | ⟨m, other, open_⟩
        · exact State.examineLanes_elsewhere (by rw [State.port_modPort_self]; exact elsewhere)
        · refine State.examineLanes_open (l := m) ?_
          rw [State.port_modPort_self, Port.lane_modLane_other _ _ _ other]
          exact LaneState.isOpen_iff.mpr open_
      rw [taken, unexamined, State.event_modLane settled]
      rfl
    case last =>
      have lane : ∀ m, ((s.modPort p fun pt => pt.modLane l Lane.lockTimeout).port p).lane m =
          if m = l then ln.lockTimeout else (s.port p).lane m := fun m => by
        rw [State.port_modPort_self]
        split
        · next same => subst same; exact Port.lane_modLane_self ..
        · next other => exact Port.lane_modLane_other _ _ _ other
      have closed : ∀ m, (((s.modPort p fun pt => pt.modLane l Lane.lockTimeout).port p).lane m).state.isOpen = false := by
        intro m
        rw [lane]
        split
        · rfl
        · next other => exact LaneState.not_open_iff.mpr ((rest m other).imp_right .inr)
      have bad : ∀ m, ((s.modPort p fun pt => pt.modLane l Lane.lockTimeout).port p).good m = false := by
        intro m
        rw [Port.good, lane]
        split
        · rfl
        · next other =>
          rcases rest m other with fenced | failed
          · rw [fenced]; rfl
          · exact LaneState.not_good_of_failed failed
      rw [taken, State.examineLanes_none (by rw [State.port_modPort_self]; exact at_) closed bad]
      exact Outcome.exists_next (State.failed_event settled (.modPort ⟨Iff.rfl, rfl, rfl, rfl, rfl⟩))

end Sys2Proof.Machine

/-! SUPPORT. Loss of lock after the mask is fixed: kept lanes and the others (R93, R94, R133, R134). -/

namespace Sys2Proof.Machine

theorem Table.mapFin_congr {α β : Type} {n : Nat} {f g : Fin n → α → β} {t : Table α n}
    (same : ∀ i, f i (t.get i) = g i (t.get i)) : t.mapFin f = t.mapFin g :=
  congrArg Table.ofFn (funext same)

section
variable {pt : Port} {lost : Fin 4 → Bool}

/-- A GOOD lane that loses lock is FAILED with NO_LOCK at its setting (R93). -/
theorem Port.failLostLanes_eq (good : ∀ l, lost l = true → pt.good l = true) : pt.failLostLanes lost =
    { pt with lanes := pt.lanes.mapFin fun l ln => if lost l then { ln with state := .failed .noLock } else ln } := by
  refine congrArg (fun lanes => { pt with lanes := lanes }) (Table.mapFin_congr fun l => ?_)
  split
  · next at_ =>
    have isGood : (pt.lanes.get l).state.isGood = true := good l at_
    cases state : (pt.lanes.get l).state with
    | good marginal => simp only [Lane.loseLockAfter, state]
    | fenced | idle | locking | searching | failed reason => rw [state] at isGood; cases isGood
  · rfl

/-- Lanes lost after the fixing, by lane and alignment status. -/
theorem Port.markFail_eq (good : ∀ l, lost l = true → pt.good l = true) : (pt.markLostLanes lost).failLostLanes lost =
    { pt with
      lanes := pt.lanes.mapFin fun l ln => if lost l then { ln with state := .failed .noLock } else ln
      deskew := { pt.deskew with
        lanes := pt.deskew.lanes.mapFin fun l dl => if lost l then { dl with status := .noLock } else dl } } :=
  Port.failLostLanes_eq (pt := pt.markLostLanes lost) good

theorem Port.Shows.markFail (pt : Port) (lost : Fin 4 → Bool) : pt.Shows ((pt.markLostLanes lost).failLostLanes lost) :=
  (⟨rfl, rfl, rfl, rfl, rfl, rfl, rfl, rfl⟩ : pt.Shows (pt.markLostLanes lost)).trans ⟨rfl, rfl, rfl, rfl, rfl, rfl, rfl, rfl⟩

theorem Port.markFail_lane (good : ∀ l, lost l = true → pt.good l = true) (l : Fin 4) :
    (pt.failLostLanes lost).lane l = if lost l then { pt.lane l with state := .failed .noLock } else pt.lane l := by
  rw [Port.failLostLanes_eq good]
  exact Table.get_mapFin ..

end

section
variable {s : State} {p : Fin 32} {lanes : BitVec 4}

/-- The GOOD lanes of a port among those of a mask. -/
def Port.goodLost (pt : Port) (lanes : BitVec 4) (l : Fin 4) : Bool := lanes.getLsbD l.val && pt.good l

theorem Port.good_of_goodLost {pt : Port} (l : Fin 4) (h : pt.goodLost lanes l = true) : pt.good l = true :=
  (Bool.and_eq_true_iff.mp h).2

/-- Where no receiver is in use the event does nothing. -/
theorem State.loseLock_unused (unused : (s.port p).state.sending = false ∨ (s.port p).state = .sideband
    ∨ (∃ n, (s.port p).state = .held .sideband n) ∨ (s.port p).state = .backoff ∨ (s.port p).state = .fault) :
    s.loseLock p lanes = s := by
  unfold State.loseLock
  dsimp only
  rcases unused with silent | state | ⟨n, state⟩ | state | state
  · cases state : (s.port p).state with
    | disabled | waitCable => rfl
    | sideband | laneLock | align | verify _ | held _ _ | active | backoff | fault =>
      exact absurd (silent.symm.trans (congrArg PortState.sending state)) Bool.false_ne_true
  · rw [state]
  · rw [state]
  · rw [state]
  · rw [state]

theorem State.loseLock_active (active : (s.port p).state = .active) :
    s.loseLock p lanes = s.loseActive p ((s.port p).goodLost lanes) := by
  unfold State.loseLock
  dsimp only
  rw [active]
  rfl

/-- The lowest kept lane lost is the failing lane of LANE_LOST (R94). -/
theorem State.loseActive_kept {lost : Fin 4 → Bool} {l : Fin 4} (gone : lost l = true) (kept : (s.port p).keptLane l = true)
    (lowest : ∀ m : Fin 4, m < l → lost m = true → (s.port p).keptLane m = false) : s.loseActive p lost =
      (s.modPort p fun pt => (pt.markLostLanes lost).failLostLanes lost).fail p .laneLost 5 (some l) := by
  have found : (allLanes.find? fun l => lost l && (s.port p).keptLane l) = some l :=
    find?_finRange_eq_some (by simp [gone, kept]) fun m below => by
      cases lostM : lost m with
      | false => rfl
      | true => simpa using lowest m below lostM
  simp only [State.loseActive, found]

theorem State.loseActive_spare {lost : Fin 4 → Bool} (spare : ∀ l : Fin 4, lost l = true → (s.port p).keptLane l = false) :
    s.loseActive p lost = s.modPort p fun pt => (pt.markLostLanes lost).failLostLanes lost := by
  have none_ : (allLanes.find? fun l => lost l && (s.port p).keptLane l) = none := by
    rw [List.find?_eq_none]
    intro l _ both
    obtain ⟨gone, kept⟩ := Bool.and_eq_true_iff.mp both
    rw [spare l gone] at kept
    cases kept
  simp only [State.loseActive, none_]

/-- Lanes that are lost and not kept change their port's lanes and statuses alone. -/
theorem State.event_spare (settled : s.settled) {lost : Fin 4 → Bool} (good : ∀ l, lost l = true → (s.port p).good l = true) :
    s.event (s.modPort p fun pt => (pt.markLostLanes lost).failLostLanes lost) = s.modPort p fun pt => { pt with
      lanes := pt.lanes.mapFin fun l ln => if lost l then { ln with state := .failed .noLock } else ln
      deskew := { pt.deskew with
        lanes := pt.deskew.lanes.mapFin fun l dl => if lost l then { dl with status := .noLock } else dl } } := by
  have tx : ((s.port p).markLostLanes lost).tx = (s.port p).tx := rfl
  refine (State.event_private_settled settled (Port.Shows.markFail (s.port p) lost) ?_).trans
    (State.modPort_congr (Port.markFail_eq good))
  show ((s.port p).markLostLanes lost).tx.settled = true
  rw [tx]
  exact settled.1 p

end

/-- Settles O48: in ACTIVE the lowest kept lane lost fails the port, and lanes that are not kept change no more than themselves. -/
theorem lossOfLockCountsWhereItMatters : Obligations.LossOfLockCountsWhereItMatters := by
  intro s p lanes settled lost
  refine ⟨fun unused => ?unused, fun l active gone kept lowest => ?kept, fun active spare => ?spare⟩
  case unused => exact congrArg Host.Outcome.next (by rw [State.loseLock_unused unused, State.event_self settled])
  case kept =>
    have taken : exec (.lossOfLock p lanes) s = .next (s.event ((s.modPort p fun pt =>
        (pt.markLostLanes lost).failLostLanes lost).fail p .laneLost 5 (some l))) :=
      congrArg (fun u => Host.Outcome.next (s.event u))
        ((State.loseLock_active active).trans (State.loseActive_kept gone kept lowest))
    rw [taken]
    exact Outcome.exists_next (State.failed_event settled (.modPort ⟨Iff.rfl, rfl, rfl, rfl, rfl⟩))
  case spare =>
    have taken : exec (.lossOfLock p lanes) s = .next (s.event (s.modPort p fun pt =>
        (pt.markLostLanes lost).failLostLanes lost)) :=
      congrArg (fun u => Host.Outcome.next (s.event u))
        ((State.loseLock_active active).trans (State.loseActive_spare spare))
    rw [taken]
    exact congrArg Host.Outcome.next (State.event_spare settled Port.good_of_goodLost)

end Sys2Proof.Machine

/-! SUPPORT. Loss of lock before ACTIVE: in LANE_LOCK, during an alignment and after one (R92, R93, R125, R133). -/

namespace Sys2Proof.Machine

/-! ## In LANE_LOCK (R92) -/

/-- What a lane that loses lock in LANE_LOCK becomes. -/
def Lane.relocked (pr : Params) (ln : Lane) : Lane :=
  let x := { ln with
    lockLosses := ln.lockLosses + 1
    marker := if ln.marker = Marker.inService ∨ ln.marker = Marker.abandoned then .abandoned else .none }
  if ln.lockLosses < 2 then
    { x with
      state := .locking
      lockTimer := armMs pr.laneLockTimeout
      window := none
      current := match x.forced with
        | some setting => setting
        | none => x.previous }
  else { x with state := .failed .noLock, current := x.previous }

/-- A lane that can lose lock in LANE_LOCK. -/
def LaneState.locked (st : LaneState) : Bool :=
  match st with
  | .searching | .good _ => true
  | .fenced | .idle | .locking | .failed _ => false

theorem LaneState.locked_iff {st : LaneState} : st.locked = true ↔ st = .searching ∨ st.isGood = true := by
  cases st <;> simp [LaneState.locked, LaneState.isGood]

theorem Lane.loseLockInLaneLock_other {pr : Params} {ln : Lane} (other : ln.state.locked = false) :
    ln.loseLockInLaneLock pr = ln := by
  unfold Lane.loseLockInLaneLock
  cases state : ln.state with
  | fenced | idle | locking | failed reason => rfl
  | searching | good marginal => rw [state] at other; cases other

theorem Lane.marker_abandonSearch (ln : Lane) : ln.abandonSearch =
    { ln with marker := if ln.marker = Marker.inService ∨ ln.marker = Marker.abandoned then .abandoned else .none } := by
  cases marker : ln.marker <;> simp [Lane.abandonSearch, marker]

theorem Lane.loseLockInLaneLock_locked {pr : Params} {ln : Lane} (locked : ln.state.locked = true) :
    ln.loseLockInLaneLock pr = ln.relocked pr := by
  have early : 3 ≤ ln.lockLosses + 1 ↔ ¬ ln.lockLosses < 2 := by omega
  unfold Lane.loseLockInLaneLock Lane.relocked
  rw [Lane.marker_abandonSearch]
  cases state : ln.state with
  | fenced | idle | locking | failed reason => rw [state] at locked; cases locked
  | searching | good marginal =>
    dsimp only
    by_cases few : ln.lockLosses < 2
    · rw [if_pos few, if_neg fun third => early.mp third few]; rfl
    · rw [if_neg few, if_pos (early.mpr few)]

/-- The withdrawal of the waiting requests of some lanes of a port. -/
theorem State.withdrawLanes_eq (p : Fin 32) (test : Fin 4 → Bool) (l : List (Fin 4)) (s : State) : ∃ queue,
    l.foldl (fun t l => if test l then t.withdrawLane (globalLane p l) else t) s
      = s.withMonitor { s.monitor with queue := queue }
    ∧ ∀ r, r ∈ queue ↔ r ∈ s.monitor.queue ∧ ∀ o ∈ l, test o = true → r.lane ≠ globalLane p o := by
  induction l generalizing s with
  | nil => exact ⟨s.monitor.queue, rfl, fun r => by simp⟩
  | cons o rest ih =>
    rw [List.foldl_cons]
    split
    · next hit =>
      obtain ⟨queue, same, mem⟩ := ih (s.withdrawLane (globalLane p o))
      refine ⟨queue, same, fun r => ?_⟩
      rw [mem]
      simp [State.withdrawLane, hit, and_assoc]
    · next miss =>
      obtain ⟨queue, same, mem⟩ := ih s
      refine ⟨queue, same, fun r => ?_⟩
      rw [mem]
      simp [miss]

section
variable {s : State} {p : Fin 32}

/-- An event whose effect is on the Lane Monitor and on one port's own fields. -/
theorem State.event_shows_at (settled : s.settled) {f : Port → Port} (m : Monitor) (shows_ : (s.port p).Shows (f (s.port p)))
    (tx : (f (s.port p)).tx = (s.port p).tx) :
    s.event ((s.modPort p f).withMonitor m) = (s.modPort p f).withMonitor m := by
  refine State.event_shows settled ((State.Only.modPort ..).trans (.withMonitor ..))
    (State.shows_modPort (f := f) shows_) fun q => ?_
  show ((s.modPort p f).port q).tx.settled = true
  rw [State.port_modPort]
  split
  · rw [tx]; exact settled.1 p
  · exact settled.1 q

/-- The lanes of a mask lose lock in LANE_LOCK while a lane stays open. -/
theorem State.event_loseInLaneLock (settled : s.settled) {lost : Fin 4 → Bool}
    (open_ : ∃ l, ((if lost l then ((s.port p).lane l).loseLockInLaneLock s.params else (s.port p).lane l)).state.isOpen = true) :
    ∃ queue, s.event (s.loseInLaneLock p lost) = (s.modPort p fun pt =>
        { pt with lanes := pt.lanes.mapFin fun l ln => if lost l then ln.loseLockInLaneLock s.params else ln }).withMonitor
        { s.monitor with queue := queue }
      ∧ ∀ r, r ∈ queue ↔ r ∈ s.monitor.queue
        ∧ ∀ l, lost l = true → ((s.port p).lane l).state = .searching → r.lane ≠ globalLane p l := by
  obtain ⟨l, open_⟩ := open_
  obtain ⟨queue, same, mem⟩ := State.withdrawLanes_eq p
    (fun l => lost l && decide (((s.port p).lane l).state = .searching)) allLanes (s.modPort p fun pt =>
      { pt with lanes := pt.lanes.mapFin fun l ln => if lost l then ln.loseLockInLaneLock s.params else ln })
  refine ⟨queue, ?_, fun r => (mem r).trans (by simp [allLanes])⟩
  have unexamined : s.loseInLaneLock p lost = (s.modPort p fun pt =>
      { pt with lanes := pt.lanes.mapFin fun l ln => if lost l then ln.loseLockInLaneLock s.params else ln }).withMonitor
      { s.monitor with queue := queue } := by
    refine (congrArg (fun t : State => t.examineLanes p) same).trans (State.examineLanes_open (l := l) ?_)
    rw [State.port_withMonitor, State.port_modPort_self, Port.lane, Table.get_mapFin]
    exact open_
  rw [unexamined]
  exact State.event_shows_at settled _ ⟨rfl, rfl, rfl, rfl, rfl, rfl, rfl, rfl⟩ rfl

theorem State.loseLock_laneLock {lanes : BitVec 4} (at_ : (s.port p).state = .laneLock) :
    s.loseLock p lanes = s.loseInLaneLock p fun l => lanes.getLsbD l.val := by
  unfold State.loseLock
  dsimp only
  rw [at_]

theorem State.loseLock_align {lanes : BitVec 4} (at_ : (s.port p).state = .align) :
    s.loseLock p lanes = s.loseInAlign p ((s.port p).goodLost lanes) := by
  unfold State.loseLock
  dsimp only
  rw [at_]
  rfl

theorem State.loseLock_fixed {lanes : BitVec 4} (at_ : (s.port p).state.name = .verify
    ∨ (∃ n, (s.port p).state = .held .align n) ∨ ∃ n, (s.port p).state = .held .verify n) :
    s.loseLock p lanes = s.loseFixed p ((s.port p).goodLost lanes) := by
  unfold State.loseLock
  dsimp only
  rcases at_ with verify | ⟨n, held⟩ | ⟨n, held⟩
  · cases state : (s.port p).state <;> rw [state] at verify <;> cases verify
    rfl
  · rw [held]; rfl
  · rw [held]; rfl

end

/-! ## During an alignment (R93, R125) -/

section
variable (pt : Port) (lost : Fin 4 → Bool)

theorem Port.noneGood_iff {pt : Port} : pt.noneGood = true ↔ ∀ l, pt.good l = false := by simp [Port.noneGood, allLanes]

theorem Port.noneCollecting_iff {pt : Port} : pt.noneCollecting = true ↔ ∀ l, pt.collecting l = false := by
  simp [Port.noneCollecting, allLanes]

theorem Port.good_failLostLanes {pt : Port} {lost : Fin 4 → Bool} (good : ∀ l, lost l = true → pt.good l = true) (l : Fin 4) :
    (pt.failLostLanes lost).good l = (pt.good l && !lost l) := by
  rw [Port.good, Port.markFail_lane good, Port.good]
  cases lost l with
  | true => rw [if_pos rfl, Bool.not_true, Bool.and_false]; rfl
  | false => rw [if_neg Bool.false_ne_true, Bool.not_false, Bool.and_true]

/-- A lane as an alignment in progress drops it. -/
def DeskewLane.droppedIf (lost : Bool) (dl : DeskewLane) : DeskewLane := if lost then dl.dropLost else dl

theorem Port.dlane_dropped (l : Fin 4) :
    ((pt.dropLostLanes lost).failLostLanes lost).dlane l = (pt.dlane l).droppedIf (lost l) := by
  simp only [Port.dlane, Port.failLostLanes, Port.dropLostLanes, Port.modDeskew, Table.get_mapFin, DeskewLane.droppedIf]

variable {pt lost} (good : ∀ l, lost l = true → pt.good l = true)
include good

theorem Port.good_dropped (l : Fin 4) :
    ((pt.dropLostLanes lost).failLostLanes lost).good l = (pt.good l && !lost l) :=
  Port.good_failLostLanes (pt := pt.dropLostLanes lost) good l

theorem Port.collecting_dropped (l : Fin 4) :
    ((pt.dropLostLanes lost).failLostLanes lost).collecting l = (pt.collecting l && !lost l) := by
  rw [Port.collecting, Port.good_dropped good, Port.dlane_dropped, Port.collecting, DeskewLane.droppedIf]
  cases lost l with
  | true => rw [Bool.not_true, Bool.and_false, Bool.and_false, Bool.false_and]
  | false => rw [Bool.not_false, Bool.and_true, Bool.and_true, if_neg Bool.false_ne_true]

theorem Port.noneGood_dropped_iff : ((pt.dropLostLanes lost).failLostLanes lost).noneGood = true ↔
    ¬ ∃ l, pt.good l = true ∧ lost l = false := by
  rw [Port.noneGood_iff]
  simp only [Port.good_dropped good, Bool.and_eq_false_iff, Bool.not_eq_false', not_exists, not_and]
  refine forall_congr' fun l => ?_
  cases pt.good l <;> cases lost l <;> simp

theorem Port.noneCollecting_dropped_iff : ((pt.dropLostLanes lost).failLostLanes lost).noneCollecting = true ↔
    ∀ l, pt.collecting l = true → lost l = true := by
  rw [Port.noneCollecting_iff]
  refine forall_congr' fun l => ?_
  rw [Port.collecting_dropped good]
  cases pt.collecting l <;> cases lost l <;> simp

theorem Port.dropped_eq : (pt.dropLostLanes lost).failLostLanes lost =
    { pt with
      lanes := pt.lanes.mapFin fun l ln => if lost l then { ln with state := .failed .noLock } else ln
      deskew := { pt.deskew with lanes := pt.deskew.lanes.mapFin fun l dl => dl.droppedIf (lost l) } } :=
  Port.failLostLanes_eq (pt := pt.dropLostLanes lost) good

end

section
variable {s : State} {p : Fin 32} {lost : Fin 4 → Bool}

/-- The lanes lost are gone from the alignment. -/
abbrev State.dropping (s : State) (p : Fin 32) (lost : Fin 4 → Bool) : State :=
  s.modPort p fun pt => (pt.dropLostLanes lost).failLostLanes lost

theorem State.port_dropping : (s.dropping p lost).port p = ((s.port p).dropLostLanes lost).failLostLanes lost :=
  State.port_modPort_self ..

theorem State.phase_dropping : ((s.dropping p lost).port p).deskew.phase = (s.port p).deskew.phase := by
  rw [State.port_dropping]; rfl

theorem State.loseInAlign_wait (phase : (s.port p).deskew.phase = .markerWait) : s.loseInAlign p lost =
    if ((s.dropping p lost).port p).noneGood then (s.dropping p lost).noMarkers p else (s.dropping p lost).checkSeen p := by
  have at_ := (State.phase_dropping (s := s) (p := p) (lost := lost)).trans phase
  unfold State.loseInAlign
  dsimp only
  rw [at_]

theorem State.loseInAlign_collecting (phase : (s.port p).deskew.phase = .collecting) : s.loseInAlign p lost =
    if ((s.dropping p lost).port p).noneCollecting then (s.dropping p lost).noMarkers p
    else (s.dropping p lost).modPort p (Port.replaceReference lost) := by
  have at_ := (State.phase_dropping (s := s) (p := p) (lost := lost)).trans phase
  unfold State.loseInAlign
  dsimp only
  rw [at_]

theorem State.checkSeen_unseen {l : Fin 4} (good : (s.port p).good l = true) (unseen : ((s.port p).dlane l).seen = false) :
    s.checkSeen p = s := by
  refine if_neg ?_
  rintro ⟨-, all, -⟩
  have := List.all_eq_true.mp all l (List.mem_finRange l)
  simp [good, unseen] at this

/-- A dropped lane changes its lane and its alignment items alone. -/
theorem State.event_dropping (settled : s.settled) (good : ∀ l, lost l = true → (s.port p).good l = true) :
    s.event (s.dropping p lost) = s.modPort p fun pt => { pt with
      lanes := pt.lanes.mapFin fun l ln => if lost l then { ln with state := .failed .noLock } else ln
      deskew := { pt.deskew with lanes := pt.deskew.lanes.mapFin fun l dl => dl.droppedIf (lost l) } } := by
  have shows_ : (s.port p).Shows (((s.port p).dropLostLanes lost).failLostLanes lost) := by
    rw [Port.dropped_eq good]; exact ⟨rfl, rfl, rfl, rfl, rfl, rfl, rfl, rfl⟩
  have tx : (((s.port p).dropLostLanes lost).failLostLanes lost).tx = (s.port p).tx := by rw [Port.dropped_eq good]
  exact (State.event_private_settled settled shows_ (by rw [tx]; exact settled.1 p)).trans
    (State.modPort_congr (Port.dropped_eq good))

theorem State.fails_dropping : s.Fails (s.dropping p lost) p := .modPort ⟨Iff.rfl, rfl, rfl, rfl, rfl⟩

end

end Sys2Proof.Machine

/-! SUPPORT. A lost reference lane and a realignment (R125, R133). -/

namespace Sys2Proof.Machine

section
variable {pt : Port} {lost : Fin 4 → Bool}

/-- The lowest collecting lane takes the role of a lost reference, and its collection starts afresh (R125). -/
theorem Port.replaceReference_of_lost {r : Fin 4} (reference : pt.deskew.reference = some r) (gone : lost r = true) :
    ∃ sequence, pt.replaceReference lost = { pt with deskew := { pt.deskew with
      reference := pt.lowestCollecting
      phase := .collecting
      firstSequence := sequence
      waitTimer := .stopped
      closeTimer := .stopped
      lanes := pt.deskew.lanes.mapFin fun l dl => if pt.collecting l then { dl with stamps := .replicate 4 none } else dl } } := by
  simp only [Port.replaceReference, reference, gone, if_true]
  exact ⟨_, rfl⟩

theorem Port.replaceReference_of_kept (kept : ∀ r, pt.deskew.reference = some r → lost r = false) :
    pt.replaceReference lost = pt := by
  unfold Port.replaceReference
  split
  · next r reference => rw [kept r reference, if_neg Bool.false_ne_true]
  · rfl

/-- A realignment over the lanes that are left (R133). -/
theorem Port.realign_eq (pr : Params) : pt.realign pr lost =
    { (pt.failLostLanes lost).abandonBurst with
      state := .align
      stageTimer := armMs pr.alignTimeout
      ready := false
      deskew := { Deskew.reset with
        stampCounter := pt.deskew.stampCounter
        lanes := .ofFn fun l => { DeskewLane.reset with status := if lost l then .noLock else .notAligned }
        phase := .markerWait
        waitTimer := .running 13104 } } := rfl

theorem Port.dlane_realign (pr : Params) (l : Fin 4) : (pt.realign pr lost).dlane l =
    { DeskewLane.reset with status := if lost l then .noLock else .notAligned } := by
  rw [Port.realign_eq, Port.dlane, Table.get_ofFn]

theorem Port.good_realign (pr : Params) (good : ∀ l, lost l = true → pt.good l = true) (l : Fin 4) :
    (pt.realign pr lost).good l = (pt.good l && !lost l) := Port.good_failLostLanes good l

end

section
variable {s : State} {p : Fin 32} {lost : Fin 4 → Bool}

/-- An alignment has no verdict due, and its neighbor record is no other than before. -/
theorem State.Alone.of_align {f : Port → Port} (at_ : (f (s.port p)).state = .align)
    (neighbor : (f (s.port p)).neighbor = (s.port p).neighbor) : s.Alone (s.modPort p f) p := by
  refine .modPort ?_ ?_
  · rw [State.currentPeer, State.currentPeer, State.port_modPort_self, neighbor]
  · rw [State.verdictDue, State.port_modPort_self, at_]; exact Bool.and_false _

theorem State.loseFixed_kept {l : Fin 4} (gone : lost l = true) (kept : (s.port p).keptLane l = true) :
    s.loseFixed p lost = s.realign p lost := by
  have any_ : (allLanes.any fun l => lost l && (s.port p).keptLane l) = true :=
    List.any_eq_true.mpr ⟨l, List.mem_finRange l, by rw [gone, kept]; rfl⟩
  exact if_pos any_

theorem State.loseFixed_spare (spare : ¬ ∃ l : Fin 4, lost l = true ∧ (s.port p).keptLane l = true) :
    s.loseFixed p lost = s.modPort p fun pt => (pt.markLostLanes lost).failLostLanes lost := by
  refine if_neg fun any_ => ?_
  obtain ⟨l, -, both⟩ := List.any_eq_true.mp any_
  exact spare ⟨l, Bool.and_eq_true_iff.mp both⟩

theorem State.realign_left (good : ∀ l, lost l = true → (s.port p).good l = true)
    (left_ : ∃ l, (s.port p).good l = true ∧ lost l = false) :
    s.realign p lost = s.modPort p (Port.realign s.params lost) := by
  obtain ⟨l, stays, kept⟩ := left_
  have some_ : ((s.modPort p (Port.realign s.params lost)).port p).noneGood ≠ true := fun none_ => by
    have := Port.noneGood_iff.mp none_ l
    rw [State.port_modPort_self, Port.good_realign _ good, stays, kept] at this
    cases this
  exact if_neg some_

theorem State.realign_none (good : ∀ l, lost l = true → (s.port p).good l = true)
    (none_ : ¬ ∃ l, (s.port p).good l = true ∧ lost l = false) :
    s.realign p lost = (s.modPort p (Port.realign s.params lost)).fail p .noLanes 3 none := by
  have all : ((s.modPort p (Port.realign s.params lost)).port p).noneGood = true := Port.noneGood_iff.mpr fun l => by
    rw [State.port_modPort_self, Port.good_realign _ good]
    cases goodL : (s.port p).good l with
    | false => rfl
    | true =>
      cases gone : lost l with
      | true => rfl
      | false => exact absurd ⟨l, goodL, gone⟩ none_
  exact if_pos all

theorem State.fails_realign (other : (s.port p).state ≠ .active) : s.Fails (s.modPort p (Port.realign s.params lost)) p :=
  .modPort ⟨⟨fun at_ => PortState.noConfusion at_, fun at_ => absurd at_ other⟩, rfl, rfl, rfl, rfl⟩

end

/-- A lane of LANE_LOCK that may be lost. -/
theorem Lane.lost_eq (pr : Params) (hit : Bool) (ln : Lane) : (if hit then ln.loseLockInLaneLock pr else ln) =
    if hit = true ∧ (ln.state = .searching ∨ ln.state.isGood = true) then ln.relocked pr else ln := by
  cases hit with
  | false => rw [if_neg Bool.false_ne_true, if_neg fun h => absurd h.1 Bool.false_ne_true]
  | true =>
    cases locked : ln.state.locked with
    | true => rw [if_pos rfl, if_pos ⟨rfl, LaneState.locked_iff.mp locked⟩, Lane.loseLockInLaneLock_locked locked]
    | false =>
      rw [if_pos rfl, if_neg fun h => absurd ((LaneState.locked_iff.mpr h.2).symm.trans locked) (by decide),
        Lane.loseLockInLaneLock_other locked]

theorem Lane.isOpen_lost {pr : Params} {hit : Bool} {ln : Lane} (open_ : ln.state = .idle ∨ ln.state = .locking
    ∨ ln.state = .searching ∧ ¬ (hit = true ∧ (ln.state = .searching ∨ ln.state.isGood = true))
    ∨ (hit = true ∧ (ln.state = .searching ∨ ln.state.isGood = true)) ∧ ln.lockLosses < 2) :
    (if hit then ln.loseLockInLaneLock pr else ln).state.isOpen = true := by
  rw [Lane.lost_eq]
  rcases open_ with idle | locking | ⟨searching, stays⟩ | ⟨locks, few⟩
  · rw [idle, if_neg (by simp [LaneState.isGood]), idle]; rfl
  · rw [locking, if_neg (by simp [LaneState.isGood]), locking]; rfl
  · rw [if_neg stays, searching]; rfl
  · rw [if_pos locks, Lane.relocked]; dsimp only; rw [if_pos few]; rfl

section
variable {s : State} {p : Fin 32} {lost : Fin 4 → Bool} (good : ∀ l, lost l = true → (s.port p).good l = true)
include good

/-- No lane is left to align (R119, R125). -/
theorem State.loseInAlign_none
    (none_ : (s.port p).deskew.phase = .markerWait ∧ (¬ ∃ l, (s.port p).good l = true ∧ lost l = false)
      ∨ (s.port p).deskew.phase = .collecting ∧ ∀ l, (s.port p).collecting l = true → lost l = true) :
    s.loseInAlign p lost = (s.dropping p lost).fail p .noLanes 3 none := by
  rcases none_ with ⟨phase, none_⟩ | ⟨phase, none_⟩
  · rw [State.loseInAlign_wait phase, State.port_dropping, if_pos ((Port.noneGood_dropped_iff good).mpr none_)]
    rfl
  · rw [State.loseInAlign_collecting phase, State.port_dropping,
      if_pos ((Port.noneCollecting_dropped_iff good).mpr none_)]
    rfl

/-- The alignment goes on without the lanes lost. -/
theorem State.loseInAlign_on
    (on : (s.port p).deskew.phase = .markerWait
        ∧ (∃ l, (s.port p).good l = true ∧ lost l = false ∧ ((s.port p).dlane l).seen = false)
      ∨ (s.port p).deskew.phase = .collecting ∧ (∃ l, (s.port p).collecting l = true ∧ lost l = false)
        ∧ ∀ r, (s.port p).deskew.reference = some r → lost r = false) :
    s.loseInAlign p lost = s.dropping p lost := by
  rcases on with ⟨phase, l, goodL, stays, unseen⟩ | ⟨phase, ⟨l, collects, stays⟩, reference⟩
  · rw [State.loseInAlign_wait phase, State.port_dropping,
      if_neg (mt (Port.noneGood_dropped_iff good).mp (not_not.mpr ⟨l, goodL, stays⟩))]
    refine State.checkSeen_unseen (l := l) ?_ ?_
    · rw [State.port_dropping, Port.good_dropped good, goodL, stays]; rfl
    · rw [State.port_dropping, Port.dlane_dropped, DeskewLane.droppedIf, if_neg (ne_true_of_eq_false stays)]
      exact unseen
  · rw [State.loseInAlign_collecting phase, State.port_dropping, if_neg fun all =>
      absurd ((Port.noneCollecting_dropped_iff good).mp all l collects) (ne_true_of_eq_false stays)]
    exact State.modPort_id (by rw [State.port_dropping]; exact Port.replaceReference_of_kept reference)

/-- A lane is left to take the role of the reference that may be lost. -/
theorem State.loseInAlign_reference (phase : (s.port p).deskew.phase = .collecting) {n : Fin 4}
    (collects : (s.port p).collecting n = true) (stays : lost n = false) : s.loseInAlign p lost =
      s.modPort p fun pt => ((pt.dropLostLanes lost).failLostLanes lost).replaceReference lost := by
  rw [State.loseInAlign_collecting phase, State.port_dropping, if_neg fun all =>
    absurd ((Port.noneCollecting_dropped_iff good).mp all n collects) (ne_true_of_eq_false stays)]
  exact State.modPort_modPort ..

/-- Of the collecting lanes that are left the lowest comes first. -/
theorem Port.lowestCollecting_dropped {n : Fin 4} (collects : (s.port p).collecting n = true) (stays : lost n = false)
    (lowest : ∀ l : Fin 4, l < n → (s.port p).collecting l = true → lost l = true) :
    (((s.port p).dropLostLanes lost).failLostLanes lost).lowestCollecting = some n :=
  find?_finRange_eq_some (by rw [Port.collecting_dropped good, collects, stays]; rfl) fun l below => by
    rw [Port.collecting_dropped good]
    cases collecting : (s.port p).collecting l with
    | false => rfl
    | true => rw [lowest l below collecting]; rfl

/-- The stamps of the collecting lanes that are left are missing; a lane lost is dropped. -/
theorem Port.dlane_replaced (l : Fin 4) :
    (if (((s.port p).dropLostLanes lost).failLostLanes lost).collecting l then
      { ((s.port p).dlane l).droppedIf (lost l) with stamps := .replicate 4 none }
    else ((s.port p).dlane l).droppedIf (lost l)) =
      if (s.port p).collecting l = true ∧ lost l = false then { (s.port p).dlane l with stamps := .replicate 4 none }
      else ((s.port p).dlane l).droppedIf (lost l) := by
  rw [Port.collecting_dropped good]
  cases collecting : (s.port p).collecting l with
  | false => rw [if_neg (by simp), if_neg (by simp)]
  | true =>
    cases gone : lost l with
    | true => rw [if_neg (by simp), if_neg (by simp)]
    | false => rw [if_pos (by simp), if_pos ⟨rfl, rfl⟩]; rfl

end

/-- Settles O49: the lanes of a mask lose lock by the state of their port. In LANE_LOCK each is relocked or fails
(`Lane.lost_eq`); in an alignment it is dropped (`State.loseInAlign_none`, `_on`, `_reference`); after one a kept lane realigns
the port. -/
theorem lossOfLockBeforeActive : Obligations.LossOfLockBeforeActive := by
  intro s p lanes settled before lost leftGood failedLanes dropped
  have good : ∀ l, lost l = true → before.good l = true := Port.good_of_goodLost
  have answer : ∀ u, s.loseLock p lanes = u → exec (.lossOfLock p lanes) s = .next (s.event u) := fun u loses =>
    congrArg (fun u => Host.Outcome.next (s.event u)) loses
  refine ⟨fun at_ => ?laneLock, fun at_ => ⟨fun none_ => ?noLanes, fun on => ?goesOn, ?reference⟩, fun at_ => ?fixed⟩
  case laneLock =>
    intro relocks someOpen
    obtain ⟨l, open_⟩ := someOpen
    obtain ⟨queue, taken, mem⟩ := State.event_loseInLaneLock settled (lost := fun l => lanes.getLsbD l.val)
      ⟨l, Lane.isOpen_lost open_⟩
    rw [answer _ (State.loseLock_laneLock at_), taken]
    refine Outcome.exists_next ⟨?_, fun l => ?_, fun r => ?_, fun q other => ?_, ?_⟩
    · rw [State.port_withMonitor, State.port_modPort_self]; exact at_
    · rw [State.port_withMonitor, State.port_modPort_self, Port.lane, Table.get_mapFin]
      exact Lane.lost_eq ..
    · refine (mem r).trans (and_congr_right fun _ => ?_)
      simp only [not_exists, not_and, Fin.ext_iff, ne_eq]
      exact forall_congr' fun l => ⟨fun h named hit searching => h hit searching named,
        fun h hit searching named => h named hit searching⟩
    · rw [State.port_withMonitor]
      exact (State.AtPort.modPort ..).others q other
    · exact ⟨rfl, rfl, rfl, rfl, rfl, rfl, rfl, rfl, rfl, rfl, rfl⟩
  case noLanes =>
    rw [answer _ ((State.loseLock_align at_).trans (State.loseInAlign_none good none_))]
    exact Outcome.exists_next (State.failed_event settled State.fails_dropping)
  case goesOn =>
    rw [answer _ ((State.loseLock_align at_).trans (State.loseInAlign_on good on))]
    exact congrArg Host.Outcome.next (State.event_dropping settled good)
  case reference =>
    intro r n phase reference gone collects stays lowest
    obtain ⟨sequence, replaced⟩ := Port.replaceReference_of_lost (pt := (before.dropLostLanes lost).failLostLanes lost)
      (r := r) reference gone
    have alone : s.Alone (s.modPort p fun pt => ((pt.dropLostLanes lost).failLostLanes lost).replaceReference lost) p :=
      .of_align (by rw [replaced]; exact at_) (by rw [replaced]; rfl)
    have others := alone.others settled
    have device := State.sameDevice_event alone.only rfl
    obtain ⟨pending, tx, own⟩ := alone.own_fields settled
    rw [State.port_modPort_self, replaced] at own
    have loses : s.loseLock p lanes = s.modPort p fun pt =>
        ((pt.dropLostLanes lost).failLostLanes lost).replaceReference lost :=
      (State.loseLock_align at_).trans (State.loseInAlign_reference good phase collects stays)
    rw [answer _ loses]
    refine Outcome.exists_next ?_
    dsimp only [failedLanes]
    have laneIs : ∀ l, ((before.dropLostLanes lost).failLostLanes lost).lanes.get l =
        if lost l then { before.lane l with state := .failed .noLock } else before.lane l :=
      Port.markFail_lane (pt := before.dropLostLanes lost) good
    rw [own]
    dsimp only [Port.lane, Port.dlane]
    refine ⟨at_, laneIs, rfl,
      Port.lowestCollecting_dropped good collects stays lowest, rfl, rfl, fun l => ?_, others, device⟩
    refine Eq.trans ?_ (Port.dlane_replaced good l)
    rw [Table.get_mapFin, ← Port.dlane_dropped before lost l]
    rfl
  case fixed =>
    intro keptLost
    have fixed := State.loseLock_fixed (lanes := lanes) at_
    have notActive : before.state ≠ .active := fun active => by
      rcases at_ with verify | ⟨n, held⟩ | ⟨n, held⟩
      · rw [active] at verify; cases verify
      · rw [active] at held; cases held
      · rw [active] at held; cases held
    refine ⟨fun ⟨l, gone, kept⟩ left_ => ?realigns, fun ⟨l, gone, kept⟩ none_ => ?fails, fun spare => ?spare⟩
    case realigns =>
      have alone : s.Alone (s.modPort p (Port.realign s.params lost)) p := .of_align rfl rfl
      have others := alone.others settled
      have device := State.sameDevice_event alone.only rfl
      obtain ⟨pending, tx, own⟩ := alone.own_fields settled
      rw [State.port_modPort_self] at own
      rw [answer _ (fixed.trans ((State.loseFixed_kept gone kept).trans (State.realign_left good left_)))]
      refine Outcome.exists_next ?_
      dsimp only [failedLanes]
      have laneIs : ∀ l, (before.realign s.params lost).lanes.get l =
          if lost l then { before.lane l with state := .failed .noLock } else before.lane l := Port.markFail_lane good
      have dlaneIs : ∀ l, (before.realign s.params lost).deskew.lanes.get l =
          { DeskewLane.reset with status := if lost l then .noLock else .notAligned } := Port.dlane_realign s.params
      rw [own]
      dsimp only [Port.lane, Port.dlane]
      exact ⟨rfl, laneIs, rfl, rfl, rfl, rfl, rfl, rfl, dlaneIs, rfl, rfl, rfl, rfl, rfl, others, device⟩
    case fails =>
      rw [answer _ (fixed.trans ((State.loseFixed_kept gone kept).trans (State.realign_none good none_)))]
      exact Outcome.exists_next (State.failed_event settled (State.fails_realign notActive))
    case spare =>
      rw [answer _ (fixed.trans (State.loseFixed_spare spare))]
      exact congrArg Host.Outcome.next (State.event_spare settled good)

end Sys2Proof.Machine

/-! SUPPORT. Markers of the wait and its end (R95, R118 to R121). -/

namespace Sys2Proof.Machine

/-! ## One marker at a port -/

section
variable {pt : Port} {l : Fin 4} {logical : Fin 4} {n : Fin 16} {stamp : BitVec 16}

theorem Port.arrivesInverted_true (pt : Port) (l : Fin 4) : pt.arrivesInverted l (pt.lane l).inversion = false := by
  rw [Port.arrivesInverted_eq]; simp

theorem Port.arrivesInverted_inverted (pt : Port) (l : Fin 4) : pt.arrivesInverted l (!(pt.lane l).inversion) = true := by
  rw [Port.arrivesInverted_eq]; simp

/-- The marker is noted as decoded. -/
def Port.noted (pt : Port) (l : Fin 4) (n : Fin 16) : Port :=
  { pt with deskew := { pt.deskew with decoded := noteDecoded l n pt.deskew.decoded } }

/-- In the marker wait a marker counts on a GOOD lane (R119). -/
theorem Port.takeMarker_wait {inverted : Bool} (phase : pt.deskew.phase = .markerWait) (good : pt.good l = true) :
    pt.takeMarker l inverted logical n stamp =
      if inverted then (pt.noted l n).reportInverted l else (pt.noted l n).modDlane l (DeskewLane.see logical) := by
  unfold Port.takeMarker
  rw [phase]
  exact if_pos good

/-- In a collection a marker counts on a collecting lane (R122). -/
theorem Port.takeMarker_collecting {inverted : Bool} (phase : pt.deskew.phase = .collecting) (collects : pt.collecting l = true) :
    pt.takeMarker l inverted logical n stamp =
      if inverted then (pt.noted l n).reportInverted l else (pt.noted l n).stampMarker l logical n stamp := by
  unfold Port.takeMarker
  rw [phase]
  exact if_pos collects

theorem Port.takeMarker_ignored {inverted : Bool} (phase : pt.deskew.phase = .collecting) (not : pt.collecting l = false) :
    pt.takeMarker l inverted logical n stamp = pt := by
  unfold Port.takeMarker
  rw [phase]
  exact if_neg (ne_true_of_eq_false not)

theorem Port.takeMarker_seen (phase : pt.deskew.phase = .markerWait) (good : pt.good l = true) :
    pt.takeMarker l false logical n stamp = { pt with deskew := { pt.deskew with
      decoded := noteDecoded l n pt.deskew.decoded
      lanes := pt.deskew.lanes.modify l (DeskewLane.see logical) } } := Port.takeMarker_wait phase good

/-- A report of an inversion: the inversion toggles, and the first of an attempt is counted. -/
theorem Port.reportInverted_good (good : pt.good l = true) : pt.reportInverted l =
    { pt with
      lanes := pt.lanes.modify l fun ln => { ln with inversion := !ln.inversion, polarityCounted := true }
      counters := if (pt.lane l).polarityCounted then pt.counters
        else { pt.counters with polarityCorrections := bump pt.counters.polarityCorrections } } := by
  cases counted : (pt.lane l).polarityCounted with
  | true => rw [Port.reportInverted, if_pos good]; dsimp only; rw [counted]; rfl
  | false => rw [Port.reportInverted, if_pos good]; dsimp only; rw [counted]; rfl

/-- What a marker shows to no other unit. -/
theorem Port.shows_reportInverted (good : pt.good l = true) : pt.Shows ((pt.noted l n).reportInverted l) := by
  rw [Port.reportInverted_good (pt := pt.noted l n) good]
  exact ⟨rfl, rfl, rfl, rfl, rfl, rfl, rfl, rfl⟩

end

/-! ## The event of a marker -/

section
variable {s : State} {p : Fin 32} {l : Fin 4} {onLine : Bool} {logical : Fin 4} {n : Fin 16} {age : BitVec 16}

theorem State.exec_markerDecoded_elsewhere (other : (s.port p).state ≠ .align) :
    exec (.markerDecoded p l onLine logical n age) s = .next s := if_neg other

theorem State.exec_markerDecoded (at_ : (s.port p).state = .align) {inverted : Bool}
    (sense : (s.port p).arrivesInverted l onLine = inverted) : exec (.markerDecoded p l onLine logical n age) s =
      .next (s.event ((s.modPort p
        (Port.takeMarker l inverted logical n ((s.port p).deskew.stampCounter - age))).checkSeen p)) := by
  subst sense
  exact if_pos at_

theorem State.checkSeen_collecting (phase : (s.port p).deskew.phase ≠ .markerWait) : s.checkSeen p = s :=
  if_neg fun all => phase all.1

/-- A marker that shows nothing to other units and does not end the wait has its own effect alone. -/
theorem State.exec_markerDecoded_private (settled : s.settled) (at_ : (s.port p).state = .align) {inverted : Bool}
    (sense : (s.port p).arrivesInverted l onLine = inverted) {f : Port → Port}
    (taken : (s.port p).takeMarker l inverted logical n ((s.port p).deskew.stampCounter - age) = f (s.port p))
    (shows_ : (s.port p).Shows (f (s.port p))) (tx : (f (s.port p)).tx = (s.port p).tx)
    (stays : (s.modPort p f).checkSeen p = s.modPort p f) :
    exec (.markerDecoded p l onLine logical n age) s = .next (s.modPort p f) := by
  rw [State.exec_markerDecoded at_ sense, State.modPort_congr taken, stays]
  exact congrArg Host.Outcome.next (State.event_private_settled settled shows_ (by rw [tx]; exact settled.1 p))

end

/-! ## The end of the wait -/

/-- The wait ends with the lowest collecting lane as reference (R119, R121). -/
theorem Port.endMarkerWait_eq (pt : Port) : pt.endMarkerWait = { pt with deskew := { pt.deskew with
    reference := pt.lowestCollecting
    phase := .collecting
    collection := 1
    firstSequence := pt.nextFirstSequence
    waitTimer := .stopped
    closeTimer := .stopped
    lanes := pt.deskew.lanes.mapFin fun l dl => if pt.collecting l then { dl with stamps := .replicate 4 none } else dl } } :=
  rfl

theorem Port.collecting_dropUnseen (pt : Port) (l : Fin 4) : pt.dropUnseen.collecting l = pt.collecting l := by
  unfold Port.collecting
  have seen : (pt.dropUnseen.dlane l).seen = (pt.dlane l).seen := by
    simp only [Port.dlane, Port.dropUnseen, Port.modDeskew, Table.get_mapFin]
    split <;> rfl
  rw [seen]
  rfl

theorem Port.dlane_dropUnseen (pt : Port) (l : Fin 4) : pt.dropUnseen.dlane l =
    if pt.good l && !(pt.dlane l).seen then { pt.dlane l with status := .noMarker } else pt.dlane l := by
  simp only [Port.dlane, Port.dropUnseen, Port.modDeskew, Table.get_mapFin]
  rfl

/-- The end of the wait keeps the port in ALIGN and touches neither its verdict nor its lanes. -/
theorem Port.kept_endMarkerWait (pt : Port) : pt.dropUnseen.endMarkerWait.state = pt.state
    ∧ pt.dropUnseen.endMarkerWait.stageTimer = pt.stageTimer ∧ pt.dropUnseen.endMarkerWait.lanes = pt.lanes
    ∧ pt.dropUnseen.endMarkerWait.neighbor = pt.neighbor ∧ pt.dropUnseen.endMarkerWait.burst = pt.burst := ⟨rfl, rfl, rfl, rfl, rfl⟩

/-- The stamps are emptied on the collecting lanes alone. -/
theorem Port.dlane_endMarkerWait (pt : Port) (l : Fin 4) : pt.dropUnseen.endMarkerWait.dlane l =
    if pt.collecting l then { pt.dropUnseen.dlane l with stamps := .replicate 4 none } else pt.dropUnseen.dlane l := by
  rw [Port.dlane, Port.endMarkerWait_eq, Table.get_mapFin, Port.collecting_dropUnseen]
  rfl

/-- A GOOD lane that saw no marker gets NO_MARKER. -/
theorem Port.status_endMarkerWait (pt : Port) (l : Fin 4) : (pt.dropUnseen.endMarkerWait.dlane l).status =
    if pt.good l ∧ (pt.dlane l).seen = false then .noMarker else (pt.dlane l).status := by
  have same : (pt.dropUnseen.endMarkerWait.dlane l).status = (pt.dropUnseen.dlane l).status := by
    rw [Port.dlane_endMarkerWait]
    split <;> rfl
  rw [same, Port.dlane_dropUnseen]
  cases good : pt.good l <;> cases seen : (pt.dlane l).seen <;> rfl

theorem Port.collected_endMarkerWait {pt : Port} {l : Fin 4} (collects : pt.collecting l = true) :
    (pt.dropUnseen.endMarkerWait.dlane l).stamps = .replicate 4 none
      ∧ (pt.dropUnseen.endMarkerWait.dlane l).logical = (pt.dlane l).logical := by
  rw [Port.dlane_endMarkerWait, if_pos collects, Port.dlane_dropUnseen]
  refine ⟨rfl, ?_⟩
  dsimp only
  split <;> rfl

section
variable {s : State} {p : Fin 32}

theorem State.exec_markerWaitExpiry_not (not : (s.port p).state ≠ .align ∨ (s.port p).deskew.phase ≠ .markerWait
    ∨ (s.port p).deskew.waitTimer.isRunning = false) : exec (.markerWaitExpiry p) s = .next s := by
  refine if_neg ?_
  rintro ⟨at_, phase, running⟩
  rcases not with other | other | stopped
  · exact other at_
  · exact other phase
  · rw [running] at stopped; cases stopped

theorem State.endWait_none (none_ : ∀ l, (s.port p).collecting l = false) :
    s.endWait p = (s.modPort p Port.dropUnseen).fail p .noLanes 3 none := by
  have all : ((s.modPort p Port.dropUnseen).port p).noneCollecting = true := Port.noneCollecting_iff.mpr fun l => by
    rw [State.port_modPort_self, Port.collecting_dropUnseen, none_]
  exact if_pos all

theorem State.endWait_some {r : Fin 4} (collects : (s.port p).collecting r = true) :
    s.endWait p = s.modPort p fun pt => pt.dropUnseen.endMarkerWait := by
  have some_ : ((s.modPort p Port.dropUnseen).port p).noneCollecting ≠ true := fun none_ => by
    have := Port.noneCollecting_iff.mp none_ r
    rw [State.port_modPort_self, Port.collecting_dropUnseen, collects] at this
    cases this
  exact (if_neg some_).trans (State.modPort_modPort ..)

end

/-- Settles O52: a marker of the wait touches its port alone; the wait's end drops the unseen lanes and starts collection 1, or is
NO_LANES. -/
theorem markersAreSeenOrTheLaneIsDropped : Obligations.MarkersAreSeenOrTheLaneIsDropped := by
  intro s p settled d
  refine ⟨fun l onLine logical q age => ⟨State.exec_markerDecoded_elsewhere, fun at_ phase good another => ⟨?seen, ?inverted⟩⟩,
    State.exec_markerWaitExpiry_not, fun at_ phase running => ⟨fun none_ => ?none, fun r collects lowest => ?some⟩⟩
  case seen =>
    obtain ⟨m, other, goodM, unseen⟩ := another
    refine State.exec_markerDecoded_private settled at_ (Port.arrivesInverted_true ..)
      (Port.takeMarker_seen phase good) ⟨rfl, rfl, rfl, rfl, rfl, rfl, rfl, rfl⟩ rfl
      (State.checkSeen_unseen (l := m) ?_ ?_)
    · rw [State.port_modPort_self]; exact goodM
    · rw [State.port_modPort_self, Port.dlane, Table.get_modify_other _ _ other]; exact unseen
  case inverted =>
    obtain ⟨m, other, goodM, unseen⟩ := another
    have reported := Port.reportInverted_good (pt := (s.port p).noted l q) (l := l) good
    refine State.exec_markerDecoded_private settled at_ (Port.arrivesInverted_inverted ..)
      ((Port.takeMarker_wait phase good).trans reported) ⟨rfl, rfl, rfl, rfl, rfl, rfl, rfl, rfl⟩ rfl
      (State.checkSeen_unseen (l := m) ?_ ?_)
    · rw [State.port_modPort_self, Port.good, Port.lane]
      show ((((s.port p).noted l q).lanes.modify l _).get m).state.isGood = true
      rw [Table.get_modify_other _ _ other]
      exact goodM
    · rw [State.port_modPort_self]; exact unseen
  case none =>
    have taken : exec (.markerWaitExpiry p) s = .next (s.event (s.endWait p)) := if_pos ⟨at_, phase, running⟩
    rw [taken, State.endWait_none none_]
    exact Outcome.exists_next (State.failed_event settled (.modPort ⟨Iff.rfl, rfl, rfl, rfl, rfl⟩))
  case some =>
    have taken : exec (.markerWaitExpiry p) s = .next (s.event (s.endWait p)) := if_pos ⟨at_, phase, running⟩
    obtain ⟨state, stageTimer, lanes, neighbor, -⟩ := (s.port p).kept_endMarkerWait
    have alone : s.Alone (s.modPort p fun pt => pt.dropUnseen.endMarkerWait) p := .of_align (state.trans at_) neighbor
    have others := alone.others settled
    have device := State.sameDevice_event alone.only rfl
    have monitor := alone.monitor settled
    have reference : (s.port p).dropUnseen.lowestCollecting = some r :=
      find?_finRange_eq_some ((Port.collecting_dropUnseen ..).trans collects) fun l below =>
        (Port.collecting_dropUnseen ..).trans (lowest l below)
    obtain ⟨pending, tx, own⟩ := alone.own_fields settled
    rw [State.port_modPort_self] at own
    rw [taken, State.endWait_some collects]
    refine Outcome.exists_next ?_
    rw [own]
    exact ⟨state.trans at_, rfl, rfl, reference, rfl, Port.status_endMarkerWait _, fun l => Port.collected_endMarkerWait,
      stageTimer, lanes, others, device, monitor⟩

end Sys2Proof.Machine

/-! SUPPORT. The markers of a collection: where a stamp goes, where a collection starts, what makes a lane stable (R122 to
R124). -/

namespace Sys2Proof.Machine

/-! ## Positions, starts and stability -/

/-- The four numbers of a collection are the first and the three after it (R122). -/
theorem stampPosition_eq_some {first n : Fin 16} {k : Fin 4} :
    stampPosition first n = some k ↔ n = first + Fin.ofNat 16 k.val := by
  have sub : (n - first).val = (16 - first.val + n.val) % 16 := rfl
  have add : (first + Fin.ofNat 16 k.val).val = (first.val + k.val % 16) % 16 := rfl
  have bound := k.isLt
  rw [stampPosition, Fin.ext_iff, add]
  split
  · rw [Option.some_inj, Fin.ext_iff]
    dsimp only
    omega
  · refine iff_of_false nofun fun eq => ?_
    omega

/-- A collection starts after the last marker decoded on a lane that collects. -/
theorem Port.nextFirstSequence_eq {pt : Port} {before after : List (Fin 4 × Fin 16)} {l : Fin 4} {n : Fin 16}
    (list : pt.deskew.decoded = before ++ (l, n) :: after) (collects : pt.collecting l = true)
    (others : ∀ x ∈ before, pt.collecting x.1 = false) : pt.nextFirstSequence = some (n + 1) := by
  have none_ : before.find? (fun d => pt.collecting d.1) = none := List.find?_eq_none.mpr fun x mem => by
    rw [others x mem]
    decide
  rw [Port.nextFirstSequence, list, List.find?_append, none_, Option.none_or, List.find?_cons, collects]
  rfl

theorem spread_le_iff {l : List Int} {limit : Int} (bound : 0 ≤ limit) :
    spread l ≤ limit ↔ ∀ x ∈ l, ∀ y ∈ l, x - y ≤ limit := by
  cases l with
  | nil => simp [spread, bound]
  | cons a rest =>
    obtain ⟨largest, most⟩ := List.max?_eq_some_iff.mp (List.max?_cons' (x := a) (xs := rest))
    obtain ⟨smallest, least⟩ := List.min?_eq_some_iff.mp (List.min?_cons' (x := a) (xs := rest))
    refine ⟨fun within x hx y hy => ?_, fun within => within _ largest _ smallest⟩
    have := most x hx
    have := least y hy
    simp only [spread] at within
    omega

/-- The four differences of a lane are all present just when they make a list. -/
theorem DeskewLane.allDifferences_eq_some {dl : DeskewLane} {l : List Int} : dl.allDifferences = some l ↔
    (∀ k, ∃ x, dl.differences.get k = some x) ∧ l = (List.finRange 4).filterMap dl.differences.get := by
  rw [DeskewLane.allDifferences, show List.finRange 4 = [0, 1, 2, 3] from rfl]
  split
  · next a b c d at0 at1 at2 at3 =>
    simp [Fin.forall_fin_succ, at0, at1, at2, at3, eq_comm]
  · next missing =>
    refine iff_of_false nofun ?_
    rintro ⟨present, -⟩
    obtain ⟨a, at0⟩ := present 0
    obtain ⟨b, at1⟩ := present 1
    obtain ⟨c, at2⟩ := present 2
    obtain ⟨d, at3⟩ := present 3
    exact missing a b c d at0 at1 at2 at3

theorem DeskewLane.stable_iff {dl : DeskewLane} : dl.stable = true ↔ (∀ k : Fin 4, ∃ x, dl.differences.get k = some x)
    ∧ ∀ (j k : Fin 4) (x y : Int), dl.differences.get j = some x → dl.differences.get k = some y → x - y ≤ 4 := by
  have all : dl.stable = true ↔ ∃ l, dl.allDifferences = some l ∧ spread l ≤ 4 := by
    rw [DeskewLane.stable]
    cases dl.allDifferences <;> simp
  simp only [all, DeskewLane.allDifferences_eq_some, spread_le_iff (show (0 : Int) ≤ 4 by decide)]
  constructor
  · rintro ⟨l, ⟨present, rfl⟩, close⟩
    refine ⟨present, fun j k x y hx hy => close x ?_ y ?_⟩
    · exact List.mem_filterMap.mpr ⟨j, List.mem_finRange j, hx⟩
    · exact List.mem_filterMap.mpr ⟨k, List.mem_finRange k, hy⟩
  · rintro ⟨present, close⟩
    refine ⟨_, ⟨present, rfl⟩, fun x hx y hy => ?_⟩
    obtain ⟨j, -, atJ⟩ := List.mem_filterMap.mp hx
    obtain ⟨k, -, atK⟩ := List.mem_filterMap.mp hy
    exact close j k x y atJ atK

theorem Port.stable_iff {pt : Port} {l : Fin 4} :
    pt.stable l = true ↔ pt.deskew.reference = some l ∨ (pt.dlane l).stable = true := by
  rw [Port.stable, Bool.or_eq_true, decide_eq_true_iff]

/-! ## The last marker of the wait -/

section
variable {pt : Port} {l : Fin 4} {logical : Fin 4} {n : Fin 16}

/-- A GOOD lane has seen its first marker of the wait. -/
def Port.sees (l logical : Fin 4) (n : Fin 16) (pt : Port) : Port :=
  { pt with deskew := { pt.deskew with
    decoded := noteDecoded l n pt.deskew.decoded
    lanes := pt.deskew.lanes.modify l (DeskewLane.see logical) } }

theorem Port.dlane_sees (unseen : (pt.dlane l).seen = false) (o : Fin 4) : (pt.sees l logical n).dlane o =
    if o = l then { pt.dlane o with seen := true, logical := some logical } else pt.dlane o := by
  rw [Port.dlane, Port.sees]
  split
  · next eq =>
    subst eq
    rw [Table.get_modify_self]
    exact if_neg (ne_true_of_eq_false unseen)
  · next other => exact Table.get_modify_other _ _ other

/-- With the last GOOD lane's marker every GOOD lane collects. -/
theorem Port.collecting_sees (unseen : (pt.dlane l).seen = false)
    (others : ∀ o : Fin 4, o ≠ l → pt.good o = true → (pt.dlane o).seen = true) (o : Fin 4) :
    (pt.sees l logical n).collecting o = pt.good o := by
  rw [Port.collecting, Port.dlane_sees unseen]
  show (pt.good o && _) = pt.good o
  split
  · exact Bool.and_true _
  · next other =>
    cases good : pt.good o with
    | false => rfl
    | true => exact others o other good

/-- Collection 1 starts over the GOOD lanes, after this marker (R121, R122). -/
theorem Port.deskew_sees_endMarkerWait {r : Fin 4} (unseen : (pt.dlane l).seen = false) (good : pt.good l = true)
    (others : ∀ o : Fin 4, o ≠ l → pt.good o = true → (pt.dlane o).seen = true) (goodR : pt.good r = true)
    (lowest : ∀ o : Fin 4, o < r → pt.good o = false) : (pt.sees l logical n).endMarkerWait.deskew = { pt.deskew with
      phase := .collecting
      collection := 1
      reference := some r
      firstSequence := some (n + 1)
      decoded := noteDecoded l n pt.deskew.decoded
      waitTimer := .stopped
      closeTimer := .stopped
      lanes := .ofFn fun o =>
        let x := if o = l then { pt.deskew.lanes.get o with seen := true, logical := some logical } else pt.deskew.lanes.get o
        if pt.good o then { x with stamps := .replicate 4 none } else x } := by
  have collects := Port.collecting_sees (logical := logical) (n := n) unseen others
  have reference : (pt.sees l logical n).lowestCollecting = some r :=
    find?_finRange_eq_some ((collects r).trans goodR) fun o below => (collects o).trans (lowest o below)
  have first : (pt.sees l logical n).nextFirstSequence = some (n + 1) :=
    Port.nextFirstSequence_eq (before := []) rfl ((collects l).trans good) nofun
  have lanes : ((pt.sees l logical n).deskew.lanes.mapFin fun o dl =>
      if (pt.sees l logical n).collecting o then { dl with stamps := .replicate 4 none } else dl) = .ofFn fun o =>
        let x := if o = l then { pt.deskew.lanes.get o with seen := true, logical := some logical } else pt.deskew.lanes.get o
        if pt.good o then { x with stamps := .replicate 4 none } else x := Table.ext_get fun o => by
    rw [Table.get_mapFin, Table.get_ofFn, collects]
    rw [show (pt.sees l logical n).deskew.lanes.get o = _ from Port.dlane_sees unseen o]
    rfl
  rw [Port.endMarkerWait_eq, reference, first, lanes]
  rfl

theorem Port.kept_sees_endMarkerWait : (pt.sees l logical n).endMarkerWait.state = pt.state
    ∧ (pt.sees l logical n).endMarkerWait.lanes = pt.lanes ∧ (pt.sees l logical n).endMarkerWait.neighbor = pt.neighbor :=
  ⟨rfl, rfl, rfl⟩

/-! ## A marker of a collection -/

theorem Port.stampMarker_some {first : Fin 16} {k : Fin 4} {stamp : BitVec 16} (collects : pt.collecting l = true)
    (start : pt.deskew.firstSequence = some first) (number : n = first + Fin.ofNat 16 k.val)
    (carries : (pt.dlane l).logical = some logical) : (pt.noted l n).stampMarker l logical n stamp =
      { pt with deskew := { pt.deskew with
        decoded := noteDecoded l n pt.deskew.decoded
        lanes := pt.deskew.lanes.modify l fun dl => { dl with stamps := dl.stamps.set k (some stamp) }
        closeTimer := if k = 0 ∧ pt.deskew.closeTimer.isRunning = false then .running 6552 else pt.deskew.closeTimer } } := by
  have start' : (pt.noted l n).deskew.firstSequence = some first := start
  have takes_ : ((pt.noted l n).collecting l && decide (((pt.noted l n).dlane l).logical = some logical)) = true := by
    rw [Bool.and_eq_true, decide_eq_true_iff]
    exact ⟨collects, carries⟩
  rw [Port.stampMarker, start']
  dsimp only
  rw [stampPosition_eq_some.mpr number]
  dsimp only
  rw [if_pos takes_]
  by_cases arms : k = 0 ∧ pt.deskew.closeTimer.isRunning = false
  · rw [if_pos arms]
    refine if_pos ?_
    rw [Bool.and_eq_true, decide_eq_true_iff, Bool.not_eq_true']
    exact arms
  · rw [if_neg arms]
    refine if_neg ?_
    rw [Bool.and_eq_true, decide_eq_true_iff, Bool.not_eq_true']
    exact arms

theorem Port.stampMarker_none {first : Fin 16} {stamp : BitVec 16} (start : pt.deskew.firstSequence = some first)
    (not : (∀ k : Fin 4, n ≠ first + Fin.ofNat 16 k.val) ∨ (pt.dlane l).logical ≠ some logical) :
    (pt.noted l n).stampMarker l logical n stamp = pt.noted l n := by
  have start' : (pt.noted l n).deskew.firstSequence = some first := start
  rw [Port.stampMarker, start']
  dsimp only
  cases position : stampPosition first n with
  | none => rfl
  | some k =>
    refine if_neg fun takes_ => ?_
    rw [Bool.and_eq_true, decide_eq_true_iff] at takes_
    rcases not with otherNumber | otherLane
    · exact otherNumber k (stampPosition_eq_some.mp position)
    · exact otherLane takes_.2

end

section
variable {s : State} {p : Fin 32} {l : Fin 4} {onLine : Bool} {logical : Fin 4} {n : Fin 16} {age : BitVec 16}

/-- In a collection a marker that shows nothing to other units has its own effect alone. -/
theorem State.exec_markerDecoded_collecting (settled : s.settled) (at_ : (s.port p).state = .align)
    (phase : (s.port p).deskew.phase = .collecting) {inverted : Bool} (sense : (s.port p).arrivesInverted l onLine = inverted)
    {f : Port → Port} (taken : (s.port p).takeMarker l inverted logical n ((s.port p).deskew.stampCounter - age) = f (s.port p))
    (shows_ : (s.port p).Shows (f (s.port p))) (tx : (f (s.port p)).tx = (s.port p).tx) :
    exec (.markerDecoded p l onLine logical n age) s = .next (s.modPort p f) := by
  refine State.exec_markerDecoded_private settled at_ sense taken shows_ tx (State.checkSeen_collecting ?_)
  rw [State.port_modPort_self, shows_.phase, phase]
  decide

/-- The last marker of the wait ends it. -/
theorem State.checkSeen_sees (phase : (s.port p).deskew.phase = .markerWait) (good : (s.port p).good l = true)
    (unseen : ((s.port p).dlane l).seen = false)
    (others : ∀ o : Fin 4, o ≠ l → (s.port p).good o = true → ((s.port p).dlane o).seen = true) :
    (s.modPort p (Port.sees l logical n)).checkSeen p = s.modPort p fun pt => (pt.sees l logical n).endMarkerWait := by
  have collects := Port.collecting_sees (logical := logical) (n := n) unseen others
  have all : ((s.port p).sees l logical n).allSeen = true := List.all_eq_true.mpr fun o _ => by
    rw [Bool.or_eq_true, Bool.not_eq_true']
    refine or_iff_not_imp_left.mpr fun goodO => ?_
    have := collects o
    rw [show (s.port p).good o = true from (Bool.not_eq_false _).mp goodO] at this
    exact (Bool.and_eq_true_iff.mp this).2
  have some_ : ((s.port p).sees l logical n).noneGood = false := (Bool.not_eq_true _).mp fun none_ => by
    have := Port.noneGood_iff.mp none_ l
    rw [show ((s.port p).sees l logical n).good l = true from good] at this
    cases this
  refine (if_pos ?_).trans (State.modPort_modPort ..)
  rw [State.port_modPort_self, all, some_]
  exact ⟨phase, rfl, rfl⟩

end

/-- Settles O53: the last marker of the wait starts collection 1, a marker of a collection stamps, toggles or is noted, and a
lane's stability is that of its four differences. -/
theorem collectionsStampTheirMarkers : Obligations.CollectionsStampTheirMarkers := by
  refine ⟨fun s p l logical n age settled at_ => ⟨?last, ?collecting, ?ignored⟩, fun pt before after l n number list collects others =>
    Port.nextFirstSequence_eq list collects others, fun pt l => Port.stable_iff.trans (or_congr_right DeskewLane.stable_iff)⟩
  case last =>
    intro phase good unseen others r goodR lowest
    obtain ⟨state, lanes, neighbor⟩ := Port.kept_sees_endMarkerWait (pt := s.port p) (l := l) (logical := logical) (n := n)
    have alone : s.Alone (s.modPort p fun pt => (pt.sees l logical n).endMarkerWait) p := .of_align (state.trans at_) neighbor
    have others_ := alone.others settled
    have device := State.sameDevice_event alone.only rfl
    have deskew := Port.deskew_sees_endMarkerWait (logical := logical) (n := n) unseen good others goodR lowest
    obtain ⟨pending, tx, own⟩ := alone.own_fields settled
    rw [State.port_modPort_self] at own
    rw [State.exec_markerDecoded at_ (Port.arrivesInverted_true ..),
      State.modPort_congr (show _ = (s.port p).sees l logical n from Port.takeMarker_seen phase good),
      State.checkSeen_sees phase good unseen others]
    refine Outcome.exists_next ?_
    rw [own]
    exact ⟨state.trans at_, deskew, lanes, others_, device⟩
  case collecting =>
    intro first phase collects start noted
    have good : (s.port p).good l = true := (Bool.and_eq_true_iff.mp collects).1
    have true_ := Port.takeMarker_collecting (logical := logical) (n := n) (inverted := false)
      (stamp := (s.port p).deskew.stampCounter - age) phase collects
    have reported := Port.reportInverted_good (pt := (s.port p).noted l n) (l := l) good
    refine ⟨fun k number carries => ?_, fun other => ?_, ?_⟩
    · exact State.exec_markerDecoded_collecting settled at_ phase (Port.arrivesInverted_true ..)
        (true_.trans (Port.stampMarker_some collects start number carries)) ⟨rfl, rfl, rfl, rfl, rfl, rfl, rfl, rfl⟩ rfl
    · exact State.exec_markerDecoded_collecting settled at_ phase (Port.arrivesInverted_true ..)
        (true_.trans (Port.stampMarker_none start other)) ⟨rfl, rfl, rfl, rfl, rfl, rfl, rfl, rfl⟩ rfl
    · rw [State.modPort_modPort]
      refine (State.exec_markerDecoded_collecting (f := fun pt => (pt.noted l n).reportInverted l) settled at_ phase
        (Port.arrivesInverted_inverted ..) (Port.takeMarker_collecting phase collects) (Port.shows_reportInverted good)
        ?_).trans (congrArg Host.Outcome.next (State.modPort_congr reported))
      exact (congrArg Port.tx reported).trans rfl
  case ignored =>
    intro onLine phase not
    exact (State.exec_markerDecoded_collecting (f := id) settled at_ phase rfl (Port.takeMarker_ignored phase not)
      (.refl _) rfl).trans (congrArg Host.Outcome.next (State.modPort_id (f := id) rfl))

end Sys2Proof.Machine

/-! SUPPORT. The close of a collection and the entry to VERIFY (R37, R38, R123, R124, R131). -/

namespace Sys2Proof.Machine

/-! ## Entry to RANGING, MASK_WAIT and VERIFY -/

/-- The record of a burst whose first probe waits (R143). -/
def Burst.started : Burst :=
  { Burst.reset with
    running := true
    requested := 1
    probes := Burst.reset.probes.modify 0 fun pr => { pr with status := .waiting }
    schedule := .running 125000 }

theorem Port.enterRanging_eq (pt : Port) : pt.enterRanging = { pt with
    state := .verify .ranging
    burst := Burst.started
    summary := RangingSummary.reset
    neighbor := pt.neighbor.clearLength
    tx := { pt.tx with probeWaiting := some 0 } } := by
  rw [Port.enterRanging, Port.startBurst, Port.requestProbe_of_requested (k := 0) rfl]
  rfl

theorem Port.enterMaskWait_none {pt : Port} (none_ : pt.neighbor.kept = none) :
    pt.enterMaskWait = { pt with state := .verify .maskWait } := by
  rw [Port.enterMaskWait, none_]

theorem Port.enterMaskWait_some {pt : Port} {m : BitVec 4} (held : pt.neighbor.kept = some m) :
    pt.enterMaskWait = pt.enterRanging := by
  rw [Port.enterMaskWait, held]

/-- What the entry to MASK_WAIT and on to RANGING leaves of the port. -/
theorem Port.enterMaskWait_keeps (pt : Port) : pt.enterMaskWait.stageTimer = pt.stageTimer
    ∧ pt.enterMaskWait.state = .verify (if pt.neighbor.kept = none then .maskWait else .ranging)
    ∧ pt.enterMaskWait.deskew = pt.deskew
    ∧ pt.enterMaskWait.neighbor.status = pt.neighbor.status ∧ pt.enterMaskWait.neighbor.identity = pt.neighbor.identity := by
  cases kept : pt.neighbor.kept with
  | none => rw [Port.enterMaskWait_none kept, if_pos rfl]; exact ⟨rfl, rfl, rfl, rfl, rfl⟩
  | some m => rw [Port.enterMaskWait_some kept, if_neg nofun, Port.enterRanging_eq]; exact ⟨rfl, rfl, rfl, rfl, rfl⟩

section
variable {pr : Params} {closed unused : Bool} {pt : Port}

theorem Port.enterVerify_open (open_ : closed = false) : pt.enterVerify pr closed unused =
    { pt with state := .verify (.planWait false), stageTimer := .paused (pr.verifyTimeout * Config.tuPerMs) } := by
  subst open_
  rfl

theorem Port.enterVerify_judged (closed_ : closed = true) (used : unused = false) : pt.enterVerify pr closed unused =
    Port.enterMaskWait { pt with stageTimer := .running (pr.verifyTimeout * Config.tuPerMs) } := by
  subst closed_ used
  rfl

end

/-! ## The close at a port -/

section
variable {base : BaseFields} {pt : Port} {l : Fin 4}

/-- The differences against the reference lane are formed on the collecting lanes (R123). -/
theorem Port.formDifferences_eq {r : Fin 4} (reference : pt.deskew.reference = some r) : pt.formDifferences =
    { pt with deskew := { pt.deskew with
      lanes := pt.deskew.lanes.mapFin fun l dl =>
        if pt.collecting l then { dl with differences := differencesOf dl (pt.dlane r) } else dl } } := by
  rw [Port.formDifferences, reference]
  rfl

/-- Forming differences changes nothing but the lanes' differences. -/
theorem Port.formDifferences_keeps (pt : Port) : ∃ lanes, pt.formDifferences = { pt with deskew := { pt.deskew with lanes } }
    ∧ ∀ l, ∃ differences, lanes.get l = { pt.dlane l with differences } := by
  cases reference : pt.deskew.reference with
  | none =>
    refine ⟨pt.deskew.lanes, ?_, fun l => ⟨_, rfl⟩⟩
    rw [Port.formDifferences, reference]
  | some r =>
    refine ⟨_, Port.formDifferences_eq reference, fun l => ?_⟩
    rw [Table.get_mapFin]
    split
    · exact ⟨_, rfl⟩
    · exact ⟨_, rfl⟩

theorem Port.collecting_formDifferences (l : Fin 4) : pt.formDifferences.collecting l = pt.collecting l := by
  obtain ⟨lanes, eq, each⟩ := pt.formDifferences_keeps
  obtain ⟨differences, lane⟩ := each l
  have seen : (pt.formDifferences.dlane l).seen = (pt.dlane l).seen := by
    rw [eq]
    exact (congrArg DeskewLane.seen lane).trans rfl
  rw [Port.collecting, seen, eq]
  rfl

theorem Port.dlane_dropUnstable (l : Fin 4) : pt.dropUnstable.dlane l =
    if pt.collecting l && !pt.stable l then { pt.dlane l with status := .skewUnstable } else pt.dlane l := by
  rw [Port.dropUnstable, Port.modDeskew, Port.dlane, Table.get_mapFin]
  rfl

/-- Dropping the unstable lanes changes statuses alone, so the same lanes remain. -/
theorem Port.remains_dropUnstable (l : Fin 4) : pt.dropUnstable.Remains l ↔ pt.Remains l := by
  have seen : (pt.dropUnstable.dlane l).seen = (pt.dlane l).seen := by
    rw [Port.dlane_dropUnstable]
    split <;> rfl
  have stable : (pt.dropUnstable.dlane l).stable = (pt.dlane l).stable := by
    rw [Port.dlane_dropUnstable]
    split <;> rfl
  rw [Port.Remains, Port.Remains, Port.collecting, Port.collecting, seen, Port.stable, Port.stable, stable]
  rfl

theorem Port.allStable_iff : pt.allStable = true ↔ ∀ l, pt.collecting l = true → pt.stable l = true := by
  rw [Port.allStable, List.all_eq_true]
  refine ⟨fun all l collects => ?_, fun all l _ => ?_⟩
  · have := all l (List.mem_finRange l)
    rwa [collects, Bool.not_true, Bool.false_or] at this
  · cases collects : pt.collecting l with
    | false => rfl
    | true => exact (Bool.false_or _).trans (all l collects)

/-- A port whose mask falls to be fixed: every collecting lane is stable or already SKEW_UNSTABLE. -/
structure Port.Closing (pt closing : Port) : Prop where
  collecting : ∀ l, closing.collecting l = true → pt.collecting l = true
  remains : ∀ l, pt.Remains l → closing.Remains l
  unstable : ∀ l, pt.collecting l = true → ¬ pt.Remains l → ¬ closing.Remains l ∧ (closing.dlane l).status = .skewUnstable

/-- The kept mask holds the logical lanes of the collecting lanes then KEPT, and the unstable ones are SKEW_UNSTABLE. -/
theorem Port.Closing.fixed {closing : Port} (h : pt.Closing closing) :
    (∀ m : Fin 4, (closing.fixMask base).deskew.keptMask.getLsbD m.val = true ↔
      ∃ l : Fin 4, pt.collecting l = true ∧ ((closing.fixMask base).dlane l).status = .kept
        ∧ ((closing.fixMask base).dlane l).logical = some m)
    ∧ ∀ l, (pt.collecting l && !pt.stable l) = true → ((closing.fixMask base).dlane l).status = .skewUnstable := by
  have logical : ∀ l, ((closing.fixMask base).dlane l).logical = (closing.dlane l).logical := fun l => by
    rw [Port.dlane, Port.fixMask, Port.modDeskew, Table.get_mapFin]
    rfl
  have unstable : ∀ l, pt.collecting l = true → ¬ pt.Remains l → ((closing.fixMask base).dlane l).status = .skewUnstable := by
    intro l collects gone
    obtain ⟨gone', status⟩ := h.unstable l collects gone
    have out : l ∉ closing.candidates base := fun mem => gone' (Port.eligible_of_mem_candidates mem).1
    exact ((Port.status_of_not_candidate out).2.2 gone').trans status
  refine ⟨fun m => (Port.keptMask_fixMask ..).trans ⟨?_, ?_⟩, fun l both => ?_⟩
  · rintro ⟨l, candidate, carries⟩
    have remains := (Port.eligible_of_mem_candidates candidate).1
    refine ⟨l, h.collecting l remains.1, ?_, (logical l).trans carries⟩
    rw [Port.status_fixMask, finalStatus, if_pos candidate]
  · rintro ⟨l, collects, kept, carries⟩
    by_cases remains : pt.Remains l
    · by_cases candidate : l ∈ closing.candidates base
      · exact ⟨l, candidate, (logical l).symm.trans carries⟩
      · obtain ⟨outside, excluded, -⟩ := Port.status_of_not_candidate candidate
        by_cases eligible : closing.Eligible l
        · rw [outside eligible] at kept; cases kept
        · rw [excluded (h.remains l remains) eligible] at kept; cases kept
    · rw [unstable l collects remains] at kept; cases kept
  · rw [Bool.and_eq_true, Bool.not_eq_true'] at both
    exact unstable l both.1 fun remains => by
      have := remains.2
      rw [both.2] at this
      cases this

theorem Port.Closing.of_allStable (all : pt.allStable = true) : pt.Closing pt :=
  ⟨fun _ => id, fun _ => id, fun l collects gone => absurd ⟨collects, Port.allStable_iff.mp all l collects⟩ gone⟩

theorem Port.Closing.dropUnstable : pt.Closing pt.dropUnstable where
  collecting l collects := by
    have seen : (pt.dropUnstable.dlane l).seen = (pt.dlane l).seen := by
      rw [Port.dlane_dropUnstable]
      split <;> rfl
    rw [Port.collecting, seen] at collects
    exact collects
  remains l := (Port.remains_dropUnstable l).mpr
  unstable l collects gone := by
    refine ⟨mt (Port.remains_dropUnstable l).mp gone, ?_⟩
    rw [Port.dlane_dropUnstable, if_pos]
    rw [Bool.and_eq_true, Bool.not_eq_true']
    exact ⟨collects, (Bool.not_eq_true _).mp fun stable => gone ⟨collects, stable⟩⟩

/-- A final close fixes the mask of a port that closes so. -/
theorem Port.closeCollection_final
    (final : (∀ l, (pt.collecting l && !pt.formDifferences.stable l) = false) ∨ 3 ≤ pt.deskew.collection) :
    ∃ closing, pt.formDifferences.Closing closing ∧ pt.closeCollection base = closing.fixMask base := by
  by_cases all : pt.formDifferences.allStable = true
  · exact ⟨_, .of_allStable all, if_pos all⟩
  · rcases final with stable | third
    · refine absurd (Port.allStable_iff.mpr fun l collects => ?_) all
      rw [Port.collecting_formDifferences] at collects
      have := stable l
      rwa [collects, Bool.true_and, Bool.not_eq_false'] at this
    · refine ⟨_, .dropUnstable, (if_neg all).trans (if_neg ?_)⟩
      obtain ⟨lanes, eq, -⟩ := pt.formDifferences_keeps
      rw [eq]
      exact Nat.not_lt.mpr third

/-- After collection 1 or 2 with an unstable lane the next collection starts. -/
theorem Port.closeCollection_next (unstable : (pt.collecting l && !pt.formDifferences.stable l) = true)
    (early : pt.deskew.collection < 3) :
    pt.closeCollection base = pt.formDifferences.startCollection (pt.deskew.collection + 1) := by
  have not : pt.formDifferences.allStable ≠ true := fun all => by
    rw [Bool.and_eq_true, Bool.not_eq_true'] at unstable
    have := Port.allStable_iff.mp all l ((Port.collecting_formDifferences l).trans unstable.1)
    rw [unstable.2] at this
    cases this
  obtain ⟨lanes, eq, -⟩ := pt.formDifferences_keeps
  have count : pt.formDifferences.deskew.collection = pt.deskew.collection := by rw [eq]
  rw [Port.closeCollection, if_neg not, count, if_pos early]

end

end Sys2Proof.Machine

/-! SUPPORT. COLLECTION_CLOSE: the next collection, or ALIGN completed (R37, R38, R51, R122 to R124). -/

namespace Sys2Proof.Machine

section
variable {base : BaseFields} {pt : Port} {l : Fin 4}

/-- A close changes the alignment alone. -/
theorem Port.closeCollection_keeps (base : BaseFields) (pt : Port) :
    ∃ deskew, pt.closeCollection base = { pt with deskew } := by
  obtain ⟨lanes, eq, -⟩ := pt.formDifferences_keeps
  unfold Port.closeCollection
  rw [eq]
  dsimp only
  split
  · exact ⟨_, rfl⟩
  · split
    · exact ⟨_, rfl⟩
    · exact ⟨_, rfl⟩

/-- The differences of a collecting lane, formed at the close, stand in the next collection (R123). -/
theorem Port.differences_startCollection {r k : Fin 4} {a b : BitVec 16} (number : Nat) (reference : pt.deskew.reference = some r)
    (collects : pt.collecting l = true) (own : (pt.dlane l).stamps.get k = some a) (other : (pt.dlane r).stamps.get k = some b) :
    ((pt.formDifferences.startCollection number).dlane l).differences.get k =
      some (((a.toNat : Int) - b.toNat + 32768) % 65536 - 32768) := by
  have formed : (pt.formDifferences.dlane l).differences = differencesOf (pt.dlane l) (pt.dlane r) := by
    rw [Port.formDifferences_eq reference, Port.dlane, Table.get_mapFin, if_pos collects]
    rfl
  have same : ((pt.formDifferences.startCollection number).dlane l).differences = (pt.formDifferences.dlane l).differences := by
    rw [Port.startCollection, Port.modDeskew, Port.dlane, Table.get_mapFin]
    split <;> rfl
  rw [same, formed, differencesOf, Table.get_ofFn, own, other]
  rfl

/-- ALIGN is completed at a port: HELD, or into VERIFY. -/
def Port.completeAlign (pr : Params) (closed unused : Bool) (pt : Port) : Port :=
  if pt.heldAt pr .align then pt.enterHeld .align .verify else pt.enterVerify pr closed unused

theorem Port.heldAt_iff {pr : Params} {stage : HoldPoint} : pt.heldAt pr stage = true ↔ pr.holdPoint = stage ∧ pt.holdEnable = true := by
  rw [Port.heldAt, Bool.and_eq_true, decide_eq_true_iff]

/-- Where a completed ALIGN leads, and what it keeps. -/
theorem Port.completeAlign_cases {pr : Params} {closed unused : Bool} (leads : closed = true → unused = false ∨ pt.heldAt pr .align = true) :
    (pt.heldAt pr .align = true → (pt.completeAlign pr closed unused).state = .held .align .verify
      ∧ (pt.completeAlign pr closed unused).stageTimer = .stopped)
    ∧ (pt.heldAt pr .align = false → closed = false → (pt.completeAlign pr closed unused).state = .verify (.planWait false)
      ∧ (pt.completeAlign pr closed unused).stageTimer = .paused (pr.verifyTimeout * Config.tuPerMs))
    ∧ (pt.heldAt pr .align = false → closed = true →
      (pt.completeAlign pr closed unused).stageTimer = .running (pr.verifyTimeout * Config.tuPerMs)
      ∧ (pt.completeAlign pr closed unused).state = .verify (if pt.neighbor.kept = none then .maskWait else .ranging))
    ∧ (pt.completeAlign pr closed unused).deskew = pt.deskew
    ∧ (pt.completeAlign pr closed unused).neighbor.status = pt.neighbor.status
    ∧ (pt.completeAlign pr closed unused).neighbor.identity = pt.neighbor.identity := by
  unfold Port.completeAlign
  cases held : pt.heldAt pr .align with
  | true =>
    rw [if_pos rfl]
    exact ⟨fun _ => ⟨rfl, rfl⟩, nofun, nofun, rfl, rfl, rfl⟩
  | false =>
    rw [if_neg Bool.false_ne_true]
    cases plan : closed with
    | false =>
      rw [Port.enterVerify_open rfl]
      exact ⟨nofun, fun _ _ => ⟨rfl, rfl⟩, nofun, rfl, rfl, rfl⟩
    | true =>
      have used : unused = false := (leads plan).resolve_right (by rw [held]; exact Bool.false_ne_true)
      obtain ⟨timer, state, deskew, status, identity⟩ :=
        Port.enterMaskWait_keeps { pt with stageTimer := .running (pr.verifyTimeout * Config.tuPerMs) }
      rw [Port.enterVerify_judged rfl used]
      exact ⟨nofun, nofun, fun _ _ => ⟨timer, state⟩, deskew, status, identity⟩

end

section
variable {s : State} {p : Fin 32}

theorem State.completeAlign_eq : s.completeAlign p = s.modPort p (Port.completeAlign s.params
    (decide (s.plan.state = .closed)) (decide ((s.expected p).kind = .unused))) := by
  unfold State.completeAlign
  split
  · next held => exact State.modPort_congr (if_pos held).symm
  · next free => exact State.modPort_congr (if_neg free).symm

/-- A close that fixes the mask completes ALIGN. -/
theorem State.closeAt_fixed (fixed : ((s.port p).closeCollection (s.expected p).base).deskew.phase = .fixed) :
    s.closeAt p = s.modPort p fun pt => Port.completeAlign s.params (decide (s.plan.state = .closed))
      (decide ((s.expected p).kind = .unused)) (pt.closeCollection (s.expected p).base) := by
  refine (if_pos ?_).trans ((State.completeAlign_eq ..).trans (State.modPort_modPort ..))
  rw [State.port_modPort_self]
  exact fixed

/-- A port that leaves ALIGN for HELD or VERIFY has no verdict due, nor a new peer. -/
theorem State.Alone.of_completeAlign {f : Port → Port} (status : (f (s.port p)).neighbor.status = (s.port p).neighbor.status)
    (identity : (f (s.port p)).neighbor.identity = (s.port p).neighbor.identity)
    (waits : s.plan.state = .closed → ∀ taken, (f (s.port p)).state ≠ .verify (.planWait taken)) :
    s.Alone (s.modPort p f) p := by
  refine .modPort ?_ ((Bool.not_eq_true _).mp fun due => ?_)
  · rw [State.currentPeer, State.currentPeer, State.port_modPort_self, status, identity]
  · obtain ⟨closed, taken, at_⟩ := State.verdictDue_eq_true.mp due
    rw [State.port_modPort_self] at at_
    exact waits closed taken at_

theorem State.exec_collectionClose (at_ : (s.port p).state = .align) (phase : (s.port p).deskew.phase = .collecting)
    (running : (s.port p).deskew.closeTimer.isRunning = true) : exec (.collectionClose p) s = .next (s.event (s.closeAt p)) :=
  if_pos ⟨at_, phase, running⟩

theorem State.exec_collectionClose_not (not : (s.port p).state ≠ .align ∨ (s.port p).deskew.phase ≠ .collecting
    ∨ (s.port p).deskew.closeTimer.isRunning = false) : exec (.collectionClose p) s = .next s := by
  refine if_neg ?_
  rintro ⟨at_, phase, running⟩
  rcases not with other | other | stopped
  · exact other at_
  · exact other phase
  · rw [running] at stopped; cases stopped

end

/-- Settles O54: a close with an unstable lane starts the next collection, any other fixes the mask and completes ALIGN. -/
theorem closesFixTheMaskOrCollectAgain : Obligations.ClosesFixTheMaskOrCollectAgain := by
  intro s p settled d unstable
  refine ⟨State.exec_collectionClose_not, fun at_ phase running => ⟨?next, ?final⟩⟩
  case next =>
    rintro ⟨l, unstableL⟩ early
    have next := Port.closeCollection_next (base := (s.expected p).base) unstableL early
    have started : ((s.port p).formDifferences.startCollection (d.collection + 1)).deskew.phase = .collecting := rfl
    have closes : s.closeAt p = s.modPort p (Port.closeCollection (s.expected p).base) := if_neg (by
      rw [State.port_modPort_self, next, started]; decide)
    obtain ⟨deskew, keeps⟩ := (s.port p).closeCollection_keeps (s.expected p).base
    have alone : s.Alone (s.modPort p (Port.closeCollection (s.expected p).base)) p :=
      .of_align (by rw [keeps]; exact at_) (by rw [keeps])
    have others := alone.others settled
    have device := State.sameDevice_event alone.only rfl
    have monitor := alone.monitor settled
    obtain ⟨pending, tx, own⟩ := alone.own_fields settled
    have differences : ∀ (r l k : Fin 4) (a b : BitVec 16), d.reference = some r → (s.port p).collecting l = true →
        (d.lanes.get l).stamps.get k = some a → (d.lanes.get r).stamps.get k = some b → _ := fun r l k a b reference collects own other =>
      Port.differences_startCollection (d.collection + 1) reference collects own other
    obtain ⟨lanes, formed, -⟩ := (s.port p).formDifferences_keeps
    rw [State.port_modPort_self, next] at own
    rw [State.exec_collectionClose at_ phase running, closes]
    refine Outcome.exists_next ?_
    rw [own]
    refine ⟨?_, rfl, rfl, ?_, rfl, differences, others, device, monitor⟩
    · rw [formed]; exact at_
    · rw [formed]; rfl
  case final =>
    intro final held verifying leads
    obtain ⟨closing, closes, fixes⟩ := Port.closeCollection_final (base := (s.expected p).base) final
    obtain ⟨mask, dropped⟩ := closes.fixed (base := (s.expected p).base)
    have fixed : ((s.port p).closeCollection (s.expected p).base).deskew.phase = .fixed := by rw [fixes]; rfl
    obtain ⟨deskew, keeps⟩ := (s.port p).closeCollection_keeps (s.expected p).base
    have heldIff : ((s.port p).closeCollection (s.expected p).base).heldAt s.params .align = true ↔ held := by
      rw [keeps]; exact Port.heldAt_iff
    have neighbor : ((s.port p).closeCollection (s.expected p).base).neighbor = (s.port p).neighbor := by rw [keeps]
    obtain ⟨isHeld, isWaiting, isJudged, alignment, status, identity⟩ :=
      Port.completeAlign_cases (pt := (s.port p).closeCollection (s.expected p).base) (pr := s.params)
        (closed := decide (s.plan.state = .closed)) (unused := decide ((s.expected p).kind = .unused)) fun closed =>
          (leads (decide_eq_true_iff.mp closed)).imp decide_eq_false heldIff.mpr
    simp only [← Bool.not_eq_true, heldIff, decide_eq_true_iff, neighbor] at isHeld isWaiting isJudged status identity
    have alone := State.Alone.of_completeAlign (s := s) (p := p) (f := fun pt => Port.completeAlign s.params
      (decide (s.plan.state = .closed)) (decide ((s.expected p).kind = .unused)) (pt.closeCollection (s.expected p).base))
      status identity fun closed taken waits => by
        by_cases h : held
        · rw [(isHeld h).1] at waits; cases waits
        · rw [(isJudged h closed).2] at waits; split at waits <;> cases waits
    have others := alone.others settled
    have device := State.sameDevice_event alone.only rfl
    have monitor := alone.monitor settled
    obtain ⟨pending, tx, own⟩ := alone.own_fields settled
    rw [State.port_modPort_self] at own
    rw [State.exec_collectionClose at_ phase running, State.closeAt_fixed fixed]
    refine Outcome.exists_next ?_
    generalize Port.completeAlign s.params (decide (s.plan.state = .closed)) (decide ((s.expected p).kind = .unused))
      ((s.port p).closeCollection (s.expected p).base) = left_ at own isHeld isWaiting isJudged alignment
    simp only [Port.collecting_formDifferences, ← fixes] at mask dropped
    rw [own]
    dsimp only [Port.keptValid, Port.dlane]
    rw [alignment]
    exact ⟨isHeld, isWaiting, isJudged, decide_eq_true fixed, mask, dropped, others, device, monitor⟩

end Sys2Proof.Machine

/-! SUPPORT. What a selection and a completed measurement change (R100 to R104, R109). -/

namespace Sys2Proof.Machine

/-! ## Selections -/

/-- What a selection leaves: the setups, the result table and its counter. -/
structure Monitor.SameTable (a b : Monitor) : Prop where
  setups : b.setups = a.setups
  results : b.results = a.results
  sequence : b.sequence = a.sequence

theorem Monitor.SameTable.refl (m : Monitor) : m.SameTable m := ⟨rfl, rfl, rfl⟩

theorem Monitor.SameTable.trans {a b c : Monitor} (h : a.SameTable b) (k : b.SameTable c) : a.SameTable c :=
  ⟨k.setups.trans h.setups, k.results.trans h.results, k.sequence.trans h.sequence⟩

theorem State.Withdraws.table {s t : State} (h : s.Withdraws t) : s.monitor.SameTable t.monitor := by
  rw [h.rest]
  exact ⟨rfl, rfl, rfl⟩

/-- What a selection does to the ports: nothing, or it marks the lane of the head request, which it serves. -/
inductive State.Selects (s t : State) : Prop
  | quiet (ports : t.ports = s.ports)
  | serves (r : BringUpRequest) (rest : List BringUpRequest) (queue : s.monitor.queue = r :: rest)
      (ports : t.ports = (s.modLane r.lane fun ln => { ln with marker := .inService }).ports)
      (engine : ∃ e, t.monitor.engine = some e ∧ e.lane = r.lane ∧ e.source = .bringUp r.attempt)

theorem State.ports_serveScan (s : State) (g : Fin 128) : (s.serveScan g).ports = s.ports := by
  unfold State.serveScan
  split <;> rfl

theorem State.table_serveScan (s : State) (jobs : List ScanJob) (g : Fin 128) :
    s.monitor.SameTable ((s.withMonitor { s.monitor with jobs }).serveScan g).monitor := by
  unfold State.serveScan
  split <;> exact ⟨rfl, rfl, rfl⟩

theorem State.selects_serveRequest (s : State) {r : BringUpRequest} {rest : List BringUpRequest} (jobs : List ScanJob)
    (queue : s.monitor.queue = r :: rest) : s.Selects ((s.withMonitor { s.monitor with jobs }).serveRequest r rest) :=
  .serves r rest queue rfl ⟨_, rfl, rfl, rfl⟩

theorem State.select_spec (s : State) : s.Selects s.select.state ∧ s.monitor.SameTable s.select.state.monitor := by
  unfold State.select
  split
  · exact ⟨.quiet rfl, .refl _⟩
  · dsimp only
    split
    · exact ⟨.quiet rfl, ⟨rfl, rfl, rfl⟩⟩
    · next r rest at_ none_ => exact ⟨State.selects_serveRequest s _ at_, ⟨rfl, rfl, rfl⟩⟩
    · exact ⟨.quiet (State.ports_serveScan ..), State.table_serveScan ..⟩
    · next r rest g at_ some_ =>
      split
      · exact ⟨.quiet (State.ports_serveScan ..), State.table_serveScan ..⟩
      · exact ⟨State.selects_serveRequest s _ at_, ⟨rfl, rfl, rfl⟩⟩

section
variable {s t : State}

/-- A selection changes lanes at most, and of them a marker. -/
theorem State.Selects.port (h : s.Selects t) (q : Fin 32) : ∃ lanes, t.port q = { s.port q with lanes }
    ∧ ∀ o, (t.port q).lane o = (s.port q).lane o ∨ ((t.port q).lane o = { (s.port q).lane o with marker := .inService }
      ∧ ∃ r rest, s.monitor.queue = r :: rest ∧ r.lane = globalLane q o
        ∧ ∃ e, t.monitor.engine = some e ∧ e.lane = r.lane ∧ e.source = .bringUp r.attempt) := by
  cases h with
  | quiet ports =>
    have same : t.port q = s.port q := congrArg (fun table : Table Port 32 => table.get q) ports
    exact ⟨_, same, fun o => .inl (by rw [same])⟩
  | serves r rest queue ports engine =>
    have same : t.port q = (s.modLane r.lane fun ln => { ln with marker := .inService }).port q :=
      congrArg (fun table : Table Port 32 => table.get q) ports
    rw [State.modLane, State.port_modPort] at same
    split at same
    · next at_ =>
      subst at_
      refine ⟨_, same, fun o => ?_⟩
      rw [same]
      by_cases lane : o = lanePhysical r.lane
      · subst lane
        rw [Port.lane_modLane_self]
        exact .inr ⟨rfl, r, rest, queue, (globalLane_parts r.lane).symm, engine⟩
      · exact .inl (Port.lane_modLane_other _ _ _ lane)
    · exact ⟨_, same, fun o => .inl (by rw [same])⟩

theorem State.Selects.shows (h : s.Selects t) (q : Fin 32) : (s.port q).Shows (t.port q) := by
  obtain ⟨lanes, same, -⟩ := h.port q
  rw [same]
  exact ⟨rfl, rfl, rfl, rfl, rfl, rfl, rfl, rfl⟩

/-- Without a request of its lanes a port is left whole. -/
theorem State.Selects.port_same (h : s.Selects t) {q : Fin 32} (none_ : ∀ r ∈ s.monitor.queue, lanePort r.lane ≠ q) :
    t.port q = s.port q := by
  cases h with
  | quiet ports => exact congrArg (fun table : Table Port 32 => table.get q) ports
  | serves r rest queue ports engine =>
    have same : t.port q = (s.modLane r.lane fun ln => { ln with marker := .inService }).port q :=
      congrArg (fun table : Table Port 32 => table.get q) ports
    rw [same, State.modLane]
    exact State.port_modPort_other _ _ (none_ r (by rw [queue]; exact List.mem_cons_self)).symm

end

/-! ## The completion up to the selection -/

section
variable {s : State} {m : Measurement} {v : Nat}

/-- What a completion finds at the port of its lane: what others see of it stays, or it leaves LANE_LOCK and can join no pass. -/
structure State.Completes (s u : State) (p : Fin 32) : Prop where
  only : s.Only u
  at_ : State.AtPort p s u
  measurements : (u.port p).counters.measurements = bump (s.port p).counters.measurements
  queue : ∀ r ∈ u.monitor.queue, r ∈ s.monitor.queue ∨ lanePort r.lane = p
  stays : (s.port p).Shows (u.port p) ∨ u.judgeable p = false

theorem Port.measurements_fail (base : BaseFields) (pr : Params) (p : Fin 32) (cause : Cause) (stage : Nat)
    (lane : Option (Fin 4)) (pt : Port) :
    (pt.fail base pr p cause stage lane).counters.measurements = pt.counters.measurements := by
  obtain ⟨state, retry, timer, same⟩ := Port.fail_eq (base := base) (pr := pr) (p := p) (cause := cause) (stage := stage)
    (lane := lane) pt
  have counted : (pt.record cause stage lane).countLinkLoss.counters.measurements = pt.counters.measurements := by
    unfold Port.countLinkLoss; split <;> rfl
  rw [same]
  exact counted

/-- The examination leaves a port as it is, or takes it from LANE_LOCK to where it can join no pass. -/
theorem State.Completes.examineLanes {u : State} {p : Fin 32} (h : s.Completes u p) :
    s.Completes (u.examineLanes p) p := by
  unfold State.examineLanes
  dsimp only
  split
  · split
    · exact h
    · refine ⟨h.only.trans (.modPort ..), h.at_.trans (.modPort ..), ?_, h.queue, .inr ?_⟩
      · rw [State.port_modPort_self]; exact h.measurements
      · exact State.judgeable_of_state (state := .align) (by rw [State.port_modPort_self]; rfl) rfl nofun
    · refine ⟨h.only.trans (.fail ..), h.at_.trans (.fail ..), ?_, fun r mem => h.queue r ?_, .inr (State.judgeable_fail ..)⟩
      · rw [State.fail, State.port_withdrawPort, State.port_modPort_self, Port.measurements_fail]
        exact h.measurements
      · exact (State.Withdraws.fail ..).queue.subset mem
  · exact h

/-- Whether a result is delivered as the step in service (R104). -/
def Port.live (pt : Port) (l : Fin 4) (attempt : BitVec 32) : Bool :=
  decide (attempt = pt.attempt) && decide ((pt.lane l).marker = .inService) && decide ((pt.lane l).state = .searching)

/-- The lane after a result: the marker is cleared, and a live one is a search step. -/
def Lane.delivered (live : Bool) (v : Nat) (ln : Lane) : Lane :=
  if live then ({ ln with marker := .none } : Lane).takeStep v else { ln with marker := .none }

section
variable {p : Fin 32} {l : Fin 4} {attempt : BitVec 32}

/-- A result that leaves no search open. -/
theorem State.deliver_ends (ends : (((s.port p).lane l).delivered ((s.port p).live l attempt) v).state ≠ .searching) :
    s.deliver p l attempt v = s.modPort p fun pt => pt.modLane l (Lane.delivered ((s.port p).live l attempt) v) := by
  refine if_neg ?_
  rw [State.port_modPort_self, Port.lane_modLane_self]
  exact ends

/-- A result that leaves the lane SEARCHING begins the next step. -/
theorem State.deliver_begins (goes : (((s.port p).lane l).delivered ((s.port p).live l attempt) v).state = .searching) :
    s.deliver p l attempt v = (s.modPort p fun pt => pt.modLane l fun ln =>
        (ln.delivered ((s.port p).live l attempt) v).beginStep).withMonitor
      { s.monitor with queue := s.monitor.queue ++ [⟨globalLane p l, (s.port p).attempt⟩] } := by
  have placed : (s.modPort p fun pt => pt.modLane l (Lane.delivered ((s.port p).live l attempt) v)).placeStep p l =
      (s.modPort p fun pt => pt.modLane l fun ln => (ln.delivered ((s.port p).live l attempt) v).beginStep).withMonitor
        { s.monitor with queue := s.monitor.queue ++ [⟨globalLane p l, (s.port p).attempt⟩] } := by
    unfold State.placeStep
    dsimp only
    rw [State.modPort_modPort, State.port_modPort_self]
    exact congrArg (fun u : State => u.withMonitor _) (State.modPort_congr (Port.modLane_modLane ..))
  refine (if_pos ?_).trans placed
  rw [State.port_modPort_self, Port.lane_modLane_self]
  exact goes

/-- A delivery changes one lane, and its request alone joins the queue. -/
theorem State.deliver_cases (s : State) (p : Fin 32) (l : Fin 4) (attempt : BitVec 32) (v : Nat) :
    ∃ f queue, s.deliver p l attempt v = (s.modPort p fun pt => pt.modLane l f).withMonitor { s.monitor with queue }
      ∧ ∀ r ∈ queue, r ∈ s.monitor.queue ∨ lanePort r.lane = p := by
  by_cases goes : (((s.port p).lane l).delivered ((s.port p).live l attempt) v).state = .searching
  · refine ⟨_, _, State.deliver_begins goes, fun r mem => (List.mem_append.mp mem).imp id fun own => ?_⟩
    rw [List.mem_singleton.mp own]
    exact lanePort_globalLane ..
  · exact ⟨_, s.monitor.queue, State.deliver_ends goes, fun r => .inl⟩

end

theorem State.completes_completeMeasurement (s : State) (m : Measurement) (v : Nat) :
    s.Completes (s.completeMeasurement m v) (lanePort m.lane) := by
  have written : (s.writeResult m v).port (lanePort m.lane) = (s.port (lanePort m.lane)).countMeasurement :=
    State.port_modPort_self ..
  have handed : s.Completes ((s.writeResult m v).handOn m v) (lanePort m.lane) := by
    have wrote : s.Completes (s.writeResult m v) (lanePort m.lane) := by
      refine ⟨.writeResult .., (State.AtPort.withMonitor ..).trans (.modPort ..), ?_, fun r => .inl, .inl ?_⟩
      · rw [written]; rfl
      · rw [written]; exact ⟨rfl, rfl, rfl, rfl, rfl, rfl, rfl, rfl⟩
    unfold State.handOn
    split
    · next attempt source =>
      obtain ⟨f, queue, delivered, from_⟩ :=
        (s.writeResult m v).deliver_cases (lanePort m.lane) (lanePhysical m.lane) attempt v
      have at_ : ((s.writeResult m v).deliver (lanePort m.lane) (lanePhysical m.lane) attempt v).port (lanePort m.lane)
          = (s.port (lanePort m.lane)).countMeasurement.modLane (lanePhysical m.lane) f := by
        rw [delivered, State.port_withMonitor, State.port_modPort_self, written]
      refine State.Completes.examineLanes ⟨wrote.only.trans (.deliver ..), wrote.at_.trans (.deliver ..), ?_, fun r mem => ?_,
        .inl ?_⟩
      · rw [at_]; rfl
      · rw [delivered] at mem
        exact (from_ r mem).elim (wrote.queue r) .inr
      · rw [at_]; exact ⟨rfl, rfl, rfl, rfl, rfl, rfl, rfl, rfl⟩
    · exact ⟨wrote.only.trans (.withMonitor ..), wrote.at_.trans (.withMonitor ..), wrote.measurements, wrote.queue, wrote.stays⟩
  exact ⟨handed.only.trans (.withMonitor ..), handed.at_.trans (.withMonitor ..), handed.measurements, handed.queue, handed.stays⟩

/-- The completion writes the record, whatever the search makes of it. -/
theorem State.table_completeMeasurement (s : State) (m : Measurement) (v : Nat) :
    (s.writeResult m v).monitor.SameTable (s.completeMeasurement m v).monitor := by
  have deliver : ∀ (s : State) (p : Fin 32) (l : Fin 4) (attempt : BitVec 32),
      s.monitor.SameTable (s.deliver p l attempt v).monitor := fun s p l attempt => by
    obtain ⟨f, queue, delivered, -⟩ := s.deliver_cases p l attempt v
    rw [delivered]
    exact ⟨rfl, rfl, rfl⟩
  have handed : (s.writeResult m v).monitor.SameTable ((s.writeResult m v).handOn m v).monitor := by
    unfold State.handOn
    split
    · exact (deliver ..).trans (State.Withdraws.examineLanes ..).table
    · exact ⟨rfl, rfl, rfl⟩
  exact handed.trans ⟨rfl, rfl, rfl⟩

/-- Where nothing is reported or due, an event's verdicts leave its effect; in any case they leave the port of the lane. -/
theorem State.Completes.port_verdicts {u t : State} {p : Fin 32} (h : s.Completes u p) (selects : u.Selects t)
    (only : u.Only t) (settled : s.settled) : (t.verdicts s fun _ => false).port p = t.port p := by
  have shown := selects.shows p
  rcases h.stays with shows_ | apart
  · have all : ∀ q, (s.port q).Shows (t.port q) := fun q => by
      by_cases at_ : q = p
      · subst at_; exact shows_.trans shown
      · have := selects.shows q
        rwa [h.at_.others q at_] at this
    have quiet := State.verdicts_quiet (before := s) (after := t)
      (fun q => by rw [State.verdictDue, (h.only.trans only).plan, (all q).state]; exact settled.2.2 q)
      (fun q => by rw [State.currentPeer, State.currentPeer, (all q).neighbor.1, (all q).neighbor.2])
    rw [quiet]
  · refine State.port_verdicts_apart ?_ _ _
    obtain ⟨low, due⟩ := State.not_judgeable_iff.mp apart
    exact State.not_judgeable_iff.mpr ⟨by rw [shown.state, low], by
      rw [State.verdictDue, only.plan, shown.state]; exact due⟩

end

end Sys2Proof.Machine

/-! SUPPORT. MEASUREMENT_COMPLETE: the result table (R100 to R102, R110). -/

namespace Sys2Proof.Machine

theorem correctedValue_eq (raw : Nat) (setup : MonitorSetup) :
    correctedValue raw setup = (max 0 (min 1023 ((raw : Int) + setup.offset))).toNat := by
  unfold correctedValue
  split
  · omega
  · split <;> omega

section
variable {s : State} {m : Measurement} {raw : BitVec 10}

theorem State.exec_measurementComplete_free (free : s.monitor.engine = none) : exec (.measurementComplete raw) s = .next s := by
  show execMeasurementComplete raw s = .next s
  rw [execMeasurementComplete, free]

theorem State.exec_measurementComplete (busy : s.monitor.engine = some m) {v : Nat}
    (corrected : (max 0 (min 1023 ((raw.toNat : Int) + (s.monitor.setups.get m.lane).offset))).toNat = v) :
    exec (.measurementComplete raw) s = .next (s.eventSelecting (s.completeMeasurement m v)
      (limitNotices m (limitStatus v (s.monitor.setups.get m.lane)))) := by
  subst corrected
  rw [← correctedValue_eq]
  show execMeasurementComplete raw s = _
  rw [execMeasurementComplete, busy]

/-- The record that a completion writes (R102). -/
theorem State.results_writeResult (s : State) (m : Measurement) (v : Nat) :
    (s.writeResult m v).monitor.results.get m.lane =
      ⟨v, m.setting, m.source.result, limitStatus v (s.monitor.setups.get m.lane), nextSequence s.monitor.sequence⟩
    ∧ (s.writeResult m v).monitor.sequence = nextSequence s.monitor.sequence
    ∧ (∀ g : Fin 128, g ≠ m.lane → (s.writeResult m v).monitor.results.get g = s.monitor.results.get g)
    ∧ (s.writeResult m v).monitor.setups = s.monitor.setups :=
  ⟨Table.get_set_self .., rfl, fun _ other => Table.get_set_other _ _ other, rfl⟩

theorem limitNotices_scan {job : Option (Fin 4)} (scan : m.source = .scan job) (status : LimitStatus) : limitNotices m status =
    if status = .within then [] else [.laneLimit (lanePort m.lane) (1#4 <<< (lanePhysical m.lane).val) 0] := by
  unfold limitNotices
  rw [scan]
  cases status <;> rfl

/-- The port of the lane at the end of the event, which verdicts do not reach. -/
theorem State.Completes.port_eventSelecting {u : State} {p : Fin 32} (h : s.Completes u p) (settled : s.settled)
    (limits : List Notice) : ∃ pending tx, (s.eventSelecting u limits).port p = { u.select.state.port p with
      verdict := { (u.select.state.port p).verdict with pending := pending }
      tx := tx } := by
  rw [State.eventSelecting, State.port_finish, h.port_verdicts u.select_spec.1 (.select _) settled]
  exact concludePort_eq ..

theorem State.port_writeResult (s : State) (m : Measurement) (v : Nat) (q : Fin 32) :
    (s.writeResult m v).port q = if q = lanePort m.lane then (s.port (lanePort m.lane)).countMeasurement else s.port q :=
  State.port_modPort (s.withMonitor _) ..

theorem State.select_done (jobs : s.monitor.jobs = []) : s.select.done = [] := by
  have none_ : (examineJobs s.laneFenced s.monitor.jobs).done = [] := by rw [jobs]; rfl
  unfold State.select
  split
  · rfl
  · dsimp only
    split <;> [exact none_; exact none_; exact none_; (split <;> exact none_)]

/-- A selection changes nothing that the end of an event looks at. -/
theorem State.Selects.still {t : State} (h : s.Selects t) (q : Fin 32) : (s.port q).Still (t.port q) := by
  obtain ⟨lanes, same, -⟩ := h.port q
  rw [same]
  exact ⟨rfl, rfl, rfl, rfl, rfl, rfl, rfl⟩

theorem State.completeMeasurement_scan {v : Nat} {job : Option (Fin 4)} (scan : m.source = .scan job) :
    s.completeMeasurement m v = (s.writeResult m v).withMonitor
      { (s.writeResult m v).monitor with jobs := countMade job s.monitor.jobs, engine := none } := by
  have handed : (s.writeResult m v).handOn m v =
      (s.writeResult m v).withMonitor { (s.writeResult m v).monitor with jobs := countMade job s.monitor.jobs } := by
    unfold State.handOn
    rw [scan]
    rfl
  rw [State.completeMeasurement, handed]
  rfl

/-- A scan measurement whose job list is empty hands its limit notice alone, as no port moves and no job completes. -/
theorem State.notices_completeMeasurement {v : Nat} {job : Option (Fin 4)} (settled : s.settled) (scan : m.source = .scan job)
    (jobs : s.monitor.jobs = []) (silent : s.mli.notify = false) (limits : List Notice) :
    (s.eventSelecting (s.completeMeasurement m v) limits).notices = handNotices limits s.notices := by
  have completed := State.completeMeasurement_scan (s := s) (v := v) scan
  have wrote : ∀ q, (s.port q).Shows ((s.completeMeasurement m v).port q) ∧
      ((s.completeMeasurement m v).port q).tx = (s.port q).tx := fun q => by
    rw [completed, State.port_withMonitor, State.port_writeResult]
    split
    · next at_ => rw [at_]; exact ⟨⟨rfl, rfl, rfl, rfl, rfl, rfl, rfl, rfl⟩, rfl⟩
    · exact ⟨.refl _, rfl⟩
  obtain ⟨selects, -⟩ := (s.completeMeasurement m v).select_spec
  have done : (s.completeMeasurement m v).select.done = [] := State.select_done (by rw [completed, jobs]; rfl)
  have only : s.Only (s.completeMeasurement m v).select.state := (State.Only.completeMeasurement ..).trans (.select _)
  have shows_ : ∀ q, (s.port q).Shows ((s.completeMeasurement m v).select.state.port q) := fun q =>
    (wrote q).1.trans (selects.shows q)
  have tx : ∀ q, ((s.completeMeasurement m v).select.state.port q).tx = (s.port q).tx := fun q =>
    (selects.still q).tx.trans (wrote q).2
  have still : s.Still (s.completeMeasurement m v).select.state := ⟨by rw [only.plan], by rw [only.plan], by rw [only.plan],
    fun q => ⟨(shows_ q).state, (shows_ q).verdict, (shows_ q).ready, (shows_ q).phase, (shows_ q).kept, (shows_ q).fences, tx q⟩⟩
  have quiet := State.verdicts_quiet (before := s) (after := (s.completeMeasurement m v).select.state)
    (fun q => by rw [State.verdictDue, only.plan, (shows_ q).state]; exact settled.2.2 q)
    (fun q => by rw [State.currentPeer, State.currentPeer, (shows_ q).neighbor.1, (shows_ q).neighbor.2])
  have link : ∀ notices, State.startOutbound { (s.completeMeasurement m v).select.state with notices }
      = { (s.completeMeasurement m v).select.state with notices } := fun notices => State.startOutbound_settled (by
    rw [show State.mli { (s.completeMeasurement m v).select.state with notices } = s.mli from only.mli]
    exact settled.2.1.1.imp id fun idle => ⟨idle.1, .inr silent⟩)
  rw [State.eventSelecting, quiet, done, State.finish, still.conclude settled.1, link, only.notices]
  simp [doneNotices]

end

/-- Settles O50: the record is written before the search and the arbiter go on (`State.table_completeMeasurement`,
`State.select_spec`), and neither touches another port without a request of its lanes. -/
theorem completionsWriteTheResultTable : Obligations.CompletionsWriteTheResultTable := by
  intro s raw settled
  refine ⟨State.exec_measurementComplete_free, fun m busy => ?_⟩
  intro setup v status seq source
  obtain ⟨record, sequence, others, setups⟩ := s.results_writeResult m v
  have completes := s.completes_completeMeasurement m v
  obtain ⟨selects, selected⟩ := (s.completeMeasurement m v).select_spec
  have only : s.Only (s.completeMeasurement m v).select.state := completes.only.trans (.select _)
  rw [State.exec_measurementComplete busy rfl]
  refine Outcome.exists_next ?_
  have table : (s.writeResult m v).monitor.SameTable (s.eventSelecting (s.completeMeasurement m v)
      (limitNotices m (limitStatus v setup))).monitor :=
    (s.table_completeMeasurement m v).trans (selected.trans ((State.Withdraws.verdicts ..).trans (.finish ..)).table)
  refine ⟨?_, table.sequence.trans sequence, fun g other => ?_, table.setups.trans setups, ?_, fun empty q other low => ?_, ?_,
    fun job scan jobs silent => ?_⟩
  · rw [table.results, record]
    rfl
  · rw [table.results]
    exact others g other
  · obtain ⟨lanes, same, -⟩ := selects.port (lanePort m.lane)
    obtain ⟨pending, tx, own⟩ := completes.port_eventSelecting settled (limitNotices m (limitStatus v setup))
    rw [own, same]
    exact completes.measurements
  · have same : (s.completeMeasurement m v).select.state.port q = s.port q := by
      rw [selects.port_same, completes.at_.others q other]
      intro r mem
      rcases completes.queue r mem with old | own
      · rw [empty] at old; cases old
      · rw [own]; exact other.symm
    exact State.port_finish_other settled.1 settled.2.2 only same low _ _ _
  · exact State.sameDevice_finish (only.trans (.verdicts ..)) (((State.Withdraws.verdicts ..).setups.trans
      (selected.setups.trans (s.table_completeMeasurement m v).setups)).trans setups) _ _
  · rw [State.notices_completeMeasurement settled scan jobs silent, limitNotices_scan scan]
    show handNotices (if status = .within then _ else _) s.notices = _
    split <;> rfl

end Sys2Proof.Machine

/-! SUPPORT. A delivered result as a search step, and the request then served (R84 to R89, R104, R109). -/

namespace Sys2Proof.Machine

/-! ## Search steps -/

section
variable {ln : Lane} {v : Nat}

/-- The current run after a step (R87). -/
def Lane.runAfter (ln : Lane) (v : Nat) : Option Run := extendRun (decide (ln.passMv ≤ v)) ln.step ln.currentRun

/-- The best run after a step (R87). -/
def Lane.bestAfter (ln : Lane) (v : Nat) : Option Run :=
  if runWidth ln.bestRun < runWidth (ln.runAfter v) then ln.runAfter v else ln.bestRun

theorem Lane.eq_runAfter {run : Option Run} {low : Fin 32} (start : low = ln.currentRun.elim ln.step Run.low)
    (after : run = if ln.passMv ≤ v then some ⟨low, ln.step⟩ else none) : run = ln.runAfter v := by
  subst start after
  unfold Lane.runAfter extendRun
  by_cases pass : ln.passMv ≤ v
  · rw [if_pos pass, if_pos (decide_eq_true pass)]
    cases ln.currentRun <;> rfl
  · rw [if_neg pass, if_neg (by rw [decide_eq_false pass]; exact Bool.false_ne_true)]

theorem Lane.takeStep_pass (method : ln.method = .forced ∨ ln.method = .hold) (pass : ln.passMv ≤ v) :
    ln.takeStep v = ln.reach ln.step none false := by
  rcases method with method | method
  · simp only [Lane.takeStep, method, decide_eq_true pass, if_true]
  · simp only [Lane.takeStep, method, decide_eq_true pass, if_true]

theorem Lane.takeStep_forced (method : ln.method = .forced) (short : v < ln.passMv) :
    ln.takeStep v = ln.failSearch .forcedFail := by
  simp only [Lane.takeStep, method, decide_eq_false (Nat.not_le.mpr short), Bool.false_eq_true, if_false]

theorem Lane.takeStep_hold (method : ln.method = .hold) (short : v < ln.passMv) :
    ln.takeStep v = { ln with method := .midpoint, step := 0, currentRun := none, bestRun := none } := by
  simp only [Lane.takeStep, method, decide_eq_false (Nat.not_le.mpr short), Bool.false_eq_true, if_false]

theorem Lane.takeStep_midpoint (method : ln.method = .midpoint) : ln.takeStep v = ln.sweepStep (decide (ln.passMv ≤ v)) := by
  simp only [Lane.takeStep, method]

theorem Lane.takeStep_next {n : Fin 32} (method : ln.method = .midpoint) (next : n.val = ln.step.val + 1) :
    ln.takeStep v = { ln with currentRun := ln.runAfter v, bestRun := ln.bestAfter v, step := n } := by
  have more : ln.step.val < 31 := by omega
  rw [Lane.takeStep_midpoint method]
  refine (dif_pos more).trans ?_
  rw [show (⟨ln.step.val + 1, by omega⟩ : Fin 32) = n from Fin.ext next.symm]
  rfl

theorem Lane.takeStep_last (method : ln.method = .midpoint) (last : ln.step = 31) : ln.takeStep v =
    { ln with currentRun := ln.runAfter v, bestRun := ln.bestAfter v }.endSweep (ln.bestAfter v) := by
  rw [Lane.takeStep_midpoint method]
  refine dif_neg ?_
  show ¬ ln.step.val < 31
  rw [last]
  decide

theorem Lane.endSweep_some {r : Run} {c : Fin 32} (middle : c.val = (r.low.val + r.high.val) / 2) :
    ln.endSweep (some r) = ln.reach c (some r) (decide (r.width < ln.minWindow)) := by
  rw [show c = r.middle from Fin.ext middle]
  rfl

/-- A search step leaves the marker. -/
theorem Lane.takeStep_marker (ln : Lane) (v : Nat) : ({ ln with marker := .none } : Lane).takeStep v
    = { ln.takeStep v with marker := .none } := by
  obtain ⟨state, current, previous, forced, inversion, method, window, passMv, minWindow, step, run, best, losses, timer, marker,
    counted⟩ := ln
  cases method with
  | none => rfl
  | forced =>
    unfold Lane.takeStep
    dsimp only
    split <;> rfl
  | hold =>
    unfold Lane.takeStep
    dsimp only
    split <;> rfl
  | midpoint =>
    unfold Lane.takeStep Lane.sweepStep
    dsimp only
    split
    · rfl
    · generalize extendRun (decide (passMv ≤ v)) step run = after
      generalize (if runWidth best < runWidth after then after else best) = most
      cases most <;> rfl

theorem Lane.delivered_live (ln : Lane) (v : Nat) : ln.delivered true v = { ln.takeStep v with marker := .none } :=
  Lane.takeStep_marker ..

theorem Lane.delivered_stale (ln : Lane) (v : Nat) : ln.delivered false v = { ln with marker := .none } := rfl

end

/-! ## The head request is served -/

/-- A free engine without scan jobs serves the head request, if one waits. -/
structure State.ServesHead (s t : State) : Prop where
  queue : t.monitor.queue = s.monitor.queue.tail
  engine : t.monitor.engine.map (fun e => (e.lane, e.source)) = s.monitor.queue.head?.map fun r => (r.lane, .bringUp r.attempt)
  idle : ∀ (p : Fin 32) (l : Fin 4), (∀ r ∈ s.monitor.queue.head?, r.lane ≠ globalLane p l) → (t.port p).lane l = (s.port p).lane l
  marked : ∀ (p : Fin 32) (l : Fin 4) (r : BringUpRequest), s.monitor.queue.head? = some r → r.lane = globalLane p l →
    (t.port p).lane l = { (s.port p).lane l with marker := .inService }

theorem State.serves_head {s : State} (free : s.monitor.engine = none) (jobs : s.monitor.jobs = []) :
    s.ServesHead s.select.state ∧ s.select.done = [] := by
  cases queue : s.monitor.queue with
  | nil =>
    rw [State.select_nothing free queue jobs]
    exact ⟨⟨by rw [queue]; rfl, by rw [queue, free]; rfl, fun _ _ _ => rfl, fun p l r head => by rw [queue] at head; cases head⟩, rfl⟩
  | cons r rest =>
    rw [State.select_request free queue jobs]
    have marks : ∀ p, (s.serveRequest r rest).port p = (s.modLane r.lane fun ln => { ln with marker := .inService }).port p :=
      fun _ => rfl
    refine ⟨⟨by rw [queue]; rfl, by rw [queue]; rfl, fun p l other => ?_, fun p l r' head at_ => ?_⟩, rfl⟩
    · have apart := other r (by rw [queue]; rfl)
      rw [marks, State.modLane, State.port_modPort]
      split
      · next here =>
        subst here
        refine Port.lane_modLane_other _ _ _ fun same => apart ?_
        rw [same, globalLane_parts]
      · rfl
    · rw [queue] at head
      obtain rfl := Option.some_inj.mp head
      rw [marks, at_, State.modLane_globalLane, State.port_modPort_self, Port.lane_modLane_self]

/-! ## The event of a delivered result -/

section
variable {s : State} {m : Measurement} {p : Fin 32} {l : Fin 4} {attempt : BitVec 32} {v : Nat}

theorem limitNotices_bringUp (source : m.source = .bringUp attempt) (status : LimitStatus) : limitNotices m status = [] := by
  unfold limitNotices
  rw [source]

/-- The lane of a completed bring-up measurement is examined with its result. -/
theorem State.completeMeasurement_bringUp (lane : m.lane = globalLane p l) (source : m.source = .bringUp attempt) :
    s.completeMeasurement m v = (((s.writeResult m v).deliver p l attempt v).examineLanes p).withMonitor
      { (((s.writeResult m v).deliver p l attempt v).examineLanes p).monitor with engine := none } := by
  unfold State.completeMeasurement State.handOn
  rw [source, lane, lanePort_globalLane, lanePhysical_globalLane]

/-- The measurement is counted at the port. -/
theorem State.port_writeResult_own (lane : m.lane = globalLane p l) :
    (s.writeResult m v).port p = (s.port p).countMeasurement := by
  have at_ : lanePort m.lane = p := by rw [lane, lanePort_globalLane]
  rw [State.port_writeResult, at_, if_pos rfl]

end

end Sys2Proof.Machine

/-! SUPPORT. MEASUREMENT_COMPLETE of a search step (R84 to R89, R104). -/

namespace Sys2Proof.Machine

section
variable {s : State} {m : Measurement} {p : Fin 32} {l : Fin 4} {attempt : BitVec 32} {v : Nat}

/-- What holds of the port and the lane's result while the port goes on, with the engine free again. -/
structure State.Delivered (s u : State) (p : Fin 32) (l : Fin 4) (f : Lane → Lane) (queue : List BringUpRequest) : Prop where
  only : s.Only u
  others : ∀ q, q ≠ p → u.port q = s.port q
  own : u.port p = (s.port p).countMeasurement.modLane l f
  queue : u.monitor.queue = queue
  jobs : u.monitor.jobs = s.monitor.jobs
  free : u.monitor.engine = none

theorem State.delivered_of_deliver {f : Lane → Lane} {queue : List BringUpRequest} (lane : m.lane = globalLane p l)
    (source : m.source = .bringUp attempt)
    (goesOn : (s.port p).state ≠ .laneLock ∨ ∃ o : Fin 4, o ≠ l ∧ ((s.port p).lane o).state.isOpen = true)
    (delivers : (s.writeResult m v).deliver p l attempt v = ((s.writeResult m v).modPort p fun pt => pt.modLane l f).withMonitor
      { (s.writeResult m v).monitor with queue }) : s.Delivered (s.completeMeasurement m v) p l f queue := by
  have wrote := State.port_writeResult_own (s := s) (v := v) lane
  have at_ : (((s.writeResult m v).deliver p l attempt v)).port p = (s.port p).countMeasurement.modLane l f := by
    rw [delivers, State.port_withMonitor, State.port_modPort_self, wrote]
  have stays : ((s.writeResult m v).deliver p l attempt v).examineLanes p = (s.writeResult m v).deliver p l attempt v := by
    rcases goesOn with elsewhere | ⟨o, other, open_⟩
    · exact State.examineLanes_elsewhere (by rw [at_]; exact elsewhere)
    · exact State.examineLanes_open (l := o) (by rw [at_, Port.lane_modLane_other _ _ _ other]; exact open_)
  have others : ∀ q, q ≠ p → ((s.writeResult m v).deliver p l attempt v).port q = s.port q := fun q other => by
    have apart : q ≠ lanePort m.lane := by rw [lane, lanePort_globalLane]; exact other
    rw [delivers, State.port_withMonitor, State.port_modPort_other _ _ other, State.port_writeResult, if_neg apart]
  rw [State.completeMeasurement_bringUp lane source, stays]
  exact ⟨((State.Only.writeResult ..).trans (.deliver ..)).trans (.withMonitor ..), others, at_, by rw [delivers]; rfl,
    by rw [delivers]; rfl, rfl⟩

/-- The event of such a result leaves the selection's state. -/
theorem State.Delivered.event {u : State} {f : Lane → Lane} {queue : List BringUpRequest} (h : s.Delivered u p l f queue)
    (settled : s.settled) (jobs : s.monitor.jobs = []) :
    s.eventSelecting u [] = u.select.state ∧ u.ServesHead u.select.state
      ∧ (u.select.state.port p).state = (s.port p).state := by
  obtain ⟨serves, done⟩ := State.serves_head h.free (h.jobs.trans jobs)
  have selects := u.select_spec.1
  have mid : ∀ q, (s.port q).Shows (u.port q) ∧ (u.port q).tx = (s.port q).tx := fun q => by
    by_cases at_ : q = p
    · subst at_
      rw [h.own]
      exact ⟨⟨rfl, rfl, rfl, rfl, rfl, rfl, rfl, rfl⟩, rfl⟩
    · rw [h.others q at_]
      exact ⟨.refl _, rfl⟩
  have shows_ : ∀ q, (s.port q).Shows (u.select.state.port q) := fun q => (mid q).1.trans (selects.shows q)
  refine ⟨(State.eventSelecting_quiet (t := u.select.state) (by rw [← done])).trans
    (State.event_shows settled (h.only.trans (.select _)) shows_ fun q => ?_), serves, (shows_ p).state⟩
  rw [(selects.still q).tx, (mid q).2]
  exact settled.1 q

/-- What a lane result leaves when the port goes on: a search that ended, or its next step begun, and the head request served. -/
theorem State.exec_delivered {raw : BitVec 10} (settled : s.settled) (busy : s.monitor.engine = some m)
    (lane : m.lane = globalLane p l) (source : m.source = .bringUp attempt) (jobs : s.monitor.jobs = [])
    (apart : ∀ r ∈ s.monitor.queue, r.lane ≠ m.lane)
    (goesOn : (s.port p).state ≠ .laneLock ∨ ∃ o : Fin 4, o ≠ l ∧ ((s.port p).lane o).state.isOpen = true)
    (corrected : (max 0 (min 1023 ((raw.toNat : Int) + (s.monitor.setups.get m.lane).offset))).toNat = v) {x : Lane}
    (result : ((s.port p).lane l).delivered ((s.port p).live l attempt) v = x) :
    ∃ t, exec (.measurementComplete raw) s = .next t ∧ (t.port p).state = (s.port p).state
      ∧ (x.state ≠ .searching → (t.port p).lane l = x ∧ t.monitor.queue = s.monitor.queue.tail
        ∧ t.monitor.engine.map (fun e => (e.lane, e.source)) = s.monitor.queue.head?.map fun r => (r.lane, .bringUp r.attempt))
      ∧ (x.state = .searching →
        (t.port p).lane l = { x with current := x.step, marker := if s.monitor.queue = [] then .inService else .waiting }
        ∧ t.monitor.queue = (s.monitor.queue ++ [(⟨m.lane, (s.port p).attempt⟩ : BringUpRequest)]).tail
        ∧ t.monitor.engine.map (fun e => (e.lane, e.source)) =
          (s.monitor.queue ++ [(⟨m.lane, (s.port p).attempt⟩ : BringUpRequest)]).head?.map fun r => (r.lane, .bringUp r.attempt)) := by
  have wrote := State.port_writeResult_own (s := s) (v := v) lane
  have wroteLane : ((s.writeResult m v).port p).lane l = (s.port p).lane l := by rw [wrote]; rfl
  have wroteLive : ((s.writeResult m v).port p).live l attempt = (s.port p).live l attempt := by rw [wrote]; rfl
  rw [State.exec_measurementComplete busy corrected, limitNotices_bringUp source]
  by_cases goes : x.state = .searching
  · have delivers := State.deliver_begins (s := s.writeResult m v) (p := p) (l := l) (attempt := attempt) (v := v)
      (by rw [wroteLane, wroteLive, result]; exact goes)
    have delivered := State.delivered_of_deliver lane source goesOn delivers
    obtain ⟨event, serves, state⟩ := delivered.event settled jobs
    rw [event]
    refine Outcome.exists_next ⟨state, fun ended => absurd goes ended, fun _ => ?_⟩
    have queue : (s.completeMeasurement m v).monitor.queue = s.monitor.queue ++ [⟨m.lane, (s.port p).attempt⟩] := by
      rw [delivered.queue, wrote, lane]; rfl
    have begun : ((s.completeMeasurement m v).port p).lane l = x.beginStep := by
      rw [delivered.own, Port.lane_modLane_self, wroteLive]
      exact congrArg Lane.beginStep result
    refine ⟨?_, by rw [serves.queue, queue], by rw [serves.engine, queue]⟩
    cases waiting : s.monitor.queue with
    | nil =>
      rw [if_pos rfl, serves.marked p l ⟨m.lane, (s.port p).attempt⟩ (by rw [queue, waiting]; rfl) lane, begun]
      rfl
    | cons r rest =>
      rw [if_neg nofun, serves.idle p l, begun]
      · rfl
      · intro r' head
        rw [queue, waiting] at head
        rw [← Option.some_inj.mp head, ← lane]
        exact apart r (by rw [waiting]; exact List.mem_cons_self)
  · have delivers := State.deliver_ends (s := s.writeResult m v) (p := p) (l := l) (attempt := attempt) (v := v)
      (by rw [wroteLane, wroteLive, result]; exact goes)
    have delivered := State.delivered_of_deliver (queue := s.monitor.queue) lane source goesOn delivers
    obtain ⟨event, serves, state⟩ := delivered.event settled jobs
    rw [event]
    refine Outcome.exists_next ⟨state, fun _ => ⟨?_, ?_, ?_⟩, fun begun => absurd begun goes⟩
    · rw [serves.idle p l, delivered.own, Port.lane_modLane_self, wroteLive]
      · exact result
      · intro r head
        rw [delivered.queue] at head
        rw [← lane]
        exact apart r (List.mem_of_mem_head? head)
    · rw [serves.queue, delivered.queue]
    · rw [serves.engine, delivered.queue]

end

/-- Settles O46: the result is a search step (`Lane.takeStep_pass` and those after it), and the arbiter serves the head request
(`State.serves_head`). -/
theorem deliveredResultsDriveTheSearch : Obligations.DeliveredResultsDriveTheSearch := by
  intro s raw p l m attempt settled busy at_ source jobs apart goesOn ln v live
  have lane := globalLane_of_val at_
  obtain ⟨t, taken, state, ended, begun⟩ := State.exec_delivered (v := v) (raw := raw) settled busy lane source jobs apart
    (goesOn.imp id fun ⟨o, other, open_⟩ => ⟨o, other, LaneState.isOpen_iff.mpr open_⟩) rfl rfl
  have liveIff : (s.port p).live l attempt = true ↔ live := by
    simp only [Port.live, Bool.and_eq_true, decide_eq_true_iff, and_assoc]
    rfl
  have stale : ¬ live → ln.delivered ((s.port p).live l attempt) v = { ln with marker := .none } := fun not => by
    rw [(Bool.not_eq_true _).mp (mt liveIff.mp not)]
    exact Lane.delivered_stale ..
  have step : ∀ x, live → ln.takeStep v = x → ln.delivered ((s.port p).live l attempt) v = { x with marker := .none } :=
    fun x h result => by
      rw [liveIff.mpr h, ← result]
      exact Lane.delivered_live ..
  refine ⟨t, taken, state, ?_⟩
  intro served ended_ begun_ reached
  have ends : ∀ x, live → ln.takeStep v = x → x.state ≠ .searching → ended_ x := fun x h result done_ => by
    rw [show ((s.port p).lane l).delivered _ v = _ from step x h result] at ended
    exact ended done_
  have begins : ∀ x, live → ln.takeStep v = x → x.state = .searching → begun_ x := fun x h result goes => by
    rw [show ((s.port p).lane l).delivered _ v = _ from step x h result] at begun
    exact begun goes
  refine ⟨fun not done_ => ?_, fun not goes => ?_, fun h method pass => ends _ h (Lane.takeStep_pass method pass) nofun,
    fun h method short => ends _ h (Lane.takeStep_forced method short) nofun,
    fun h method short => begins _ h (Lane.takeStep_hold method short) h.2.2, fun h method => ?_⟩
  · rw [show ((s.port p).lane l).delivered _ v = _ from stale not] at ended
    exact ended done_
  · rw [show ((s.port p).lane l).delivered _ v = _ from stale not] at begun
    exact begun goes
  · intro run width best swept
    have widthIs : width = runWidth := funext fun o => by cases o <;> rfl
    have runIs : run = ln.runAfter v := Lane.eq_runAfter (by cases ln.currentRun <;> rfl) rfl
    have bestIs : best = ln.bestAfter v := by
      show (if width ln.bestRun < width run then run else ln.bestRun) = _
      rw [widthIs, runIs]
      rfl
    have sweptIs : swept = { ln with currentRun := ln.runAfter v, bestRun := ln.bestAfter v } := by rw [← runIs, ← bestIs]
    rw [widthIs, bestIs, sweptIs]
    refine ⟨fun n next => begins _ h (Lane.takeStep_next method next) h.2.2, fun last none_ => ?_, fun last r c some_ middle => ?_⟩
    · refine ends _ h ((Lane.takeStep_last method last).trans ?_) nofun
      rw [none_]
      rfl
    · refine ends _ h ((Lane.takeStep_last method last).trans ?_) nofun
      rw [some_]
      exact Lane.endSweep_some middle

end Sys2Proof.Machine

/-! SUPPORT. The last lane result of LANE_LOCK: ALIGN entry or NO_LANES (R36, R37, R119). -/

namespace Sys2Proof.Machine

/-- A port that entered ALIGN, its lane `l` aside. -/
def State.Aligning (s t : State) (p : Fin 32) (l : Fin 4) : Prop :=
  (t.port p).state = .align ∧ (t.port p).stageTimer = armMs s.params.alignTimeout
    ∧ (t.port p).deskew.phase = .markerWait ∧ (t.port p).deskew.collection = 0
    ∧ (t.port p).deskew.waitTimer = .running 13104 ∧ (t.port p).deskew.reference = none ∧ (t.port p).deskew.keptMask = 0
    ∧ (t.port p).deskew.mapClass = none ∧ (t.port p).deskew.skewExcess = false
    ∧ (∀ o : Fin 4, (t.port p).dlane o = DeskewLane.reset)
    ∧ (∀ o : Fin 4, o ≠ l → (t.port p).lane o = (s.port p).lane o) ∧ (t.port p).attempt = (s.port p).attempt
    ∧ (t.port p).neighbor = (s.port p).neighbor ∧ (t.port p).retryCount = (s.port p).retryCount

/-- The end of LANE_LOCK by a lane's result: ALIGN with a GOOD lane, NO_LANES without one. -/
def State.EndsLock (s t : State) (p : Fin 32) (l : Fin 4) (result : Lane) (kept : Fin 32 → Prop) : Prop :=
  s.sameDevice t
    ∧ (if result.state.isGood = true ∨ ∃ o : Fin 4, o ≠ l ∧ (s.port p).good o = true then
        s.Aligning t p l ∧ (t.port p).lane l = result ∧ ∀ q : Fin 32, q ≠ p → kept q
      else s.failed t p .noLanes 2 none ∧ ∀ q : Fin 32, q ≠ p → (s.port q).state.bearing = false → kept q)

/-- A port in LANE_LOCK whose last open lane has its result, before the lanes are examined. -/
structure State.LastResult (s u : State) (p : Fin 32) (l : Fin 4) (result : Lane) : Prop where
  only : s.Only u
  at_ : State.AtPort p s u
  state : (u.port p).state = .laneLock
  own : (u.port p).lane l = result
  others : ∀ o : Fin 4, o ≠ l → (u.port p).lane o = (s.port p).lane o
  stakes : (s.port p).Stakes (u.port p)
  neighbor : (u.port p).neighbor = (s.port p).neighbor
  setups : u.monitor.setups = s.monitor.setups

/-- Every other lane of the port has its result. -/
def Port.othersClosed (pt : Port) (l : Fin 4) : Prop :=
  ∀ o : Fin 4, o ≠ l → (pt.lane o).state = .fenced ∨ pt.good o = true ∨ (pt.lane o).state.isFailed = true

namespace State.LastResult

variable {s u : State} {p : Fin 32} {l : Fin 4} {result : Lane}

theorem closed (h : s.LastResult u p l result) (rest : (s.port p).othersClosed l) (ended : result.state.isOpen = false)
    (o : Fin 4) : ((u.port p).lane o).state.isOpen = false := by
  by_cases at_ : o = l
  · subst at_
    rw [h.own, ended]
  · rw [h.others o at_]
    exact LaneState.not_open_iff.mpr (rest o at_)

theorem good_iff (h : s.LastResult u p l result) :
    (∃ o, (u.port p).good o = true) ↔ result.state.isGood = true ∨ ∃ o : Fin 4, o ≠ l ∧ (s.port p).good o = true := by
  have own : (u.port p).good l = result.state.isGood := congrArg (fun ln : Lane => ln.state.isGood) h.own
  have other : ∀ o, o ≠ l → (u.port p).good o = (s.port p).good o := fun o apart =>
    congrArg (fun ln : Lane => ln.state.isGood) (h.others o apart)
  constructor
  · rintro ⟨o, good⟩
    by_cases at_ : o = l
    · subst at_
      exact .inl (own.symm.trans good)
    · exact .inr ⟨o, at_, (other o at_).symm.trans good⟩
  · rintro (good | ⟨o, apart, good⟩)
    · exact ⟨l, own.trans good⟩
    · exact ⟨o, (other o apart).trans good⟩

theorem examineLanes_good (h : s.LastResult u p l result) (rest : (s.port p).othersClosed l)
    (ended : result.state.isOpen = false)
    (good : result.state.isGood = true ∨ ∃ o : Fin 4, o ≠ l ∧ (s.port p).good o = true) :
    u.examineLanes p = u.modPort p (Port.enterAlign s.params) := by
  obtain ⟨o, goodO⟩ := h.good_iff.mpr good
  rw [State.examineLanes_good h.state (h.closed rest ended) goodO, h.only.params]

theorem examineLanes_none (h : s.LastResult u p l result) (rest : (s.port p).othersClosed l)
    (ended : result.state.isOpen = false)
    (bad : ¬ (result.state.isGood = true ∨ ∃ o : Fin 4, o ≠ l ∧ (s.port p).good o = true)) :
    u.examineLanes p = u.fail p .noLanes 2 none :=
  State.examineLanes_none h.state (h.closed rest ended) fun o => (Bool.not_eq_true _).mp fun good => bad (h.good_iff.mp ⟨o, good⟩)

/-- What the port holds in ALIGN. -/
theorem aligning (h : s.LastResult u p l result) {t : State} {pending : Bool} {tx : SidebandTx}
    (own : t.port p = { Port.enterAlign s.params (u.port p) with
      verdict := { (Port.enterAlign s.params (u.port p)).verdict with pending := pending }
      tx := tx }) : s.Aligning t p l ∧ (t.port p).lane l = result := by
  have dlane : ∀ (pr : Params) (pt : Port) (o : Fin 4), (pt.enterAlign pr).dlane o = DeskewLane.reset := fun pr pt o => by
    rw [Port.enterAlign, Port.startAlignment, Port.modDeskew, Port.dlane, Deskew.cleared, Table.get_ofFn]
    rfl
  rw [State.Aligning, own]
  exact ⟨⟨rfl, rfl, rfl, rfl, rfl, rfl, rfl, rfl, rfl, dlane _ _, h.others, h.stakes.attempt, h.neighbor, h.stakes.retryCount⟩,
    h.own⟩

/-- The entry to ALIGN brings no verdict and no new peer. -/
theorem alone (h : s.LastResult u p l result) : s.Alone (u.modPort p (Port.enterAlign s.params)) p := by
  refine ⟨h.only.trans (.modPort ..), h.at_.trans (.modPort ..), ?_, ?_⟩
  · rw [State.currentPeer, State.currentPeer, State.port_modPort_self]
    show (if (u.port p).neighbor.status = _ then (u.port p).neighbor.identity else none) = _
    rw [h.neighbor]
  · rw [State.verdictDue, State.port_modPort_self]
    exact Bool.and_false _

/-- An event that does nothing after the examination ends LANE_LOCK so. -/
theorem event (h : s.LastResult u p l result) (settled : s.settled) (rest : (s.port p).othersClosed l)
    (ended : result.state.isOpen = false) :
    s.EndsLock (s.event (u.examineLanes p)) p l result fun q => (s.event (u.examineLanes p)).port q = s.port q := by
  by_cases good : result.state.isGood = true ∨ ∃ o : Fin 4, o ≠ l ∧ (s.port p).good o = true
  · rw [State.EndsLock, if_pos good, h.examineLanes_good rest ended good]
    have alone := h.alone
    obtain ⟨pending, tx, own⟩ := alone.own_fields settled
    rw [State.port_modPort_self] at own
    obtain ⟨aligning, lane⟩ := h.aligning own
    exact ⟨State.sameDevice_event alone.only h.setups, aligning, lane, alone.others settled⟩
  · rw [State.EndsLock, if_neg good, h.examineLanes_none rest ended good]
    obtain ⟨failed, others, device⟩ := State.failed_event (cause := .noLanes) (stage := 2) (lane := none) settled
      (⟨h.only, h.at_, h.stakes, h.setups⟩ : s.Fails u p)
    exact ⟨device, failed, others⟩

end State.LastResult

section
variable {s : State} {p : Fin 32} {l : Fin 4}

/-- A lane that times out in LOCKING. -/
theorem State.lastResult_modLane (at_ : (s.port p).state = .laneLock) (f : Lane → Lane) :
    s.LastResult (s.modPort p fun pt => pt.modLane l f) p l (f ((s.port p).lane l)) := by
  refine ⟨.modPort .., .modPort .., ?_, ?_, fun o other => ?_, ?_, ?_, rfl⟩
  · rw [State.port_modPort_self]; exact at_
  · rw [State.port_modPort_self, Port.lane_modLane_self]
  · rw [State.port_modPort_self, Port.lane_modLane_other _ _ _ other]
  · rw [State.port_modPort_self]; exact ⟨Iff.rfl, rfl, rfl, rfl, rfl⟩
  · rw [State.port_modPort_self]; rfl

theorem Port.mapFin_lanes_one (pt : Port) (l : Fin 4) (f : Lane → Lane) {hit : Fin 4 → Bool} (only_ : ∀ o, hit o = true ↔ o = l) :
    { pt with lanes := pt.lanes.mapFin fun o ln => if hit o then f ln else ln } = pt.modLane l f := by
  have lanes : (pt.lanes.mapFin fun o ln => if hit o then f ln else ln) = pt.lanes.modify l f := Table.ext_get fun o => by
    rw [Table.get_mapFin]
    by_cases at_ : o = l
    · subst at_
      rw [if_pos ((only_ o).mpr rfl), Table.get_modify_self]
    · rw [if_neg (mt (only_ o).mp at_), Table.get_modify_other _ _ at_]
  rw [lanes]
  rfl

/-- A lane that loses lock in LANE_LOCK. -/
theorem State.lastResult_loses (at_ : (s.port p).state = .laneLock) {mask : BitVec 4}
    (only_ : ∀ o : Fin 4, mask.getLsbD o.val = true ↔ o = l) : ∃ u, s.loseLock p mask = u.examineLanes p
      ∧ s.LastResult u p l (((s.port p).lane l).loseLockInLaneLock s.params) := by
  obtain ⟨queue, same, -⟩ := State.withdrawLanes_eq p
    (fun l => mask.getLsbD l.val && decide (((s.port p).lane l).state = .searching)) allLanes (s.modPort p fun pt =>
      { pt with lanes := pt.lanes.mapFin fun l ln => if mask.getLsbD l.val then ln.loseLockInLaneLock s.params else ln })
  have lanes : (s.modPort p fun pt =>
      { pt with lanes := pt.lanes.mapFin fun l ln => if mask.getLsbD l.val then ln.loseLockInLaneLock s.params else ln })
      = s.modPort p fun pt => pt.modLane l (Lane.loseLockInLaneLock s.params) :=
    State.modPort_congr (Port.mapFin_lanes_one _ l _ only_)
  have one := State.lastResult_modLane (l := l) at_ (Lane.loseLockInLaneLock s.params)
  refine ⟨_, (State.loseLock_laneLock at_).trans (congrArg (fun t : State => t.examineLanes p) same), ?_⟩
  rw [lanes]
  exact ⟨one.only.trans (.withMonitor ..), one.at_.trans (.withMonitor ..), one.state, one.own, one.others, one.stakes,
    one.neighbor, rfl⟩

end

end Sys2Proof.Machine

/-! SUPPORT. The last lane result given by a measurement, and the selection after it (R36, R104, R109). -/

namespace Sys2Proof.Machine

/-! ## Selections compared -/

/-- Lanes that a selection cannot tell apart. -/
def Lane.Alike (a b : Lane) : Prop := a.state = b.state ∧ a.current = b.current

theorem State.select_congr {a b : State} (monitor : a.monitor = b.monitor) (lanes : ∀ g, (a.lane g).Alike (b.lane g)) :
    a.select.state.monitor = b.select.state.monitor := by
  have fenced : a.laneFenced = b.laneFenced := funext fun g => by rw [State.laneFenced, State.laneFenced, (lanes g).1]
  have scan : ∀ (jobs : List ScanJob) (g : Fin 128), ((a.withMonitor { a.monitor with jobs }).serveScan g).monitor
      = ((b.withMonitor { b.monitor with jobs }).serveScan g).monitor := fun jobs g => by
    unfold State.serveScan
    rw [State.monitor_withMonitor, State.monitor_withMonitor]
    dsimp only
    cases jobs with
    | nil => exact congrArg (fun m : Monitor => { m with jobs := [] }) monitor
    | cons j rest =>
      have current : (a.lane g).current = (b.lane g).current := (lanes g).2
      show ({ a.monitor with
        jobs := { j with next := g.val + 1 } :: rest, runCount := 0,
        engine := some ⟨g, .scan (some j.id), (a.lane g).current, .running Config.measurementTime⟩ } : Monitor) = _
      rw [monitor, current]
      rfl
  have request : ∀ (jobs : List ScanJob) (r : BringUpRequest) (rest : List BringUpRequest),
      ((a.withMonitor { a.monitor with jobs }).serveRequest r rest).monitor
      = ((b.withMonitor { b.monitor with jobs }).serveRequest r rest).monitor := fun jobs r rest => by
    have current : (a.lane r.lane).current = (b.lane r.lane).current := (lanes r.lane).2
    show ({ a.monitor with
      jobs := jobs, queue := rest, runCount := min 8 (a.monitor.runCount + 1),
      engine := some ⟨r.lane, .bringUp r.attempt, (a.lane r.lane).current, .running Config.measurementTime⟩ } : Monitor) = _
    rw [monitor, current]
    rfl
  have examined : examineJobs b.laneFenced b.monitor.jobs = examineJobs a.laneFenced a.monitor.jobs := by rw [monitor, fenced]
  cases engine : a.monitor.engine with
  | some e =>
    have engineB : b.monitor.engine = some e := by rw [← monitor, engine]
    simp only [State.select, engine, engineB]
    exact monitor
  | none =>
    have engineB : b.monitor.engine = none := by rw [← monitor, engine]
    cases queue : a.monitor.queue with
    | nil =>
      have queueB : b.monitor.queue = [] := by rw [← monitor, queue]
      cases lane : (examineJobs a.laneFenced a.monitor.jobs).lane with
      | none =>
        simp only [State.select, engine, engineB, examined, State.monitor_withMonitor, queue, queueB, lane]
        rw [monitor]
      | some g =>
        have := scan (examineJobs a.laneFenced a.monitor.jobs).jobs g
        simp only [State.select, engine, engineB, examined, State.monitor_withMonitor, queue, queueB, lane] at this ⊢
        exact this
    | cons r rest =>
      have queueB : b.monitor.queue = r :: rest := by rw [← monitor, queue]
      cases lane : (examineJobs a.laneFenced a.monitor.jobs).lane with
      | none =>
        have := request (examineJobs a.laneFenced a.monitor.jobs).jobs r rest
        simp only [State.select, engine, engineB, examined, State.monitor_withMonitor, queue, queueB, lane] at this ⊢
        exact this
      | some g =>
        have counts : b.monitor.runCount = a.monitor.runCount := by rw [monitor]
        have scans := scan (examineJobs a.laneFenced a.monitor.jobs).jobs g
        have requests := request (examineJobs a.laneFenced a.monitor.jobs).jobs r rest
        simp only [State.select, engine, engineB, examined, State.monitor_withMonitor, queue, queueB, lane, counts] at scans requests ⊢
        split
        · exact scans
        · exact requests

/-- A selection places no request. -/
theorem State.queue_select (s : State) : s.select.state.monitor.queue ⊆ s.monitor.queue := by
  have scan : ∀ (jobs : List ScanJob) (g : Fin 128), ((s.withMonitor { s.monitor with jobs }).serveScan g).monitor.queue
      = s.monitor.queue := fun jobs g => by
    unfold State.serveScan
    split <;> rfl
  unfold State.select
  split
  · exact List.Subset.refl _
  · dsimp only
    split
    · exact List.Subset.refl _
    · next r rest at_ none_ =>
      have at_ : s.monitor.queue = r :: rest := at_
      rw [at_]
      exact List.subset_cons_self ..
    · rw [scan]; exact List.Subset.refl _
    · next r rest g at_ some_ =>
      have at_ : s.monitor.queue = r :: rest := at_
      split
      · rw [scan]; exact List.Subset.refl _
      · rw [at_]
        exact List.subset_cons_self ..

/-! ## Conclusions -/

/-- Verdicts that no port can join. -/
theorem State.monitor_verdicts {s : State} (none_ : ∀ q, s.judgeable q = false) (before : State) (own : Fin 32 → Bool) :
    (s.verdicts before own).monitor = s.monitor := by
  unfold State.verdicts State.trigger
  dsimp only
  split
  · have empty : (allPorts.filter fun p => s.verdictDue p || ((s.port p).state.bearing && (reportMade before s || own p))) = [] :=
      List.filter_eq_nil_iff.mpr fun q _ => by
        obtain ⟨low, due⟩ := State.not_judgeable_iff.mp (none_ q)
        rw [low, due]
        exact Bool.false_ne_true
    rw [empty]
    rfl
  · rfl

/-- A port that shows what it showed has nothing to conclude. -/
theorem State.port_finish_shown {before after : State} {q : Fin 32} (only : before.Only after)
    (shows_ : (before.port q).Shows (after.port q)) (tx : (after.port q).tx.settled = true) (limits done : List Notice) :
    (before.finish after limits done).port q = after.port q := by
  have advertised : after.advertised q = before.advertised q := by
    simp only [State.advertised, State.advertisedPeer, State.expected, only.plan, Port.sentKept, Port.keptValid, shows_.state,
      shows_.verdict, shows_.ready, shows_.phase, shows_.kept, shows_.fences]
    rfl
  rw [State.port_finish]
  exact concludePort_quiet (by rw [shows_.state, Bool.and_not_self]) (promptDue_same shows_.state advertised) tx

/-! ## The event -/

/-- A port as an event leaves it that may have served a request of its lanes. -/
def State.KeptBut (s t : State) (q : Fin 32) : Prop := { t.port q with lanes := (s.port q).lanes } = s.port q
  ∧ ∀ o : Fin 4, (t.port q).lane o = (s.port q).lane o
    ∨ ((t.port q).lane o = { (s.port q).lane o with marker := .inService }
      ∧ ∃ r e, s.monitor.queue.head? = some r ∧ r.lane.val = 4 * q.val + o.val ∧ t.monitor.engine = some e
        ∧ e.lane = r.lane ∧ e.source = .bringUp r.attempt)

/-- The state of a selection as the engine found it free. -/
def State.unserved (s t : State) : State := t.withMonitor { t.monitor with
  engine := none
  queue := s.monitor.queue
  jobs := s.monitor.jobs
  runCount := s.monitor.runCount }

section
variable {s w u t : State} {p : Fin 32} {q : Fin 32}

/-- The served lane of another port. -/
theorem State.Selects.keptBut (selects : w.Selects u) (before : w.port q = s.port q) (queue : w.monitor.queue = s.monitor.queue)
    (after : t.port q = u.port q) (engine : t.monitor.engine = u.monitor.engine) : s.KeptBut t q := by
  obtain ⟨lanes, same, each⟩ := selects.port q
  rw [State.KeptBut, after, engine]
  refine ⟨by rw [same, before], fun o => ?_⟩
  rw [← before]
  refine (each o).imp id fun ⟨marked, r, rest, waiting, lane, e, served, at_, source⟩ => ⟨marked, r, e, ?_, ?_, served, at_, source⟩
  · rw [← queue, waiting]; rfl
  · rw [lane]; rfl

theorem State.Selects.alike (selects : w.Selects u) (g : Fin 128) : (w.lane g).Alike (u.lane g) := by
  obtain ⟨-, -, each⟩ := selects.port (lanePort g)
  rcases each (lanePhysical g) with same | ⟨marked, -⟩
  · exact ⟨congrArg Lane.state same.symm, congrArg Lane.current same.symm⟩
  · exact ⟨(congrArg Lane.state marked).symm, (congrArg Lane.current marked).symm⟩

end

/-- What a last result given by a measurement leaves, with the engine free for the selection. -/
structure State.Released (s w : State) (p : Fin 32) (u : State) : Prop where
  ports : u.ports = w.ports
  monitor : u.monitor = { s.monitor with engine := none, results := u.monitor.results, sequence := u.monitor.sequence }
  others : ∀ q, q ≠ p → w.port q = s.port q
  only : s.Only u
  apart : ∀ r ∈ s.monitor.queue, lanePort r.lane ≠ p

namespace State.Released

variable {s w u : State} {p : Fin 32}

theorem port (h : s.Released w p u) (q : Fin 32) : u.port q = w.port q :=
  congrArg (fun table : Table Port 32 => table.get q) h.ports

theorem queue (h : s.Released w p u) : u.monitor.queue = s.monitor.queue := by rw [h.monitor]

/-- The port of the result is not marked. -/
theorem own (h : s.Released w p u) : u.select.state.port p = w.port p := by
  rw [u.select_spec.1.port_same (q := p) (by rw [h.queue]; exact h.apart), h.port]

theorem other (h : s.Released w p u) {q : Fin 32} (apart : q ≠ p) : u.port q = s.port q := (h.port q).trans (h.others q apart)

theorem onlySelect (h : s.Released w p u) : s.Only u.select.state := h.only.trans (.select _)

theorem setups (h : s.Released w p u) : u.select.state.monitor.setups = s.monitor.setups := by
  rw [u.select_spec.2.setups, h.monitor]

/-- The rest of the conclusion: the selection is the one that the engine found free makes. -/
theorem unserved (h : s.Released w p u) {t : State} (monitor : t.monitor = u.select.state.monitor)
    (lanes : ∀ q, (t.port q).lanes = (u.select.state.port q).lanes) : t.monitor = (s.unserved t).select.state.monitor := by
  obtain ⟨selects, table⟩ := u.select_spec
  refine monitor.trans (State.select_congr ?_ fun g => ?_)
  · rw [h.monitor]
    show _ = ({ t.monitor with engine := none, queue := _, jobs := _, runCount := _ } : Monitor)
    rw [monitor, ← table.results, ← table.sequence]
    have setups := h.setups
    generalize u.select.state.monitor = m at setups
    dsimp only
    rw [setups]
  · have same : (s.unserved t).lane g = u.select.state.lane g :=
      congrArg (fun table : Table Lane 4 => table.get (lanePhysical g)) (lanes (lanePort g))
    rw [same]
    exact selects.alike g

end State.Released

namespace State.LastResult

variable {s u w v : State} {p : Fin 32} {l : Fin 4} {result : Lane}

/-- ALIGN entry at a completion. -/
theorem selecting_good (h : s.LastResult u p l result) (settled : s.settled)
    (released : s.Released (u.modPort p (Port.enterAlign s.params)) p v) :
    s.sameDevice (s.eventSelecting v []) ∧ s.Aligning (s.eventSelecting v []) p l
      ∧ ((s.eventSelecting v []).port p).lane l = result ∧ (∀ q, q ≠ p → s.KeptBut (s.eventSelecting v []) q)
      ∧ (s.eventSelecting v []).monitor = (s.unserved (s.eventSelecting v [])).select.state.monitor := by
  have selects := v.select_spec.1
  have own : v.select.state.port p = Port.enterAlign s.params (u.port p) := by rw [released.own, State.port_modPort_self]
  have alone := h.alone
  have shows_ : ∀ q, q ≠ p → (s.port q).Shows (v.select.state.port q) := fun q other => by
    have := selects.shows q
    rwa [released.other other] at this
  have quiet := State.verdicts_quiet (before := s) (after := v.select.state)
    (fun q => by
      by_cases at_ : q = p
      · subst at_
        rw [State.verdictDue, own]
        exact Bool.and_false _
      · rw [State.verdictDue, released.onlySelect.plan, (shows_ q at_).state]
        exact settled.2.2 q)
    (fun q => by
      by_cases at_ : q = p
      · subst at_
        rw [alone.currentPeer q, State.currentPeer, State.currentPeer, State.port_modPort_self, own]
      · rw [State.currentPeer, State.currentPeer, (shows_ q at_).neighbor.1, (shows_ q at_).neighbor.2])
  have event : s.eventSelecting v [] = s.finish v.select.state [] (doneNotices v.select.done) := by
    rw [State.eventSelecting, quiet]
  have after : ∀ q, q ≠ p → (s.eventSelecting v []).port q = v.select.state.port q := fun q other => by
    rw [event]
    refine State.port_finish_shown released.onlySelect (shows_ q other) ?_ _ _
    rw [(selects.still q).tx, released.other other]
    exact settled.1 q
  obtain ⟨pending, tx, concluded⟩ := concludePort_eq s v.select.state p (v.select.state.port p)
  have atEnd := (congrArg (State.port · p) event).trans ((State.port_finish ..).trans concluded)
  rw [own] at atEnd
  have monitor : (s.eventSelecting v []).monitor = v.select.state.monitor := by rw [event, State.monitor_finish]
  obtain ⟨aligning, lane⟩ := h.aligning atEnd
  refine ⟨?_, aligning, lane, fun q other => ?_, released.unserved monitor fun q => ?_⟩
  · rw [event]
    exact State.sameDevice_finish released.onlySelect released.setups _ _
  · exact selects.keptBut (released.other other) released.queue (after q other) (by rw [monitor])
  · by_cases at_ : q = p
    · subst at_
      rw [atEnd, own]
    · rw [after q at_]

/-- NO_LANES at a completion. -/
theorem selecting_none (h : s.LastResult u p l result) (settled : s.settled)
    (released : s.Released (u.fail p .noLanes 2 none) p v) :
    s.sameDevice (s.eventSelecting v []) ∧ s.failed (s.eventSelecting v []) p .noLanes 2 none
      ∧ (∀ q, q ≠ p → (s.port q).state.bearing = false → s.KeptBut (s.eventSelecting v []) q)
      ∧ ((s.eventSelecting v []).port p).state ≠ .align
      ∧ ((∀ q, q ≠ p → (s.port q).state.bearing = false) →
        (s.eventSelecting v []).monitor = (s.unserved (s.eventSelecting v [])).select.state.monitor) := by
  have selects := v.select_spec.1
  have failedAt : (u.fail p .noLanes 2 none).port p = (u.port p).fail (s.expected p).base s.params p .noLanes 2 none := by
    rw [State.fail, State.port_withdrawPort, State.port_modPort_self, State.expected, State.expected, h.only.plan, h.only.params]
  have own : v.select.state.port p = (u.port p).fail (s.expected p).base s.params p .noLanes 2 none := by
    rw [released.own, failedAt]
  have apart : v.select.state.judgeable p = false :=
    (State.judgeable_congr (released.onlySelect.plan.trans (h.only.trans (.fail ..)).plan.symm) released.own).trans
      (State.judgeable_fail ..)
  have low : ∀ q, q ≠ p → (s.port q).state.bearing = false → v.select.state.judgeable q = false := fun q other rests => by
    have shows_ := selects.shows q
    rw [released.other other] at shows_
    refine State.not_judgeable_iff.mpr ⟨by rw [shows_.state, rests], ?_⟩
    rw [State.verdictDue, released.onlySelect.plan, shows_.state]
    exact settled.2.2 q
  have onlyAll : s.Only (v.select.state.verdicts s fun _ => false) := released.onlySelect.trans (.verdicts ..)
  have after : ∀ q, q ≠ p → (s.port q).state.bearing = false → (s.eventSelecting v []).port q = v.select.state.port q :=
    fun q other rests => by
      have unjudged := State.port_verdicts_apart (low q other rests) s fun _ => false
      have shows_ := selects.shows q
      rw [released.other other] at shows_
      refine (State.port_finish_shown onlyAll (by rw [unjudged]; exact shows_) ?_ _ _).trans unjudged
      rw [unjudged, (selects.still q).tx, released.other other]
      exact settled.1 q
  obtain ⟨pending, tx, atEnd⟩ := State.port_finish_own (s := s) apart (fun _ => false) [] (doneNotices v.select.done)
  rw [own] at atEnd
  have withdraws : v.select.state.Withdraws (s.eventSelecting v []) := (State.Withdraws.verdicts ..).trans (.finish ..)
  have gone : ∀ r ∈ v.select.state.monitor.queue, lanePort r.lane ≠ p := fun r mem =>
    released.apart r (by rw [← released.queue]; exact v.queue_select mem)
  refine ⟨State.sameDevice_finish onlyAll ((State.Withdraws.verdicts ..).setups.trans released.setups) _ _,
    State.failed_of_port h.stakes ⟨pending, tx, atEnd⟩ (withdraws.none_of gone), fun q other rests => ?_, fun aligned => ?_,
    fun rests => ?_⟩
  · exact selects.keptBut (released.other other) released.queue (after q other rests) (by rw [withdraws.rest])
  · rw [show (s.eventSelecting v []).port p = _ from atEnd] at aligned
    rcases Port.state_fail (s.expected p).base s.params p .noLanes 2 none (u.port p) with state | state
    · cases state.symm.trans aligned
    · cases state.symm.trans aligned
  · have monitor : (s.eventSelecting v []).monitor = v.select.state.monitor :=
      (State.monitor_finish ..).trans (State.monitor_verdicts (fun q => by
        by_cases at_ : q = p
        · subst at_; exact apart
        · exact low q at_ (rests q at_)) ..)
    refine released.unserved monitor fun q => ?_
    by_cases at_ : q = p
    · subst at_
      exact (congrArg Port.lanes atEnd).trans (congrArg Port.lanes own).symm
    · rw [after q at_ (rests q at_)]

end State.LastResult

end Sys2Proof.Machine

/-! SUPPORT. The three ends of LANE_LOCK by a lane's result (R36, R82, R85 to R88, R92). -/

namespace Sys2Proof.Machine

section
variable {s : State} {m : Measurement} {p : Fin 32} {l : Fin 4} {v : Nat} {x : Lane}

/-- A search step that ends the search of the last open lane. -/
theorem State.lastResult_deliver (at_ : (s.port p).state = .laneLock) (lane : m.lane = globalLane p l)
    (live : (s.port p).live l (s.port p).attempt = true) (result : ((s.port p).lane l).takeStep v = x)
    (ended : x.state.isOpen = false) :
    s.LastResult ((s.writeResult m v).deliver p l (s.port p).attempt v) p l { x with marker := .none }
      ∧ ((s.writeResult m v).deliver p l (s.port p).attempt v).monitor = (s.writeResult m v).monitor := by
  have wrote := State.port_writeResult_own (s := s) (v := v) lane
  have wroteLive : ((s.writeResult m v).port p).live l (s.port p).attempt = true := by rw [wrote]; exact live
  have delivered : (((s.writeResult m v).port p).lane l).delivered
      (((s.writeResult m v).port p).live l (s.port p).attempt) v = { x with marker := .none } := by
    rw [wroteLive, wrote, Lane.delivered_live]
    exact congrArg (fun y : Lane => { y with marker := .none }) result
  have ends := State.deliver_ends (s := s.writeResult m v) (p := p) (l := l) (attempt := (s.port p).attempt) (v := v) (by
    rw [delivered]
    intro searching
    rw [show x.state = .searching from searching] at ended
    cases ended)
  have own : ((s.writeResult m v).deliver p l (s.port p).attempt v).port p = (s.port p).countMeasurement.modLane l
      (Lane.delivered (((s.writeResult m v).port p).live l (s.port p).attempt) v) := by
    rw [ends, State.port_modPort_self, wrote]
  have portOf : lanePort m.lane = p := by rw [lane, lanePort_globalLane]
  refine ⟨⟨(State.Only.writeResult ..).trans (.deliver ..), ?_, ?_, ?_, fun o other => ?_, ?_, ?_, ?_⟩, by rw [ends]; rfl⟩
  · subst portOf
    exact ((State.AtPort.withMonitor ..).trans (.modPort ..)).trans (.deliver ..)
  · rw [own]; exact at_
  · rw [own, Port.lane_modLane_self, ← delivered, wrote]
  · rw [own, Port.lane_modLane_other _ _ _ other]; rfl
  · rw [own]; exact ⟨Iff.rfl, rfl, rfl, rfl, rfl⟩
  · rw [own]; rfl
  · rw [ends]; rfl

/-- What the completion of such a step releases. -/
theorem State.released_completeMeasurement {u w : State} (lane : m.lane = globalLane p l)
    (source : m.source = .bringUp (s.port p).attempt) (apart : ∀ r ∈ s.monitor.queue, lanePort r.lane ≠ p)
    (delivers : (s.writeResult m v).deliver p l (s.port p).attempt v = u) (examines : u.examineLanes p = w)
    (monitor : w.monitor = { u.monitor with queue := u.monitor.queue.filter fun r => lanePort r.lane != p } ∨ w.monitor = u.monitor)
    (same : u.monitor = (s.writeResult m v).monitor) (others : ∀ q, q ≠ p → w.port q = s.port q) :
    s.Released w p (s.completeMeasurement m v) := by
  have completed : s.completeMeasurement m v = w.withMonitor { w.monitor with engine := none } := by
    rw [State.completeMeasurement_bringUp lane source, delivers, examines]
  have stays : w.monitor = u.monitor := by
    refine monitor.elim (fun filtered => ?_) id
    have all : u.monitor.queue.filter (fun r => lanePort r.lane != p) = u.monitor.queue := List.filter_eq_self.mpr fun r mem => by
      rw [same] at mem
      exact bne_iff_ne.mpr (apart r mem)
    rw [filtered, all]
  refine ⟨by rw [completed]; rfl, ?_, others, .completeMeasurement .., apart⟩
  rw [completed, State.monitor_withMonitor, stays, same]
  rfl

/-- The completion of the last open lane's last step. -/
theorem State.exec_lastMeasurement {raw : BitVec 10} (settled : s.settled) (at_ : (s.port p).state = .laneLock)
    (rest : (s.port p).othersClosed l) (busy : s.monitor.engine = some m) (lane : m.lane = globalLane p l)
    (source : m.source = .bringUp (s.port p).attempt) (live : (s.port p).live l (s.port p).attempt = true)
    (apart : ∀ r ∈ s.monitor.queue, lanePort r.lane ≠ p)
    (corrected : (max 0 (min 1023 ((raw.toNat : Int) + (s.monitor.setups.get m.lane).offset))).toNat = v)
    (result : ((s.port p).lane l).takeStep v = x) (ended : x.state.isOpen = false) :
    ∃ t, exec (.measurementComplete raw) s = .next t ∧ s.EndsLock t p l { x with marker := .none } (s.KeptBut t)
      ∧ ((t.port p).state = .align ∨ (∀ q : Fin 32, q ≠ p → (s.port q).state.bearing = false) →
        t.monitor = (s.unserved t).select.state.monitor) := by
  obtain ⟨last, monitor⟩ := State.lastResult_deliver (m := m) (v := v) at_ lane live result ended
  rw [State.exec_measurementComplete busy corrected, limitNotices_bringUp source]
  refine Outcome.exists_next ?_
  by_cases good : x.state.isGood = true ∨ ∃ o : Fin 4, o ≠ l ∧ (s.port p).good o = true
  · have released := State.released_completeMeasurement lane source apart rfl (last.examineLanes_good rest ended good)
      (.inr rfl) monitor (last.at_.trans (.modPort ..)).others
    obtain ⟨device, aligning, own, kept, selection⟩ := last.selecting_good settled released
    rw [State.EndsLock, if_pos good]
    exact ⟨⟨device, aligning, own, kept⟩, fun _ => selection⟩
  · have released := State.released_completeMeasurement lane source apart rfl (last.examineLanes_none rest ended good)
      (.inl rfl) monitor (last.at_.trans (.fail ..)).others
    obtain ⟨device, failed, kept, elsewhere, selection⟩ := last.selecting_none settled released
    rw [State.EndsLock, if_neg good]
    exact ⟨⟨device, failed, kept⟩, fun rests => selection (rests.resolve_left elsewhere)⟩

end

/-- Settles O47: the three events end in the same examination (`State.LastResult`), and a measurement's engine goes on to what the
arbiter selects (`State.select_congr`). -/
theorem lastLaneResultEndsLaneLock : Obligations.LastLaneResultEndsLaneLock := by
  intro s p l settled at_ rest queue ln aligning ends
  refine ⟨fun locking running => ?timeout, fun mask only_ searching third => ?loss,
    fun raw m busy number source searching marker apart => ?_⟩
  case timeout =>
    have taken : exec (.lockTimerExpiry p l) s = .next (s.event ((s.modPort p fun pt =>
        pt.modLane l Lane.lockTimeout).examineLanes p)) := if_pos ⟨locking, running⟩
    rw [taken]
    exact Outcome.exists_next ((State.lastResult_modLane at_ Lane.lockTimeout).event settled rest rfl)
  case loss =>
    obtain ⟨u, loses, last⟩ := State.lastResult_loses at_ only_
    have taken : exec (.lossOfLock p mask) s = .next (s.event (u.examineLanes p)) :=
      congrArg (fun t => Host.Outcome.next (s.event t)) loses
    have lost : ln.loseLockInLaneLock s.params = { ln with
        state := .failed .noLock, current := ln.previous, lockLosses := ln.lockLosses + 1,
        marker := if ln.marker = .inService ∨ ln.marker = .abandoned then .abandoned else .none } := by
      rw [Lane.loseLockInLaneLock_locked (LaneState.locked_iff.mpr (.inl searching)), Lane.relocked]
      exact if_neg (Nat.not_lt.mpr third)
    rw [show ((s.port p).lane l).loseLockInLaneLock s.params = _ from lost] at last
    rw [taken]
    exact Outcome.exists_next (last.event settled rest rfl)
  intro v kept free results reached
  have live : (s.port p).live l (s.port p).attempt = true := by
    rw [Port.live, decide_eq_true rfl, decide_eq_true (show ((s.port p).lane l).marker = _ from marker),
      decide_eq_true (show ((s.port p).lane l).state = _ from searching)]
    rfl
  have ended : ∀ x, ln.takeStep v = x → x.state.isOpen = false → results x := fun x result closed =>
    State.exec_lastMeasurement settled at_ rest busy (globalLane_of_val number) source live apart rfl result closed
  refine ⟨fun method pass => ended _ (Lane.takeStep_pass method pass) rfl,
    fun method short => ended _ (Lane.takeStep_forced method short) rfl, fun method last => ?_⟩
  intro run width best swept
  have widthIs : width = runWidth := funext fun o => by cases o <;> rfl
  have runIs : run = ln.runAfter v := Lane.eq_runAfter (by cases ln.currentRun <;> rfl) rfl
  have bestIs : best = ln.bestAfter v := by
    show (if width ln.bestRun < width run then run else ln.bestRun) = _
    rw [widthIs, runIs]
    rfl
  have sweptIs : swept = { ln with currentRun := ln.runAfter v, bestRun := ln.bestAfter v } := by rw [← runIs, ← bestIs]
  rw [widthIs, bestIs, sweptIs]
  refine ⟨fun none_ => ended _ ((Lane.takeStep_last method last).trans ?_) rfl,
    fun r c some_ middle => ended _ ((Lane.takeStep_last method last).trans ?_) rfl⟩
  · rw [none_]
    rfl
  · rw [some_]
    exact Lane.endSweep_some middle

end Sys2Proof.Machine

/-! SUPPORT. PLAN_END: the close and what the ports make of it (R14 to R19, R22, R38). -/

namespace Sys2Proof.Machine

/-! ## Requests at an idle link that may start verdicts -/

/-- The end of a request that led to `c`: its reply is being sent. -/
def State.answered (s c : State) (f : Frame) (content : List Byte) : State :=
  (s.hunt.conclude c [] []).modMli fun m =>
    { m with
      sending := some ⟨(replyTo f ⟨.ok, content, false⟩).frame, false⟩
      resetPending := false }

section
variable {s c : State} {f : Frame} {content : List Byte}

theorem State.takeWhole_answered (ready : s.ready) (answer : s.hunt.answer f = takes c .ok content) :
    s.takeWhole f = s.answered c f content := by
  have ⟨idle, _, _⟩ := ready
  rw [State.takeWhole_idle idle, answer]
  rfl

theorem State.mli_answered (ready : s.ready) (kept : c.mli = s.hunt.mli) :
    (s.answered c f content).mli = (s.replying f.tag f.kind .ok content).mli := by
  have ⟨⟨_, _, _, noReset⟩, _, _⟩ := ready
  show ({ c.mli with sending := _, resetPending := false } : Mli) = _
  rw [kept]
  simp [State.hunt, State.modMli, State.replying, replyTo, Answer.payload, noReset]

theorem State.port_answered (s c : State) (f : Frame) (content : List Byte) (p : Fin 32) :
    (s.answered c f content).port p = concludePort s.hunt c p (c.port p) := State.port_conclude (limits := []) (done := []) ..

/-- A port that the request left, under the plan as it was, has nothing to conclude. -/
theorem State.port_answered_same (ready : s.ready) (only : s.hunt.Only c) {p : Fin 32} (same : c.port p = s.port p) :
    (s.answered c f content).port p = s.port p := by
  have ⟨_, settled, _⟩ := ready
  exact State.port_conclude_same (before := s.hunt) (after := c) only.plan same (settled p) [] []

/-- A port that bears no verdict and that the request left is kept through the verdicts it starts. -/
theorem State.port_answered_other {u : State} (ready : s.ready) (only : s.hunt.Only u) {p : Fin 32} (same : u.port p = s.port p)
    (low : (s.port p).state.bearing = false) (own : Fin 32 → Bool) :
    (s.answered (u.verdicts s.hunt own) f content).port p = s.port p := by
  have ⟨_, _, none_⟩ := ready
  have apart : u.judgeable p = false :=
    (State.judgeable_congr (s := s.hunt) only.plan same).trans (State.not_judgeable_iff.mpr ⟨low, none_ p⟩)
  exact State.port_answered_same ready (only.trans (.verdicts ..)) ((State.port_verdicts_apart apart ..).trans same)

/-- A port that the request left where it can join no pass. -/
theorem State.port_answered_own {u : State} {p : Fin 32} (apart : u.judgeable p = false) (own : Fin 32 → Bool) :
    (s.answered (u.verdicts s.hunt own) f content).port p = concludePort s.hunt (u.verdicts s.hunt own) p (u.port p) := by
  rw [State.port_answered, State.port_verdicts_apart apart]

end

/-- A port whose verdict has no pending flag keeps it whole. -/
theorem concludePort_of_settled (before after : State) (p : Fin 32) {pt : Port} (settled : pt.verdict.pending = false) :
    ∃ tx, concludePort before after p pt = { pt with tx := tx } := by
  cases left : (before.port p).state.bearing && !pt.state.bearing with
  | true =>
    have same : ({ pt.verdict with pending := false } : Verdict) = pt.verdict := by rw [← settled]
    simp only [concludePort, left, if_true, same]
    exact ⟨_, rfl⟩
  | false =>
    simp only [concludePort, left, Bool.false_eq_true, if_false]
    exact ⟨_, rfl⟩

/-! ## PLAN_END (R14) -/

theorem State.answer_planEnd (s : State) (tag : Byte) (generation : BitVec 16) :
    s.answer ⟨tag, 0x04, byte2 generation.toNat⟩ =
      if s.plan.state ≠ .loading then refuse s .wrongState
      else if generation = 0 then refuse s .argRange
      else takes (s.closePlan generation) .ok (byte2 (s.closePlan generation).plan.generation.toNat
        ++ byte4 (s.closePlan generation).plan.epoch.toNat ++ byte1 (s.closePlan generation).plan.changedCount) := by
  have read : BitVec.ofNat 16 (numberAt (byte2 generation.toNat) 0 2) = generation := by
    rw [numberAt, byte2, List.drop_zero, List.take_of_length_le (Nat.le_of_eq (numberBytes_length 2 _))]
    exact ofNat_readNumber generation rfl
  rw [s.answer_of_known rfl rfl]
  change s.takePlanEnd (byte2 generation.toNat) = _
  unfold State.takePlanEnd
  rw [read]

/-! ## What a close does to a port -/

section
variable {e : Effective} {pt : Port}

theorem Port.meetClose_other (other : ∀ taken, pt.state ≠ .verify (.planWait taken)) :
    pt.meetClose e = { pt with retryCount := clampRetry e.base pt.retryCount } := by
  unfold Port.meetClose Port.releasePlanWait
  dsimp only
  split
  · next taken waits => exact absurd waits (other taken)
  all_goals rfl

/-- A port that waits for its verdict has it due. -/
theorem Port.meetClose_due {taken : Bool} (waits : pt.state = .verify (.planWait taken))
    (due : taken = true ∨ e.kind = .unused) : pt.meetClose e =
      { pt with retryCount := clampRetry e.base pt.retryCount, stageTimer := pt.stageTimer.resume } := by
  have falls : (taken || decide (e.kind = .unused)) = true := by
    rw [Bool.or_eq_true, decide_eq_true_iff]
    exact due
  unfold Port.meetClose Port.releasePlanWait
  dsimp only
  rw [waits]
  exact if_pos falls

theorem Port.meetClose_mask (waits : pt.state = .verify (.planWait false)) (used : e.kind ≠ .unused) : pt.meetClose e =
    Port.enterMaskWait { pt with retryCount := clampRetry e.base pt.retryCount, stageTimer := pt.stageTimer.resume } := by
  have not : (false || decide (e.kind = .unused)) ≠ true := by
    rw [Bool.false_or, decide_eq_true_iff.ne]
    exact used
  unfold Port.meetClose Port.releasePlanWait
  dsimp only
  rw [waits]
  exact if_neg not

end

/-! ## The close -/

/-- The part with the plan closed, before any verdict. -/
def State.closing (s : State) (generation : BitVec 16) : State :=
  (s.withPlan (s.plan.close generation)).mapPorts fun p pt => pt.meetClose ((s.plan.close generation).cache.get p)

theorem State.port_closing (s : State) (generation : BitVec 16) (p : Fin 32) :
    (s.closing generation).port p = (s.port p).meetClose ((s.plan.close generation).cache.get p) :=
  State.port_mapPorts ..

theorem State.closePlan_eq (s : State) (generation : BitVec 16) : s.closePlan generation =
    (s.closing generation).verdicts s fun p => (s.plan.close generation).changed.get p || (s.port p).verdict.pending := rfl

theorem State.plan_closePlan (s : State) (generation : BitVec 16) : (s.closePlan generation).plan = s.plan.close generation :=
  (State.Only.verdicts ..).plan

/-- What no verdict of the close can reach stands as the close left it. -/
theorem State.port_closePlan {s : State} {generation : BitVec 16} {p : Fin 32} {pt : Port}
    (left_ : (s.port p).meetClose ((s.plan.close generation).cache.get p) = pt) (low : pt.state.bearing = false)
    (settles : ∀ taken, pt.state ≠ .verify (.planWait taken)) : (s.closePlan generation).port p = pt := by
  have at_ : (s.closing generation).port p = pt := (State.port_closing ..).trans left_
  rw [State.closePlan_eq, State.port_verdicts_apart, at_]
  refine State.not_judgeable_iff.mpr ⟨by rw [at_, low], (Bool.not_eq_true _).mp fun due => ?_⟩
  obtain ⟨-, taken, waits⟩ := State.verdictDue_eq_true.mp due
  rw [at_] at waits
  exact settles taken waits

/-- The end of a PLAN_END. -/
def State.closed (s : State) (tag : Byte) (generation : BitVec 16) : State :=
  s.answered (s.hunt.closePlan generation) ⟨tag, 0x04, byte2 generation.toNat⟩ (byte2 generation.toNat
    ++ byte4 (s.plan.epoch + 1).toNat ++ byte1 (s.plan.close generation).changedCount)

theorem State.exec_planEnd {s : State} {tag : Byte} {generation : BitVec 16} (ready : s.ready) (loading : s.plan.state = .loading)
    (nonzero : generation ≠ 0) : exec (.planEnd tag generation) s = .next (s.closed tag generation) := by
  have answer : s.hunt.answer ⟨tag, 0x04, byte2 generation.toNat⟩ = takes (s.hunt.closePlan generation) .ok
      (byte2 generation.toNat ++ byte4 (s.plan.epoch + 1).toNat ++ byte1 (s.plan.close generation).changedCount) := by
    refine (State.answer_planEnd ..).trans ((if_neg (not_not.mpr loading)).trans ((if_neg nonzero).trans ?_))
    rw [State.plan_closePlan]
    rfl
  exact congrArg Host.Outcome.next (State.takeWhole_answered ready answer)

theorem State.port_closed (s : State) (tag : Byte) (generation : BitVec 16) (p : Fin 32) : (s.closed tag generation).port p =
    concludePort s.hunt (s.hunt.closePlan generation) p ((s.hunt.closePlan generation).port p) := State.port_answered ..

/-- Settles O18: the close is `Plan.close`, and what it leaves of a port that no verdict reaches (`State.port_closePlan`) only its
conclusion follows. -/
theorem planEndClosesThePlan : Obligations.PlanEndClosesThePlan := by
  intro s tag generation ready
  refine ⟨fun other => ?wrongState, fun loading zero => ?argRange, fun loading nonzero => ?taken⟩
  case wrongState =>
    exact congrArg Host.Outcome.next (State.takeWhole_of_refuse ready ((State.answer_planEnd ..).trans (if_pos other)))
  case argRange =>
    exact congrArg Host.Outcome.next (State.takeWhole_of_refuse ready
      ((State.answer_planEnd ..).trans ((if_neg (not_not.mpr loading)).trans (if_pos zero))))
  case taken =>
    have plan : (s.closed tag generation).plan = s.plan.close generation := State.plan_closePlan s.hunt generation
    refine ⟨_, portNotices s.hunt (s.hunt.closePlan generation), State.exec_planEnd ready loading nonzero, ?_⟩
    rw [plan]
    refine ⟨rfl, rfl, rfl, rfl, rfl, rfl, fun p => ⟨?_, ?_⟩, ?notices, ?link, fun p low waits => ?other, fun p waits used none_ => ?mask,
      fun p waits used some_ => ?ranging⟩
    · exact Table.get_mapFin ..
    · exact Table.get_ofFn ..
    case notices =>
      refine (State.notices_conclude ..).trans ?_
      have entered : s.hunt.plan.state ≠ (s.hunt.closePlan generation).plan.state := by
        rw [show s.hunt.plan.state = .loading from loading, State.plan_closePlan]; nofun
      have handed : planNotices s.hunt (s.hunt.closePlan generation) = [.planState .closed generation (s.plan.epoch + 1) 0] := by
        rw [planNotices, if_neg entered, State.plan_closePlan]
        rfl
      rw [eventNotices, handed, State.notices_closePlan, List.append_nil, List.append_nil]
      rfl
    case link =>
      exact State.mli_answered ready (State.Only.verdicts (s.hunt.closing generation) s.hunt _).mli
    case other =>
      have left_ := Port.meetClose_other (e := (s.plan.close generation).cache.get p) waits
      have at_ : (s.hunt.closePlan generation).port p = _ := State.port_closePlan (s := s.hunt) left_ low waits
      rw [State.port_closed, ← at_]
      exact concludePort_sameButTx (before := s.hunt) (after := s.hunt.closePlan generation) fun bears => by
        rw [show (s.hunt.port p).state.bearing = false from low] at bears
        cases bears
    case mask =>
      have left_ := (Port.meetClose_mask (e := (s.plan.close generation).cache.get p) waits used).trans
        (Port.enterMaskWait_none none_)
      have at_ : (s.hunt.closePlan generation).port p = _ := State.port_closePlan (s := s.hunt) left_ rfl nofun
      obtain ⟨pending, tx, own⟩ := concludePort_eq s.hunt (s.hunt.closePlan generation) p ((s.hunt.closePlan generation).port p)
      rw [State.port_closed, own, at_]
      exact ⟨rfl, rfl⟩
    case ranging =>
      obtain ⟨m, held⟩ := Option.ne_none_iff_exists'.mp some_
      have left_ := ((Port.meetClose_mask (e := (s.plan.close generation).cache.get p) waits used).trans
        (Port.enterMaskWait_some held)).trans (Port.enterRanging_eq _)
      have at_ : (s.hunt.closePlan generation).port p = _ := State.port_closePlan (s := s.hunt) left_ rfl nofun
      obtain ⟨pending, tx, own⟩ := concludePort_eq s.hunt (s.hunt.closePlan generation) p ((s.hunt.closePlan generation).port p)
      rw [State.port_closed, own, at_]
      exact ⟨rfl, rfl, rfl, rfl⟩

end Sys2Proof.Machine

/-! SUPPORT. PORT_RESTART (R57). -/

namespace Sys2Proof.Machine

/-! ## PORT_RESTART (R57) -/

theorem State.answer_portRestart (s : State) (tag : Byte) (ports : BitVec 32) : s.answer ⟨tag, 0x07, byte4 ports.toNat⟩ =
    takes (((allPorts.filter (s.restarts ports)).foldl State.restart s).verdicts s fun _ => false) .ok
      (byte4 (portMask (s.restarts ports)).toNat) := by
  have read : BitVec.ofNat 32 (numberAt (byte4 ports.toNat) 0 4) = ports := by
    rw [numberAt, byte4, List.drop_zero, List.take_of_length_le (Nat.le_of_eq (numberBytes_length 4 _))]
    exact ofNat_readNumber ports rfl
  rw [s.answer_of_known rfl rfl]
  change s.takePortRestart (byte4 ports.toNat) = _
  unfold State.takePortRestart
  rw [read]

theorem State.withdraws_restart (s : State) (p : Fin 32) : s.Withdraws (s.restart p) :=
  (State.Withdraws.of_eq (State.monitor_modPort ..)).trans (.withdrawPort ..)

/-- A restarted port has no request left. -/
theorem State.withdrawn_foldl_restart {p : Fin 32} {l : List (Fin 32)} (mem : p ∈ l) (s : State) :
    ∀ r ∈ (l.foldl State.restart s).monitor.queue, lanePort r.lane ≠ p := by
  induction l generalizing s with
  | nil => cases mem
  | cons q rest ih =>
    by_cases later : p ∈ rest
    · exact ih later _
    · obtain rfl := (List.mem_cons.mp mem).resolve_right later
      exact (State.Withdraws.foldl _ State.withdraws_restart rest _).none_of (State.withdrawn _ _)

theorem Port.leftStages_enterSideband {pr : Params} {pt : Port} (h : pt.leftStages) : (pt.enterSideband pr).leftStages := by
  obtain ⟨lanes, rest⟩ := h
  refine ⟨fun l => ?_, rest⟩
  have lane : (pt.enterSideband pr).lane l = { pt.lane l with polarityCounted := false } := Table.get_mapFin ..
  rw [lane]
  exact lanes l

/-- A restarted port (R57). -/
theorem Port.restarted (pr : Params) (pt : Port) :
    (pt.restart pr).state = (if pt.present then .sideband else .waitCable)
    ∧ (pt.restart pr).attempt = (if pt.present then pt.attempt + 1 else pt.attempt)
    ∧ (pt.restart pr).stageTimer = (if pt.present then armMs pr.sidebandTimeout else .stopped)
    ∧ (pt.restart pr).backoffTimer = .stopped ∧ (pt.restart pr).verdict = Verdict.reset ∧ (pt.restart pr).retryCount = 0
    ∧ (pt.restart pr).ready = false ∧ (pt.restart pr).neighbor.status ≠ .current ∧ (pt.restart pr).leftStages
    ∧ (pt.restart pr).lastFailure = pt.lastFailure ∧ (pt.restart pr).flags = pt.flags ∧ (pt.restart pr).trim = pt.trim
    ∧ (pt.restart pr).counters.linkLosses = pt.counters.linkLosses := by
  have stale := Port.status_makeStale pt.leaveStages
  have left_ : pt.leaveStages.makeStale.leftStages := Port.leftStages_leaveStages pt
  have kept : pt.leaveStages.makeStale.present = pt.present ∧ pt.leaveStages.makeStale.attempt = pt.attempt
      ∧ pt.leaveStages.makeStale.lastFailure = pt.lastFailure ∧ pt.leaveStages.makeStale.flags = pt.flags
      ∧ pt.leaveStages.makeStale.trim = pt.trim ∧ pt.leaveStages.makeStale.counters = pt.counters := ⟨rfl, rfl, rfl, rfl, rfl, rfl⟩
  unfold Port.restart
  generalize pt.leaveStages.makeStale = departed at stale left_ kept
  obtain ⟨present, attempt, lastFailure, flags, trim, counters⟩ := kept
  rw [← present, ← attempt, ← lastFailure, ← flags, ← trim, ← counters]
  dsimp only
  cases departed.present with
  | true => exact ⟨rfl, rfl, rfl, rfl, rfl, rfl, rfl, stale, Port.leftStages_enterSideband left_, rfl, rfl, rfl, rfl⟩
  | false => exact ⟨rfl, rfl, rfl, rfl, rfl, rfl, rfl, stale, left_, rfl, rfl, rfl, rfl⟩

theorem State.port_restarts (s : State) (ports : BitVec 32) (p : Fin 32) :
    ((allPorts.filter (s.restarts ports)).foldl State.restart s).port p =
      if s.restarts ports p then (s.port p).restart s.params else s.port p := by
  have nodup : (allPorts.filter (s.restarts ports)).Nodup := (List.nodup_finRange 32).filter _
  have step (t : State) (only : s.Only t) (p : Fin 32) : s.Only (t.restart p) ∧ ∀ q, (t.restart p).port q =
      if q = p then (t.port p).restart s.params else t.port q :=
    ⟨only.trans (.restart ..), fun q => by
      rw [State.restart, State.port_withdrawPort, State.port_modPort, only.params]⟩
  rw [State.port_foldl (op := State.restart) (g := fun _ pt => pt.restart s.params) step (.refl s) nodup]
  simp [allPorts]

/-- Settles O22: each restarted port is as a restart leaves it (`Port.restarted`), where no verdict reaches it. -/
theorem portRestartStartsAfresh : Obligations.PortRestartStartsAfresh := by
  intro s tag ports ready
  have answer := s.hunt.answer_portRestart tag ports
  have onlyRestarts : s.hunt.Only ((allPorts.filter (s.hunt.restarts ports)).foldl State.restart s.hunt) :=
    .foldl _ (fun _ _ => .restart ..) _ _
  have only := onlyRestarts.trans (.verdicts _ s.hunt fun _ => false)
  have withdraws : s.hunt.Withdraws (((allPorts.filter (s.hunt.restarts ports)).foldl State.restart s.hunt).verdicts s.hunt
      fun _ => false) := (State.Withdraws.foldl _ State.withdraws_restart _ _).trans (.verdicts ..)
  refine ⟨_, portMask (s.hunt.restarts ports), congrArg Host.Outcome.next (State.takeWhole_answered ready answer),
    State.mli_answered ready only.mli, only.plan, withdraws.results, withdraws.setups, fun p => ⟨portMask_getLsbD .., ?other, ?own⟩⟩
  case other =>
    intro kept low
    rw [portMask_getLsbD] at kept
    refine State.port_answered_other ready onlyRestarts ?_ low _
    rw [State.port_restarts, kept]
    rfl
  case own =>
    intro restarted
    rw [portMask_getLsbD] at restarted
    have at_ : ((allPorts.filter (s.hunt.restarts ports)).foldl State.restart s.hunt).port p = (s.port p).restart s.params := by
      rw [State.port_restarts, restarted]
      rfl
    obtain ⟨state, attempt, stageTimer, backoff, verdict, retry, isReady, stale, left_, rest⟩ := (s.port p).restarted s.params
    have apart : ((allPorts.filter (s.hunt.restarts ports)).foldl State.restart s.hunt).judgeable p = false := by
      cases present : (s.port p).present with
      | true => exact State.judgeable_of_state (state := .sideband) (by rw [at_, state, present]; rfl) rfl nofun
      | false => exact State.judgeable_of_state (state := .waitCable) (by rw [at_, state, present]; rfl) rfl nofun
    have gone := (State.Withdraws.verdicts _ s.hunt fun _ => false).none_of (State.withdrawn_foldl_restart (p := p)
      (List.mem_filter.mpr ⟨List.mem_finRange p, restarted⟩) s.hunt)
    obtain ⟨tx, concluded⟩ := concludePort_of_settled s.hunt (((allPorts.filter (s.hunt.restarts ports)).foldl State.restart
      s.hunt).verdicts s.hunt fun _ => false) p (pt := (s.port p).restart s.params) (by rw [verdict]; rfl)
    rw [State.port_answered_own apart, at_, concluded]
    exact ⟨state, attempt, stageTimer, backoff, verdict, retry, isReady, stale, left_, gone, rest⟩

end Sys2Proof.Machine

/-! SUPPORT. PORT_CONTROL: what it makes of one port (R54 to R56), and that no verdict touches a flag. -/

namespace Sys2Proof.Machine

/-! ## Verdicts keep the flags -/

theorem Port.flags_fail {base : BaseFields} {pr : Params} {p : Fin 32} {cause : Cause} {stage : Nat} {lane : Option (Fin 4)}
    (pt : Port) : (pt.fail base pr p cause stage lane).flags = pt.flags :=
  have ⟨_, _, _, _, _, _, _, flags, _⟩ := Port.left_fail (base := base) (pr := pr) (p := p) (cause := cause) (stage := stage)
    (lane := lane) pt
  flags

theorem Port.flags_accept (pr : Params) (pt : Port) : (pt.accept pr).flags = pt.flags := by
  unfold Port.accept
  split
  · rfl
  · unfold Port.enterReadyWait
    dsimp only
    split <;> rfl

theorem Port.flags_act (base : BaseFields) (pr : Params) (first : Bool) (p : Fin 32) (pt : Port) :
    (pt.act base pr first p).flags = pt.flags := by
  unfold Port.act
  split
  · exact Port.flags_fail _
  · split
    · exact Port.flags_accept ..
    · rfl
  · split
    · exact Port.flags_accept ..
    · rfl
  · rfl

/-- An observation of a port that no record written and no action on one changes. -/
structure Port.KeptByVerdicts {α : Type} (r : Port → α) : Prop where
  act : ∀ (base : BaseFields) (pr : Params) (first : Bool) (p : Fin 32) (pt : Port), r (pt.act base pr first p) = r pt
  write : ∀ (pt : Port) (v : Verdict), r { pt with verdict := v } = r pt

section
variable {α : Type} {r : Port → α} {s : State}

theorem State.kept_verdictPass (kept : Port.KeptByVerdicts r) {set : List (Fin 32)} (nodup : set.Nodup) (q : Fin 32) :
    r ((s.verdictPass set).port q) = r (s.port q) := by
  obtain ⟨nd, -, -⟩ := s.joinPartners_spec 32 nodup
  rw [State.port_verdictPass nd]
  split
  · exact (kept.act ..).trans (kept.write ..)
  · rfl

theorem State.kept_verdictPasses (kept : Port.KeptByVerdicts r) (n : Nat) {set : List (Fin 32)} (nodup : set.Nodup) (q : Fin 32) :
    r ((State.verdictPasses n s set).port q) = r (s.port q) := by
  induction n generalizing s set with
  | zero => rfl
  | succ n ih =>
    cases set with
    | nil => rfl
    | cons p rest =>
      have once := State.kept_verdictPass (s := s) kept nodup q
      unfold State.verdictPasses
      dsimp only
      split
      · exact (ih ((List.nodup_finRange 32).filter _)).trans once
      · exact once

theorem State.kept_trigger (kept : Port.KeptByVerdicts r) (selected : Fin 32 → Bool) (q : Fin 32) :
    r ((s.trigger selected).port q) = r (s.port q) := by
  unfold State.trigger
  split
  · exact State.kept_verdictPasses kept _ ((List.nodup_finRange 32).filter _) q
  · rw [State.port_mapPorts]
    split
    · exact kept.write ..
    · rfl

end

theorem State.flags_verdicts (s before : State) (own : Fin 32 → Bool) (q : Fin 32) :
    ((s.verdicts before own).port q).flags = (s.port q).flags :=
  State.kept_trigger ⟨Port.flags_act, fun _ _ => rfl⟩ _ q

/-! ## One port under its new flags -/

/-- A port with its new flags stored (R54). -/
def Port.flagged (clear set : BitVec 6) (pt : Port) : Port := { pt with flags := newFlags pt.flags clear set }

/-- A fence restart and the examination of the lanes that it makes: with every lane fenced it fails the port (R36, R56). -/
def Port.restartFences (base : BaseFields) (pr : Params) (p : Fin 32) (pt : Port) : Port :=
  if pt.fenceMask = 15 then (pt.fenceRestart pr).fail base pr p .noLanes 2 none else pt.fenceRestart pr

/-- A port that takes new flags and acts on them (R55, R56). -/
def Port.control (base : BaseFields) (pr : Params) (device : DeviceState) (clear set : BitVec 6) (p : Fin 32) (pt : Port) : Port :=
  let new := pt.flagged clear set
  let fences := decide (pt.fenceMask ≠ new.fenceMask)
  if !new.adminEnable then
    if pt.state = .disabled then new.storeFences fences else new.disable
  else if !pt.adminEnable then
    if pt.state = .disabled ∧ device = .running then (new.storeFences fences).enable pr else new.storeFences fences
  else if fences then
    if pt.inLaneStages then new.restartFences base pr p else new.refence
  else new

theorem Port.fence_of_fenceMask {pt : Port} (all : pt.fenceMask = 15) (l : Fin 4) : pt.fence l = true := by
  have bit : pt.fenceMask.getLsbD l.val = true := by
    rw [all]
    revert l
    decide
  rw [Port.fenceMask, BitVec.getLsbD_extractLsb', Bool.and_eq_true] at bit
  exact bit.2

theorem Port.fenceMask_of_fence {pt : Port} (all : ∀ l : Fin 4, pt.fence l = true) : pt.fenceMask = 15 := by
  refine BitVec.eq_of_getLsbD_eq fun i below => ?_
  rw [Port.fenceMask, BitVec.getLsbD_extractLsb', show pt.flags.getLsbD (2 + i) = true from all ⟨i, below⟩]
  interval_cases i <;> rfl

/-- A fence restart starts every unfenced lane anew. -/
theorem Port.lane_fenceRestart (pr : Params) (pt : Port) (l : Fin 4) :
    ((pt.fenceRestart pr).lane l).state = if pt.fence l then .fenced else .locking := by
  unfold Port.fenceRestart Port.enterLaneLock
  have flags : pt.countLinkLoss.flags = pt.flags := by unfold Port.countLinkLoss; split <;> rfl
  generalize pt.countLinkLoss = departed at flags ⊢
  have fence : departed.fence l = pt.fence l := by rw [Port.fence, flags]; rfl
  refine (congrArg Lane.state (Table.get_mapFin ..)).trans ?_
  rw [← fence]
  unfold Lane.enterLaneLock
  show (if departed.fence l then _ else _ : Lane).state = _
  split <;> rfl

/-- What a fence restart keeps. -/
theorem Port.fenceRestart_keeps (pr : Params) (pt : Port) :
    (pt.fenceRestart pr).state = .laneLock ∧ (pt.fenceRestart pr).attempt = pt.attempt + 1
      ∧ (pt.fenceRestart pr).retryCount = pt.retryCount ∧ (pt.fenceRestart pr).neighbor = pt.neighbor
      ∧ (pt.fenceRestart pr).highMark = pt.highMark ∧ (pt.fenceRestart pr).ready = false
      ∧ (pt.fenceRestart pr).flags = pt.flags
      ∧ (pt.fenceRestart pr).counters.linkLosses =
        if pt.state = .active then bump pt.counters.linkLosses else pt.counters.linkLosses := by
  have kept : pt.countLinkLoss.attempt = pt.attempt ∧ pt.countLinkLoss.retryCount = pt.retryCount
      ∧ pt.countLinkLoss.neighbor = pt.neighbor ∧ pt.countLinkLoss.highMark = pt.highMark
      ∧ pt.countLinkLoss.flags = pt.flags := by
    unfold Port.countLinkLoss; split <;> exact ⟨rfl, rfl, rfl, rfl, rfl⟩
  have counted := Port.linkLosses_countLinkLoss pt
  unfold Port.fenceRestart Port.enterLaneLock
  generalize pt.countLinkLoss = departed at kept counted ⊢
  obtain ⟨attempt, retry, neighbor, high, flags⟩ := kept
  rw [← attempt, ← retry, ← neighbor, ← high, ← flags, ← counted]
  exact ⟨rfl, rfl, rfl, rfl, rfl, rfl, rfl, rfl⟩

theorem State.port_fenceRestart (s : State) (p : Fin 32) :
    (s.fenceRestart p).port p = (s.port p).restartFences (s.expected p).base s.params p := by
  have at_ : ((s.modPort p (Port.fenceRestart s.params)).withdrawPort p).port p = (s.port p).fenceRestart s.params := by
    rw [State.port_withdrawPort, State.port_modPort_self]
  have lanes := (s.port p).lane_fenceRestart s.params
  obtain ⟨state, -⟩ := (s.port p).fenceRestart_keeps s.params
  unfold State.fenceRestart Port.restartFences
  split
  · next all =>
    have fenced : ∀ l, (((s.port p).fenceRestart s.params).lane l).state = .fenced := fun l =>
      (lanes l).trans (if_pos (Port.fence_of_fenceMask all l))
    rw [State.examineLanes_none (by rw [at_, state]) (fun l => by rw [at_, fenced]; rfl)
      (fun l => by rw [at_, Port.good, fenced]; rfl), State.fail, State.port_withdrawPort, State.port_modPort_self, at_]
    rfl
  · next some_ =>
    obtain ⟨l, unfenced⟩ : ∃ l, (s.port p).fence l ≠ true := not_forall.mp fun all => some_ (Port.fenceMask_of_fence all)
    have locking : (((s.port p).fenceRestart s.params).lane l).state = .locking := (lanes l).trans (if_neg unfenced)
    rw [State.examineLanes_open (l := l) (by rw [at_, locking]; rfl), at_]

theorem State.controlPort_eq (s : State) (clear set : BitVec 6) (p : Fin 32) : s.controlPort clear set p =
    let t := s.modPort p (Port.flagged clear set)
    let new := (s.port p).flagged clear set
    let fences := decide ((s.port p).fenceMask ≠ new.fenceMask)
    if !new.adminEnable then
      if (s.port p).state = .disabled then t.modPort p (Port.storeFences fences) else t.disable p
    else if !(s.port p).adminEnable then
      if (s.port p).state = .disabled ∧ s.mli.device = .running then
        (t.modPort p (Port.storeFences fences)).modPort p (Port.enable s.params)
      else t.modPort p (Port.storeFences fences)
    else if fences then
      if (s.port p).inLaneStages then t.fenceRestart p else t.modPort p Port.refence
    else t := by
  unfold State.controlPort
  simp only [State.port_modPort_self]
  rfl

theorem State.port_controlPort (s : State) (clear set : BitVec 6) (p q : Fin 32) : (s.controlPort clear set p).port q =
    if q = p then (s.port p).control (s.expected p).base s.params s.mli.device clear set p else s.port q := by
  by_cases other : q = p
  · subst other
    have disabled (t : State) : (t.disable q).port q = (t.port q).disable := by
      rw [State.disable, State.port_withdrawPort, State.port_modPort_self]
    rw [if_pos rfl, State.controlPort_eq]
    simp only [apply_ite (fun t : State => t.port q), State.port_modPort_self, disabled, State.port_fenceRestart]
    rfl
  · rw [if_neg other]
    exact (State.AtPort.controlPort s clear set p).others q other

end Sys2Proof.Machine

/-! SUPPORT. PORT_CONTROL over the ports it selects (R54 to R56). -/

namespace Sys2Proof.Machine

/-! ## What one port makes of its new flags -/

/-- The lanes rest by the port's fence flags (R81). -/
def Port.lanesRest (pt : Port) : Prop := ∀ l : Fin 4, (pt.lane l).state = if pt.fence l then .fenced else .idle

theorem Port.lanesRest_refence (pt : Port) : pt.refence.lanesRest := fun _ => congrArg Lane.state (Table.get_mapFin ..)

theorem Port.lanesRest_storeFences (pt : Port) : (pt.storeFences true).lanesRest := Port.lanesRest_refence pt

theorem Port.lanesRest_enable (pr : Params) {pt : Port} (rest : pt.lanesRest) : (pt.enable pr).lanesRest := by
  intro l
  unfold Port.enable
  dsimp only
  split
  · exact (congrArg Lane.state (Table.get_mapFin ..)).trans (rest l)
  · exact rest l

theorem Port.lanesRest_disable (pt : Port) : pt.disable.lanesRest := fun _ => congrArg Lane.state (Table.get_mapFin ..)

/-- A port in the lane stages that stays enabled and whose fences change (R56). -/
structure Port.FenceChange (clear set : BitVec 6) (pt : Port) : Prop where
  on : (pt.flagged clear set).adminEnable = true
  was : pt.adminEnable = true
  changed : pt.fenceMask ≠ (pt.flagged clear set).fenceMask

section
variable {base : BaseFields} {pr : Params} {device : DeviceState} {clear set : BitVec 6} {p : Fin 32} {pt : Port}

theorem Port.control_off (off : (pt.flagged clear set).adminEnable = false) : pt.control base pr device clear set p =
    if pt.state = .disabled then
      (pt.flagged clear set).storeFences (decide (pt.fenceMask ≠ (pt.flagged clear set).fenceMask))
    else (pt.flagged clear set).disable := by
  unfold Port.control
  dsimp only
  rw [off]
  rfl

theorem Port.control_enabled (on : (pt.flagged clear set).adminEnable = true) (was : pt.adminEnable = false) :
    pt.control base pr device clear set p =
      if pt.state = .disabled ∧ device = .running then
        ((pt.flagged clear set).storeFences (decide (pt.fenceMask ≠ (pt.flagged clear set).fenceMask))).enable pr
      else (pt.flagged clear set).storeFences (decide (pt.fenceMask ≠ (pt.flagged clear set).fenceMask)) := by
  unfold Port.control
  dsimp only
  rw [on, was]
  rfl

theorem Port.FenceChange.control (h : pt.FenceChange clear set) : pt.control base pr device clear set p =
    if pt.inLaneStages then (pt.flagged clear set).restartFences base pr p else (pt.flagged clear set).refence := by
  unfold Port.control
  dsimp only
  rw [h.on, h.was, decide_eq_true h.changed]
  rfl

theorem Port.flags_storeFences (changed : Bool) (pt : Port) : (pt.storeFences changed).flags = pt.flags := by
  rw [Port.storeFences_eq]

theorem Port.flags_enable (pr : Params) (pt : Port) : (pt.enable pr).flags = pt.flags := by
  unfold Port.enable
  dsimp only
  split <;> rfl

theorem Port.flags_restartFences (pt : Port) : (pt.restartFences base pr p).flags = pt.flags := by
  obtain ⟨-, -, -, -, -, -, flags, -⟩ := pt.fenceRestart_keeps pr
  unfold Port.restartFences
  split
  · rw [Port.flags_fail, flags]
  · exact flags

theorem Port.flags_control (pt : Port) : (pt.control base pr device clear set p).flags = newFlags pt.flags clear set := by
  unfold Port.control
  dsimp only
  split
  · split
    · rw [Port.flags_storeFences]; rfl
    · rfl
  · split
    · split
      · rw [Port.flags_enable, Port.flags_storeFences]; rfl
      · rw [Port.flags_storeFences]; rfl
    · split
      · split
        · rw [Port.flags_restartFences]; rfl
        · rfl
      · rfl

theorem Port.state_control_off (off : (pt.flagged clear set).adminEnable = false) :
    (pt.control base pr device clear set p).state = .disabled := by
  rw [Port.control_off off]
  split
  · next at_ =>
    rw [Port.storeFences_eq]
    exact at_
  · rfl

theorem Port.state_enable (pr : Params) (pt : Port) : (pt.enable pr).state = if pt.present then .sideband else .waitCable := by
  unfold Port.enable
  dsimp only
  split <;> rfl

/-- A DISABLED port comes no further than SIDEBAND by new flags. -/
theorem Port.state_control_disabled (at_ : pt.state = .disabled) :
    (pt.control base pr device clear set p).state = .disabled ∨ (pt.control base pr device clear set p).state = .waitCable
      ∨ (pt.control base pr device clear set p).state = .sideband := by
  have outside : pt.inLaneStages = false := by rw [Port.inLaneStages, at_]
  have stored (changed : Bool) : ((pt.flagged clear set).storeFences changed).state = .disabled := by
    rw [Port.storeFences_eq]
    exact at_
  unfold Port.control
  dsimp only
  rw [outside]
  split
  · exact .inl (stored _)
  · split
    · split
      · rw [Port.state_enable]
        split
        · exact .inr (.inr rfl)
        · exact .inr (.inl rfl)
      · exact .inl (stored _)
    · split
      · exact .inl at_
      · exact .inl at_

/-- A fence change of a port that is DISABLED before or after it puts its lanes to rest. -/
theorem Port.lanesRest_control (changed : pt.fenceMask ≠ (pt.flagged clear set).fenceMask)
    (rests : pt.state = .disabled ∨ (pt.flagged clear set).adminEnable = false) :
    (pt.control base pr device clear set p).lanesRest := by
  have stored := (pt.flagged clear set).lanesRest_storeFences
  cases on : (pt.flagged clear set).adminEnable with
  | false =>
    rw [Port.control_off on, decide_eq_true changed]
    split
    · exact stored
    · exact Port.lanesRest_disable _
  | true =>
    have at_ : pt.state = .disabled := rests.resolve_right (by rw [on]; nofun)
    cases was : pt.adminEnable with
    | false =>
      rw [Port.control_enabled on was, decide_eq_true changed]
      split
      · exact Port.lanesRest_enable pr stored
      · exact stored
    | true =>
      have outside : pt.inLaneStages = false := by rw [Port.inLaneStages, at_]
      rw [Port.FenceChange.control ⟨on, was, changed⟩, outside]
      exact Port.lanesRest_refence _

end

/-! ## Every selected port in turn -/

theorem State.controlled_step (clear set : BitVec 6) (s t : State) (only : s.Only t) (p : Fin 32) :
    s.Only (t.controlPort clear set p) ∧ ∀ q, (t.controlPort clear set p).port q =
      if q = p then (t.port p).control (s.expected p).base s.params s.mli.device clear set p else t.port q :=
  ⟨only.trans (.controlPort ..), fun q => by
    rw [State.port_controlPort, State.expected, State.expected, only.plan, only.params, only.mli]⟩

/-- The selected ports under their new flags. -/
def State.controlled (s : State) (ports : BitVec 32) (clear set : BitVec 6) : State :=
  (selected ports).foldl (fun t p => t.controlPort clear set p) s

theorem State.only_controlled (s : State) (ports : BitVec 32) (clear set : BitVec 6) : s.Only (s.controlled ports clear set) :=
  .foldl _ (fun _ _ => .controlPort ..) _ _

theorem State.port_controlled (s : State) (ports : BitVec 32) (clear set : BitVec 6) (p : Fin 32) :
    (s.controlled ports clear set).port p =
      if ports.getLsbD p.val then (s.port p).control (s.expected p).base s.params s.mli.device clear set p else s.port p := by
  have nodup : (selected ports).Nodup := (List.nodup_finRange 32).filter _
  rw [State.controlled, State.port_foldl (op := fun t p => t.controlPort clear set p)
    (g := fun p pt => pt.control (s.expected p).base s.params s.mli.device clear set p) (State.controlled_step clear set s)
    (.refl s) nodup]
  simp [selected, allPorts, maskHas]

theorem State.withdraws_controlPort (s : State) (clear set : BitVec 6) (p : Fin 32) : s.Withdraws (s.controlPort clear set p) := by
  have stored : s.Withdraws (s.modPort p (Port.flagged clear set)) := .of_eq rfl
  rw [State.controlPort_eq]
  dsimp only
  split
  · split
    · exact .of_eq rfl
    · rw [State.disable]
      exact (State.Withdraws.of_eq (by rfl)).trans (.withdrawPort ..)
  · split
    · split <;> exact .of_eq rfl
    · split
      · split
        · rw [State.fenceRestart]
          exact ((State.Withdraws.of_eq (by rfl)).trans (.withdrawPort ..)).trans (.examineLanes ..)
        · exact .of_eq rfl
      · exact stored

/-- A fence restart withdraws the port's waiting requests. -/
theorem State.withdrawn_controlPort {s : State} {clear set : BitVec 6} {p : Fin 32} (change : (s.port p).FenceChange clear set)
    (inside : (s.port p).inLaneStages = true) :
    ∀ r ∈ (s.controlPort clear set p).monitor.queue, lanePort r.lane ≠ p := by
  rw [State.controlPort_eq]
  dsimp only
  rw [change.on, change.was, decide_eq_true change.changed, inside]
  exact (State.Withdraws.examineLanes _ p).none_of (State.withdrawn _ _)

theorem State.withdrawn_controlled {clear set : BitVec 6} {p : Fin 32} {l : List (Fin 32)} (mem : p ∈ l) {s : State}
    (change : (s.port p).FenceChange clear set) (inside : (s.port p).inLaneStages = true) :
    ∀ r ∈ (l.foldl (fun t p => t.controlPort clear set p) s).monitor.queue, lanePort r.lane ≠ p := by
  induction l generalizing s with
  | nil => cases mem
  | cons q rest ih =>
    by_cases first : p = q
    · subst first
      exact (State.Withdraws.foldl _ (fun t q => State.withdraws_controlPort t clear set q) rest _).none_of
        (State.withdrawn_controlPort change inside)
    · have kept : (s.controlPort clear set q).port p = s.port p := (State.AtPort.controlPort s clear set q).others p first
      exact ih ((List.mem_cons.mp mem).resolve_left first) (by rw [kept]; exact change) (by rw [kept]; exact inside)

/-! ## PORT_CONTROL -/

theorem State.answer_portControl (s : State) (tag : Byte) (ports : BitVec 32) (clear set : Byte) :
    s.answer ⟨tag, 0x06, byte4 ports.toNat ++ [clear, set]⟩ =
      if 63 < clear.toNat ∨ 63 < set.toNat then refuse s .argRange
      else
        let t := (s.controlled ports (clear.setWidth 6) (set.setWidth 6)).verdicts s fun _ => false
        takes t .ok (byte4 (portMask fun p =>
          maskHas ports p && decide ((s.port p).state.name ≠ (t.port p).state.name)).toNat) := by
  have read : BitVec.ofNat 32 (numberAt (byte4 ports.toNat ++ [clear, set]) 0 4) = ports := by
    rw [numberAt, byte4, List.drop_zero, List.take_left' (numberBytes_length 4 _)]
    exact ofNat_readNumber ports rfl
  rw [s.answer_of_known rfl rfl]
  change s.takePortControl (byte4 ports.toNat ++ [clear, set]) = _
  unfold State.takePortControl
  rw [read]
  rfl

end Sys2Proof.Machine

/-! SUPPORT. PORT_CONTROL as its request leaves the part (R54 to R56). -/

namespace Sys2Proof.Machine

/-- A port that the request left where it can join no pass, up to what the conclusion may touch. -/
theorem State.port_answered_fields {s u : State} {f : Frame} {content : List Byte} {p : Fin 32} (apart : u.judgeable p = false)
    (own : Fin 32 → Bool) : ∃ pending tx, (s.answered (u.verdicts s.hunt own) f content).port p =
      { u.port p with verdict := { (u.port p).verdict with pending := pending }, tx := tx } := by
  rw [State.port_answered_own apart]
  exact concludePort_eq ..

theorem State.flags_answered (s u : State) (f : Frame) (content : List Byte) (own : Fin 32 → Bool) (p : Fin 32) :
    ((s.answered (u.verdicts s.hunt own) f content).port p).flags = (u.port p).flags := by
  obtain ⟨pending, tx, at_⟩ := concludePort_eq s.hunt (u.verdicts s.hunt own) p ((u.verdicts s.hunt own).port p)
  rw [State.port_answered, at_]
  exact State.flags_verdicts ..

section
variable {s : State} {ports : BitVec 32} {clear set : BitVec 6} {p : Fin 32}

theorem State.port_controlled_selected (selected_ : ports.getLsbD p.val = true) : (s.hunt.controlled ports clear set).port p =
    (s.port p).control (s.expected p).base s.params s.mli.device clear set p :=
  (State.port_controlled ..).trans (if_pos selected_)

theorem State.judgeable_controlled_disabled (selected_ : ports.getLsbD p.val = true) (at_ : (s.port p).state = .disabled) :
    (s.hunt.controlled ports clear set).judgeable p = false := by
  have own := State.port_controlled_selected (s := s) (clear := clear) (set := set) selected_
  rcases Port.state_control_disabled (base := (s.expected p).base) (pr := s.params) (device := s.mli.device) (clear := clear)
    (set := set) (p := p) at_ with state | state | state
  all_goals exact State.judgeable_of_state ((congrArg Port.state own).trans state) rfl nofun

theorem State.judgeable_controlled_off (selected_ : ports.getLsbD p.val = true)
    (off : ((s.port p).flagged clear set).adminEnable = false) : (s.hunt.controlled ports clear set).judgeable p = false :=
  State.judgeable_of_state (state := .disabled)
    (by rw [State.port_controlled_selected selected_, Port.state_control_off off]) rfl nofun

/-- A fence change that leaves a lane unfenced (R56). -/
theorem State.fencesRestarted (selected_ : ports.getLsbD p.val = true) (change : (s.port p).FenceChange clear set)
    (inside : (s.port p).inLaneStages = true) (some_ : ((s.port p).flagged clear set).fenceMask ≠ 15) :
    (s.hunt.controlled ports clear set).judgeable p = false
      ∧ (s.hunt.controlled ports clear set).port p = ((s.port p).flagged clear set).fenceRestart s.params := by
  have at_ : (s.hunt.controlled ports clear set).port p = ((s.port p).flagged clear set).fenceRestart s.params := by
    rw [State.port_controlled_selected selected_, change.control, if_pos inside, Port.restartFences, if_neg some_]
  obtain ⟨state, -⟩ := ((s.port p).flagged clear set).fenceRestart_keeps s.params
  exact ⟨State.judgeable_of_state (state := .laneLock) (by rw [at_, state]) rfl nofun, at_⟩

/-- A fence change that leaves every lane fenced (R36, R56). -/
theorem State.fencesFailed (selected_ : ports.getLsbD p.val = true) (change : (s.port p).FenceChange clear set)
    (inside : (s.port p).inLaneStages = true) (all : ((s.port p).flagged clear set).fenceMask = 15) :
    (s.hunt.controlled ports clear set).judgeable p = false
      ∧ (s.hunt.controlled ports clear set).port p =
        (((s.port p).flagged clear set).fenceRestart s.params).fail (s.expected p).base s.params p .noLanes 2 none := by
  have at_ : (s.hunt.controlled ports clear set).port p =
      (((s.port p).flagged clear set).fenceRestart s.params).fail (s.expected p).base s.params p .noLanes 2 none := by
    rw [State.port_controlled_selected selected_, change.control, if_pos inside, Port.restartFences, if_pos all]
  refine ⟨?_, at_⟩
  rcases Port.state_fail (s.expected p).base s.params p .noLanes 2 none (((s.port p).flagged clear set).fenceRestart s.params)
    with state | state
  all_goals exact State.judgeable_of_state ((congrArg Port.state at_).trans state) rfl nofun

/-- A fence change outside the lane stages (R81). -/
theorem State.fencesStored (none_ : s.noneDue) (selected_ : ports.getLsbD p.val = true)
    (change : (s.port p).FenceChange clear set) (outside : (s.port p).inLaneStages = false)
    (low : (s.port p).state.bearing = false) :
    (s.hunt.controlled ports clear set).judgeable p = false
      ∧ (s.hunt.controlled ports clear set).port p = ((s.port p).flagged clear set).refence := by
  have at_ : (s.hunt.controlled ports clear set).port p = ((s.port p).flagged clear set).refence := by
    rw [State.port_controlled_selected selected_, change.control, outside, if_neg Bool.false_ne_true]
  have state : ((s.hunt.controlled ports clear set).port p).state = (s.port p).state := by rw [at_]; rfl
  refine ⟨State.not_judgeable_iff.mpr ⟨by rw [state, low], ?_⟩, at_⟩
  have due := none_ p
  rwa [State.verdictDue, ← state, show s.plan = (s.hunt.controlled ports clear set).plan from
    (State.only_controlled s.hunt ports clear set).plan.symm] at due

end

/-- Settles O21: each selected port is `Port.control` of what it was, where no verdict reaches it, and no verdict touches a
flag. -/
theorem portControlSetsFlags : Obligations.PortControlSetsFlags := by
  intro s tag ports clear set ready
  refine ⟨fun bad => ?refused, fun low high => ?taken⟩
  case refused =>
    exact congrArg Host.Outcome.next (State.takeWhole_of_refuse ready ((State.answer_portControl ..).trans (if_pos bad)))
  case taken =>
    have good : ¬ (63 < clear.toNat ∨ 63 < set.toNat) := by omega
    have answer := (s.hunt.answer_portControl tag ports clear set).trans (if_neg good)
    dsimp only at answer
    generalize clear.setWidth 6 = off at answer ⊢
    generalize set.setWidth 6 = on at answer ⊢
    have onlyU := s.hunt.only_controlled ports off on
    have only := onlyU.trans (.verdicts _ s.hunt fun _ => false)
    have withdraws : s.hunt.Withdraws ((s.hunt.controlled ports off on).verdicts s.hunt fun _ => false) :=
      (State.Withdraws.foldl _ (fun t p => State.withdraws_controlPort t off on p) _ _).trans (.verdicts ..)
    refine ⟨_, _, congrArg Host.Outcome.next (State.takeWhole_answered ready answer), State.mli_answered ready only.mli,
      only.plan, withdraws.results, withdraws.setups, fun p => ?_⟩
    generalize stands : s.answered ((s.hunt.controlled ports off on).verdicts s.hunt fun _ => false) _ _ = t
    have monitor : t.monitor = ((s.hunt.controlled ports off on).verdicts s.hunt fun _ => false).monitor := by rw [← stands]; rfl
    have fields (apart : (s.hunt.controlled ports off on).judgeable p = false) : ∃ pending tx, t.port p =
        { (s.hunt.controlled ports off on).port p with
          verdict := { ((s.hunt.controlled ports off on).port p).verdict with pending := pending }, tx := tx } :=
      stands ▸ State.port_answered_fields apart _
    have flagsU : (t.port p).flags = ((s.hunt.controlled ports off on).port p).flags := stands ▸ State.flags_answered ..
    have flags (selected_ : ports.getLsbD p.val = true) : (t.port p).flags = ((s.port p).flagged off on).flags := by
      rw [flagsU, State.port_controlled_selected selected_, Port.flags_control]
      rfl
    have enabled (selected_ : ports.getLsbD p.val = true) : (t.port p).adminEnable = ((s.port p).flagged off on).adminEnable :=
      congrArg (·.getLsbD 0) (flags selected_)
    have fences (selected_ : ports.getLsbD p.val = true) : (t.port p).fenceMask = ((s.port p).flagged off on).fenceMask :=
      congrArg (·.extractLsb' 2 4) (flags selected_)
    have changed := fun (selected_ : ports.getLsbD p.val = true) (was : (s.port p).adminEnable = true)
        (is : (t.port p).adminEnable = true) (moved : (s.port p).fenceMask ≠ (t.port p).fenceMask) =>
      (⟨enabled selected_ ▸ is, was, fences selected_ ▸ moved⟩ : (s.port p).FenceChange off on)
    refine ⟨?mask, ?flags, ?other, ?off, ?on, ?restart, ?fail, ?store, ?rest⟩
    case mask =>
      have state : (t.port p).state = (((s.hunt.controlled ports off on).verdicts s.hunt fun _ => false).port p).state := by
        obtain ⟨pending, tx, at_⟩ := concludePort_eq s.hunt ((s.hunt.controlled ports off on).verdicts s.hunt fun _ => false) p
          (((s.hunt.controlled ports off on).verdicts s.hunt fun _ => false).port p)
        rw [← stands, State.port_answered, at_]
      rw [portMask_getLsbD, state]
      rfl
    case flags =>
      rw [flagsU, State.port_controlled]
      split
      · exact Port.flags_control _
      · rfl
    case other =>
      intro apart bears
      rw [← stands]
      exact State.port_answered_other ready onlyU ((State.port_controlled ..).trans (if_neg (by rw [apart]; nofun))) bears _
    case off =>
      intro selected_ is
      rw [enabled selected_] at is
      obtain ⟨pending, tx, at_⟩ := fields (State.judgeable_controlled_off selected_ is)
      rw [at_, State.port_controlled_selected selected_]
      exact Port.state_control_off is
    case on =>
      intro selected_ was is running at_
      rw [enabled selected_] at is
      obtain ⟨pending, tx, own⟩ := fields (State.judgeable_controlled_disabled selected_ at_)
      rw [own, State.port_controlled_selected selected_, Port.control_enabled is was, if_pos ⟨at_, running⟩]
      refine (Port.state_enable ..).trans ?_
      rw [Port.storeFences_eq]
      rfl
    case restart =>
      intro selected_ was is moved inside some_
      rw [fences selected_] at some_
      obtain ⟨apart, atU⟩ := State.fencesRestarted selected_ (changed selected_ was is moved) inside some_
      obtain ⟨pending, tx, own⟩ := fields apart
      obtain ⟨state, attempt, retry, neighbor, high, isReady, flags', -⟩ := ((s.port p).flagged off on).fenceRestart_keeps s.params
      have lanes := ((s.port p).flagged off on).lane_fenceRestart s.params
      rw [own, atU]
      refine ⟨state, attempt, retry, neighbor, high, isReady, fun l => (lanes l).trans ?_⟩
      have fence : (((s.port p).flagged off on).fenceRestart s.params).fence l = ((s.port p).flagged off on).fence l :=
        congrArg (·.getLsbD (2 + l.val)) flags'
      rw [← fence]
      rfl
    case fail =>
      intro selected_ was is moved inside all
      rw [fences selected_] at all
      obtain ⟨apart, atU⟩ := State.fencesFailed selected_ (changed selected_ was is moved) inside all
      obtain ⟨pending, tx, own⟩ := fields apart
      obtain ⟨state, attempt, retry, -, -, -, flags', losses⟩ := ((s.port p).flagged off on).fenceRestart_keeps s.params
      have gone := (State.Withdraws.verdicts (s.hunt.controlled ports off on) s.hunt fun _ => false).none_of
        (State.withdrawn_controlled (p := p) (List.mem_filter.mpr ⟨List.mem_finRange p, selected_⟩) (s := s.hunt)
          (changed selected_ was is moved) inside)
      have recovered := Port.recovered_fail (s.expected p).base s.params p .noLanes 2 none
        (((s.port p).flagged off on).fenceRestart s.params)
      obtain ⟨failure, stages, stale, isReady, stageTimer, silence, attempt', flagsF, losses'⟩ :=
        Port.left_fail (base := (s.expected p).base) (pr := s.params) (p := p) (cause := .noLanes) (stage := 2) (lane := none)
          (((s.port p).flagged off on).fenceRestart s.params)
      rw [attempt] at failure attempt'
      rw [if_neg (by rw [state]; nofun), losses] at losses'
      simp only [Port.recovered, retry] at recovered
      rw [State.failed, own, atU, State.port_modPort_self]
      exact ⟨recovered, failure, stages, stale, isReady, stageTimer, silence, attempt', rfl, losses', monitor ▸ gone⟩
    case store =>
      intro selected_ was is moved outside low
      obtain ⟨apart, atU⟩ := State.fencesStored ready.2.2 selected_ (changed selected_ was is moved) outside low
      obtain ⟨tx, own⟩ := concludePort_of_not_bearing ((s.hunt.controlled ports off on).verdicts s.hunt fun _ => false)
        (before := s.hunt) (p := p) ((s.hunt.controlled ports off on).port p) low
      have at_ : t.port p = { ((s.port p).flagged off on).refence with tx := tx } := by
        rw [← stands, State.port_answered_own apart, own, atU]
      rw [at_]
      rfl
    case rest =>
      intro selected_ moved rests
      rw [fences selected_] at moved
      rw [enabled selected_] at rests
      have apart : (s.hunt.controlled ports off on).judgeable p = false :=
        rests.elim (State.judgeable_controlled_disabled selected_) (State.judgeable_controlled_off selected_)
      obtain ⟨pending, tx, own⟩ := fields apart
      have lanes := Port.lanesRest_control (base := (s.expected p).base) (pr := s.params) (device := s.mli.device) (p := p)
        moved rests
      rw [← State.port_controlled_selected selected_] at lanes
      rw [own]
      exact lanes

end Sys2Proof.Machine

/-! SUPPORT. What a trigger under a CLOSED plan makes of the ports it judges (R40, R165, R166). -/

namespace Sys2Proof.Machine

section
variable {s : State} {q : Fin 32}

/-- The ports that a trigger judges first (R165). -/
def State.judgedFirst (s : State) (selected : Fin 32 → Bool) (q : Fin 32) : Bool :=
  s.verdictDue q || ((s.port q).state.bearing && selected q)

theorem State.trigger_closed (closed : s.plan.state = .closed) (selected : Fin 32 → Bool) :
    s.trigger selected = s.verdictPasses 33 (allPorts.filter (s.judgedFirst selected)) := if_pos closed

/-- A port judged with a FAIL is failed by the pass that judges it, and no further pass takes it up. -/
theorem State.port_trigger_fail (closed : s.plan.state = .closed) {selected : Fin 32 → Bool}
    (judged : s.judgedFirst selected q = true) (fails : (s.compute q).cls = .fail) :
    (s.trigger selected).port q = Port.fail (s.expected q).base s.params q .verdictFail (s.port q).state.stageCode none
      { s.port q with verdict := s.compute q } := by
  have mem : q ∈ allPorts.filter (s.judgedFirst selected) := List.mem_filter.mpr ⟨List.mem_finRange q, judged⟩
  have nodup : (allPorts.filter (s.judgedFirst selected)).Nodup := (List.nodup_finRange 32).filter _
  rw [State.trigger_closed closed]
  generalize allPorts.filter (s.judgedFirst selected) = set at mem nodup
  obtain ⟨nd, all, -⟩ := s.joinPartners_spec 32 nodup
  have once : (s.verdictPass set).port q = Port.fail (s.expected q).base s.params q .verdictFail (s.port q).state.stageCode none
      { s.port q with verdict := s.compute q } := by
    rw [State.port_verdictPass nd, if_pos (all q mem), Port.act]
    simp only [fails]
  have apart : (s.verdictPass set).judgeable q = false := by
    rcases Port.state_fail (s.expected q).base s.params q .verdictFail (s.port q).state.stageCode none
      { s.port q with verdict := s.compute q } with state | state
    all_goals exact State.judgeable_of_state ((congrArg Port.state once).trans state) rfl nofun
  cases set with
  | nil => cases mem
  | cons p rest =>
    unfold State.verdictPasses
    dsimp only
    split
    · exact (State.port_verdictPasses_apart _ ((List.nodup_finRange 32).filter _)
        (fun r hr => State.judgeable_of_bearing (List.mem_filter.mp hr).2) apart).trans once
    · exact once

/-- A port that a pass fails has its requests withdrawn. -/
theorem State.withdrawn_foldl_actOn {first : Fin 32 → Bool} {l : List (Fin 32)} (mem : q ∈ l) {t : State}
    (fails : (t.port q).verdict.cls = .fail) :
    ∀ r ∈ (l.foldl (fun t p => t.actOn (first p) p) t).monitor.queue, lanePort r.lane ≠ q := by
  induction l generalizing t with
  | nil => cases mem
  | cons p rest ih =>
    by_cases here : q = p
    · subst here
      refine (State.Withdraws.foldl _ (fun t p => .actOn t (first p) p) rest _).none_of ?_
      dsimp only [State.actOn]
      rw [fails]
      exact State.withdrawn _ _
    · exact ih ((List.mem_cons.mp mem).resolve_left here)
        (by rw [(State.AtPort.actOn t (first p) p).others q here]; exact fails)

theorem State.withdrawn_verdictPass {set : List (Fin 32)} (nodup : set.Nodup) (mem : q ∈ set)
    (fails : (s.compute q).cls = .fail) : ∀ r ∈ (s.verdictPass set).monitor.queue, lanePort r.lane ≠ q := by
  obtain ⟨nd, all, -⟩ := s.joinPartners_spec 32 nodup
  have written := State.port_foldl (op := fun t p => t.modPort p fun pt => { pt with verdict := s.compute p })
    (g := fun p pt => { pt with verdict := s.compute p }) (s := s)
    (fun t h p => ⟨h.trans (.modPort ..), fun q => State.port_modPort ..⟩) (.refl s) nd q
  refine State.withdrawn_foldl_actOn (all q mem) ?_
  rw [written, if_pos (all q mem)]
  exact fails

theorem State.withdrawn_trigger_fail (closed : s.plan.state = .closed) {selected : Fin 32 → Bool}
    (judged : s.judgedFirst selected q = true) (fails : (s.compute q).cls = .fail) :
    ∀ r ∈ (s.trigger selected).monitor.queue, lanePort r.lane ≠ q := by
  have mem : q ∈ allPorts.filter (s.judgedFirst selected) := List.mem_filter.mpr ⟨List.mem_finRange q, judged⟩
  have nodup : (allPorts.filter (s.judgedFirst selected)).Nodup := (List.nodup_finRange 32).filter _
  rw [State.trigger_closed closed]
  generalize allPorts.filter (s.judgedFirst selected) = set at mem nodup
  have once := State.withdrawn_verdictPass nodup mem fails
  cases set with
  | nil => cases mem
  | cons p rest =>
    unfold State.verdictPasses
    dsimp only
    split
    · exact (State.Withdraws.verdictPasses ..).none_of once
    · exact once

/-- No partner joins ports that do not fail. -/
theorem State.joinPartners_passing {set : List (Fin 32)} (pass : ∀ p ∈ set, (s.compute p).cls ≠ .fail) (n : Nat) :
    s.joinPartners n set = set := by
  have none_ : (allPorts.filter fun q => decide (q ∉ set) && s.judgeable q && s.namesPartner set q) = [] := by
    refine List.filter_eq_nil_iff.mpr fun q _ => ?_
    have unnamed : s.namesPartner set q = false := by
      refine List.any_eq_false.mpr fun p mem => ?_
      rw [decide_eq_false (pass p mem), Bool.false_and]
      nofun
    rw [unnamed, Bool.and_false]
    nofun
  cases n with
  | zero => rfl
  | succ n => rw [State.joinPartners, none_]

theorem Port.neighbor_accept (pr : Params) (pt : Port) : (pt.accept pr).neighbor = pt.neighbor := by
  unfold Port.accept
  split
  · rfl
  · unfold Port.enterReadyWait
    dsimp only
    split <;> rfl

/-- A port judged without a FAIL is accepted at its first computation, and else keeps all but its record. -/
theorem Port.act_passing {base : BaseFields} {pr : Params} {first : Bool} {p : Fin 32} {pt : Port}
    (pass : pt.verdict.cls ≠ .fail) (made : pt.verdict.cls ≠ .none) :
    pt.act base pr first p = if first then pt.accept pr else pt := by
  unfold Port.act
  split
  · contradiction
  · rfl
  · rfl
  · contradiction

/-- Ports judged without a FAIL are all that a trigger changes. -/
theorem State.port_trigger_pass (closed : s.plan.state = .closed) {selected : Fin 32 → Bool}
    (pass : ∀ p, s.judgedFirst selected p = true → (s.compute p).cls ≠ .fail) (q : Fin 32) :
    (s.trigger selected).port q = if s.judgedFirst selected q then
        if s.verdictDue q then Port.accept s.params { s.port q with verdict := s.compute q }
        else { s.port q with verdict := s.compute q }
      else s.port q := by
  have nodup : (allPorts.filter (s.judgedFirst selected)).Nodup := (List.nodup_finRange 32).filter _
  have joined : s.joinPartners 32 (allPorts.filter (s.judgedFirst selected)) = allPorts.filter (s.judgedFirst selected) :=
    State.joinPartners_passing (fun p mem => pass p (List.mem_filter.mp mem).2) 32
  have once (q : Fin 32) : (s.verdictPass (allPorts.filter (s.judgedFirst selected))).port q =
      if s.judgedFirst selected q then
        if s.verdictDue q then Port.accept s.params { s.port q with verdict := s.compute q }
        else { s.port q with verdict := s.compute q }
      else s.port q := by
    rw [State.port_verdictPass (joined.symm ▸ nodup), joined]
    have member : q ∈ allPorts.filter (s.judgedFirst selected) ↔ s.judgedFirst selected q = true := by simp [allPorts]
    by_cases judged : s.judgedFirst selected q = true
    · rw [if_pos (member.mpr judged), if_pos judged, Port.act_passing (pass q judged) (s.cls_compute q)]
    · rw [if_neg (member.not.mpr judged), if_neg judged]
  have unreported : reportMade s (s.verdictPass (allPorts.filter (s.judgedFirst selected))) = false := by
    refine List.any_eq_false.mpr fun p _ => ?_
    have neighbor : ((s.verdictPass (allPorts.filter (s.judgedFirst selected))).port p).neighbor = (s.port p).neighbor := by
      rw [once]
      split
      · split
        · exact Port.neighbor_accept ..
        · rfl
      · rfl
    rw [State.currentPeer, State.currentPeer, neighbor]
    simp
  rw [State.trigger_closed closed]
  have whole : State.verdictPasses 33 s (allPorts.filter (s.judgedFirst selected)) =
      if allPorts.filter (s.judgedFirst selected) = [] then s
      else s.verdictPass (allPorts.filter (s.judgedFirst selected)) := by
    cases set : allPorts.filter (s.judgedFirst selected) with
    | nil => rfl
    | cons p rest =>
      rw [set] at unreported
      rw [if_neg nofun, State.verdictPasses]
      rw [unreported, if_neg Bool.false_ne_true]
  rw [whole]
  split
  · next none_ =>
    have left_ : ¬ s.judgedFirst selected q = true := List.filter_eq_nil_iff.mp none_ q (List.mem_finRange q)
    rw [if_neg left_]
  · exact once q

end

/-! ## Judgements read the plan, the parameters and the neighbor records -/

section
variable {s t : State} (plan : t.plan = s.plan) (params : t.params = s.params)
  (neighbors : ∀ q, (t.port q).neighbor = (s.port q).neighbor)

include plan params neighbors

theorem State.judge_congr (p : Fin 32) (h : Held) (attempt : BitVec 32) : t.judge p h attempt = s.judge p h attempt := by
  have expected : ∀ q, t.expected q = s.expected q := fun q => by rw [State.expected, State.expected, plan]
  have peers : ∀ q, t.currentPeer q = s.currentPeer q := fun q => by rw [State.currentPeer, State.currentPeer, neighbors]
  have duplicate : t.duplicatePartner p = s.duplicatePartner p := by
    simp only [State.duplicatePartner, neighbors, peers]
  have swap : t.swapPartner p = s.swapPartner p := by simp only [State.swapPartner, expected, peers]
  have holds : t.codeHolds p h = s.codeHolds p h := by
    funext c
    simp only [State.codeHolds, expected, neighbors, duplicate, swap, params, plan]
  have codes : t.codes p h = s.codes p h := by simp only [State.codes, expected, holds]
  simp only [State.judge, State.partner, codes, duplicate, swap, plan]

end

end Sys2Proof.Machine

/-! SUPPORT. PORT_RELEASE (R53). -/

namespace Sys2Proof.Machine

/-! ## The request -/

theorem State.answer_portRelease (s : State) (tag : Byte) (ports : BitVec 32) : s.answer ⟨tag, 0x08, byte4 ports.toNat⟩ =
    takes (((allPorts.filter (s.releases ports)).foldl State.release s).verdicts s fun _ => false) .ok
      (byte4 (portMask (s.releases ports)).toNat) := by
  have read : BitVec.ofNat 32 (numberAt (byte4 ports.toNat) 0 4) = ports := by
    rw [numberAt, byte4, List.drop_zero, List.take_of_length_le (Nat.le_of_eq (numberBytes_length 4 _))]
    exact ofNat_readNumber ports rfl
  rw [s.answer_of_known rfl rfl]
  change s.takePortRelease (byte4 ports.toNat) = _
  unfold State.takePortRelease
  rw [read]

theorem State.releases_iff {s : State} {ports : BitVec 32} {p : Fin 32} :
    s.releases ports p = true ↔ ports.getLsbD p.val = true ∧ (s.port p).state.name = .held := by
  rw [State.releases, Bool.and_eq_true, decide_eq_true_iff]
  exact Iff.rfl

theorem portMask_none {test : Fin 32 → Bool} (none_ : ∀ p, test p = false) : portMask test = 0 := by
  refine BitVec.eq_of_getLsbD_eq fun i below => ?_
  rw [show (portMask test).getLsbD i = test ⟨i, below⟩ from portMask_getLsbD test ⟨i, below⟩, none_]
  simp

theorem portMask_single {test : Fin 32 → Bool} {p : Fin 32} (only : ∀ q, test q = true ↔ q = p) :
    (portMask test).toNat = 2 ^ p.val := by
  have mask : portMask test = BitVec.twoPow 32 p.val := by
    refine BitVec.eq_of_getLsbD_eq fun i below => ?_
    rw [show (portMask test).getLsbD i = test ⟨i, below⟩ from portMask_getLsbD test ⟨i, below⟩, Bool.eq_iff_iff, only]
    simp [Fin.ext_iff, below, eq_comm]
  rw [mask, BitVec.toNat_twoPow_of_lt p.isLt]

theorem filter_allPorts_single {test : Fin 32 → Bool} {p : Fin 32} (only : ∀ q, test q = true ↔ q = p) :
    allPorts.filter test = [p] := by
  have same : test = fun q => q == p := funext fun q => by rw [Bool.eq_iff_iff, only, beq_iff_eq]
  have once : (List.finRange 32).count p = 1 := List.count_eq_one_of_mem (List.nodup_finRange 32) (List.mem_finRange p)
  rw [same, allPorts, List.filter_beq, once]
  rfl

/-- The frame of a PORT_RELEASE. -/
abbrev releaseFrame (tag : Byte) (ports : BitVec 32) : Frame := ⟨tag, 0x08, byte4 ports.toNat⟩

/-- The end of a PORT_RELEASE that releases port `p` alone. -/
def State.released (s : State) (tag : Byte) (ports : BitVec 32) (p : Fin 32) : State :=
  s.answered ((s.hunt.release p).verdicts s.hunt fun _ => false) (releaseFrame tag ports) (byte4 (2 ^ p.val))

section
variable {s : State} {tag : Byte} {ports : BitVec 32} {p : Fin 32}

theorem State.exec_portRelease (ready : s.ready) (selected_ : ports.getLsbD p.val = true) (held : (s.port p).state.name = .held)
    (alone : ∀ q : Fin 32, q ≠ p → ports.getLsbD q.val = true → (s.port q).state.name ≠ .held) :
    exec (.portRelease tag ports) s = .next (s.released tag ports p) := by
  have only (q : Fin 32) : s.hunt.releases ports q = true ↔ q = p := by
    rw [State.releases_iff]
    refine ⟨fun ⟨mem, at_⟩ => not_not.mp fun other => alone q other mem at_, fun here => ?_⟩
    subst here
    exact ⟨selected_, held⟩
  have answer := s.hunt.answer_portRelease tag ports
  rw [filter_allPorts_single only, portMask_single only] at answer
  exact congrArg Host.Outcome.next (State.takeWhole_answered ready answer)

theorem State.mli_released (ready : s.ready) :
    (s.released tag ports p).mli = (s.replying tag 0x08 .ok (byte4 (2 ^ p.val))).mli :=
  State.mli_answered ready ((State.Only.release s.hunt p).trans (.verdicts _ s.hunt fun _ => false)).mli

theorem State.plan_released (s : State) (tag : Byte) (ports : BitVec 32) (p : Fin 32) : (s.released tag ports p).plan = s.plan :=
  ((State.Only.release s.hunt p).trans (.verdicts _ s.hunt fun _ => false)).plan

theorem State.otherPortsKept_released (ready : s.ready) : s.otherPortsKept (s.released tag ports p) p := fun q other low =>
  State.port_answered_other ready (.release s.hunt p) ((State.AtPort.release s.hunt p).others q other) low _

/-- A release that starts no verdict is seen at its port alone. -/
theorem State.released_alone (ready : s.ready) (alone : s.hunt.Alone (s.hunt.release p) p)
    (kept : (s.port p).state.bearing = true → ((s.hunt.release p).port p).state.bearing = true) :
    Port.sameButTx ((s.hunt.release p).port p) ((s.released tag ports p).port p)
      ∧ (∀ q : Fin 32, q ≠ p → (s.released tag ports p).port q = s.port q)
      ∧ (s.released tag ports p).plan = s.plan ∧ (s.released tag ports p).monitor = (s.hunt.release p).monitor := by
  have quiet : ((s.hunt.release p).verdicts s.hunt fun _ => false) = s.hunt.release p := alone.verdicts ready.2.2
  unfold State.released
  rw [quiet]
  refine ⟨?_, fun q other => State.port_answered_same ready alone.only (alone.at_.others q other), alone.only.plan, rfl⟩
  rw [State.port_answered]
  exact concludePort_sameButTx kept

end

end Sys2Proof.Machine

/-! SUPPORT. What a released port goes on to (R38, R40, R53). -/

namespace Sys2Proof.Machine

/-! ## Entries -/

/-- What a port entering READY_WAIT holds (R40, R41). -/
theorem Port.enterReadyWait_fields (pt : Port) :
    pt.enterReadyWait.state = (if pt.neighbor.ready then .active else .verify .readyWait)
      ∧ pt.enterReadyWait.ready = true ∧ pt.enterReadyWait.verdict = pt.verdict
      ∧ pt.enterReadyWait.stageTimer = (if pt.neighbor.ready then .stopped else pt.stageTimer)
      ∧ pt.enterReadyWait.neighbor = pt.neighbor ∧ pt.enterReadyWait.burst = pt.burst
      ∧ pt.enterReadyWait.counters.successes =
        if pt.neighbor.ready then bump pt.counters.successes else pt.counters.successes := by
  unfold Port.enterReadyWait
  dsimp only
  cases pt.neighbor.ready with
  | true => exact ⟨rfl, rfl, rfl, rfl, rfl, rfl, rfl⟩
  | false => exact ⟨rfl, rfl, rfl, rfl, rfl, rfl, rfl⟩

theorem PortState.bearing_ready (ready : Bool) : (if ready then PortState.active else .verify .readyWait).bearing = true := by
  cases ready <;> rfl

theorem Burst.probe_started (k : Fin 8) :
    Burst.started.probes.get k = { Probe.reset with status := if k = 0 then .waiting else .unrequested } := by
  revert k
  decide

/-- VERIFY with a verdict due. -/
def Port.enterDue (pr : Params) (pt : Port) : Port :=
  { pt with state := .verify (.planWait false), stageTimer := armMs pr.verifyTimeout }

section
variable {s : State} {p : Fin 32} {next : NextStep}

theorem State.release_verify (at_ : (s.port p).state = .held .verify next) : s.release p =
    s.modPort p fun pt => Port.enterReadyWait { pt with stageTimer := armMs s.params.verifyTimeout } := by
  unfold State.release
  rw [at_]

theorem State.release_align (at_ : (s.port p).state = .held .align next) : s.release p = s.enterVerify p := by
  unfold State.release
  rw [at_]

theorem State.release_sideband (at_ : (s.port p).state = .held .sideband next) :
    s.release p = s.goOn p (s.nextAfterSideband p) := by
  unfold State.release
  rw [at_]

theorem State.goOn_unused (unused : s.plan.state = .closed ∧ (s.expected p).kind = .unused) :
    s.goOn p (s.nextAfterSideband p) = s.enterVerify p := by
  rw [State.nextAfterSideband, if_pos unused]
  rfl

theorem State.goOn_used (used : ¬ (s.plan.state = .closed ∧ (s.expected p).kind = .unused)) :
    s.goOn p (s.nextAfterSideband p) = s.enterLaneLock p := by
  rw [State.nextAfterSideband, if_neg used]
  rfl

theorem State.enterVerify_open (open_ : s.plan.state ≠ .closed) : s.enterVerify p = s.modPort p fun pt =>
    { pt with state := .verify (.planWait false), stageTimer := .paused (s.params.verifyTimeout * Config.tuPerMs) } :=
  State.modPort_congr (Port.enterVerify_open (decide_eq_false open_))

theorem State.enterVerify_mask (closed : s.plan.state = .closed) (used : (s.expected p).kind ≠ .unused) : s.enterVerify p =
    s.modPort p fun pt => Port.enterMaskWait { pt with stageTimer := .running (s.params.verifyTimeout * Config.tuPerMs) } :=
  State.modPort_congr (Port.enterVerify_judged (decide_eq_true closed) (decide_eq_false used))

/-- A port whose record is UNUSED has its verdict due as it enters VERIFY (R32, R38). -/
theorem State.enterVerify_due (closed : s.plan.state = .closed) (unused : (s.expected p).kind = .unused) : s.enterVerify p =
    s.modPort p (Port.enterDue s.params) := by
  refine State.modPort_congr ?_
  rw [decide_eq_true closed, decide_eq_true unused]
  rfl

/-- LANE_LOCK with every lane fenced (R36). -/
theorem State.enterLaneLock_fenced (all : (s.port p).fenceMask = 15) : s.enterLaneLock p =
    (s.modPort p (Port.enterLaneLock s.params)).fail p .noLanes 2 none := by
  have lane (l : Fin 4) : (((s.modPort p (Port.enterLaneLock s.params)).port p).lane l).state = .fenced := by
    rw [State.port_modPort_self]
    refine (congrArg Lane.state (Table.get_mapFin ..)).trans ?_
    rw [Port.fence_of_fenceMask all, Lane.enterLaneLock, if_pos rfl]
  exact State.examineLanes_none (by rw [State.port_modPort_self]; rfl) (fun l => by rw [lane]; rfl)
    fun l => by rw [Port.good, lane]; rfl

theorem Port.lane_enterLaneLock (pr : Params) (pt : Port) (l : Fin 4) :
    ((pt.enterLaneLock pr).lane l).state = if pt.fence l then .fenced else .locking := by
  refine (congrArg Lane.state (Table.get_mapFin ..)).trans ?_
  unfold Lane.enterLaneLock
  split <;> rfl

theorem State.enterLaneLock_unfenced (some_ : (s.port p).fenceMask ≠ 15) :
    s.enterLaneLock p = s.modPort p (Port.enterLaneLock s.params) := by
  obtain ⟨l, unfenced⟩ : ∃ l, (s.port p).fence l ≠ true := not_forall.mp fun all => some_ (Port.fenceMask_of_fence all)
  refine State.examineLanes_open (l := l) ?_
  rw [State.port_modPort_self, Port.lane_enterLaneLock, if_neg unfenced]
  rfl

end

/-! ## The first verdict of an UNUSED record -/

theorem Port.verdict_fail {base : BaseFields} {pr : Params} {p : Fin 32} {cause : Cause} {stage : Nat} {lane : Option (Fin 4)}
    (pt : Port) : (pt.fail base pr p cause stage lane).verdict = pt.verdict := by
  obtain ⟨state, retry, timer, same⟩ := Port.fail_eq (base := base) (pr := pr) (p := p) (cause := cause) (stage := stage)
    (lane := lane) pt
  have kept : (pt.record cause stage lane).countLinkLoss.verdict = pt.verdict := by
    unfold Port.countLinkLoss; split <;> rfl
  rw [same]
  exact kept

/-- Under an UNUSED record UNPLANNED is present (R157). -/
theorem State.unplanned_judge {s : State} {p : Fin 32} (unused : (s.expected p).kind = .unused) (h : Held)
    (attempt : BitVec 32) : .unplanned ∈ (s.judge p h attempt).codes ∧ (s.judge p h attempt).cls = .fail := by
  have mem : Code.unplanned ∈ (s.judge p h attempt).codes :=
    List.mem_filter.mpr ⟨by decide, by rw [unused, State.codeHolds, unused]; rfl⟩
  exact ⟨mem, if_pos (List.any_eq_true.mpr ⟨_, mem, rfl⟩)⟩

section
variable {s : State} {p : Fin 32}

/-- The port at which an UNUSED record's verdict is due. -/
def State.dueUnused (s : State) (p : Fin 32) : State := s.modPort p (Port.enterDue s.params)

theorem State.compute_dueUnused (closed : s.plan.state = .closed) :
    (s.dueUnused p).verdictDue p = true ∧ (s.dueUnused p).compute p = s.judge p (s.port p).heldNow (s.port p).attempt := by
  have due : (s.dueUnused p).verdictDue p = true :=
    State.verdictDue_eq_true.mpr ⟨closed, false, by rw [State.dueUnused, State.port_modPort_self]; rfl⟩
  have neighbors (q : Fin 32) : ((s.dueUnused p).port q).neighbor = (s.port q).neighbor := by
    rw [State.dueUnused, State.port_modPort]
    split
    · next here => rw [here]; rfl
    · rfl
  refine ⟨due, ?_⟩
  rw [State.compute, due, if_pos rfl, State.judge_congr (s := s) (t := s.dueUnused p) rfl rfl neighbors, State.dueUnused, State.port_modPort_self]
  rfl

/-- What the trigger makes of it. -/
theorem State.port_trigger_dueUnused (closed : s.plan.state = .closed) (unused : (s.expected p).kind = .unused)
    (selected : Fin 32 → Bool) :
    ((s.dueUnused p).trigger selected).port p = Port.fail (s.expected p).base s.params p .verdictFail 4 none
        { (s.port p).enterDue s.params with verdict := s.judge p (s.port p).heldNow (s.port p).attempt }
      ∧ ∀ r ∈ ((s.dueUnused p).trigger selected).monitor.queue, lanePort r.lane ≠ p := by
  obtain ⟨due, computed⟩ := State.compute_dueUnused (s := s) (p := p) closed
  have judged : (s.dueUnused p).judgedFirst selected p = true := by rw [State.judgedFirst, due]; rfl
  have fails : ((s.dueUnused p).compute p).cls = .fail := computed ▸ (State.unplanned_judge unused _ _).2
  refine ⟨?_, State.withdrawn_trigger_fail (s := s.dueUnused p) closed judged fails⟩
  rw [State.port_trigger_fail (s := s.dueUnused p) closed judged fails, computed, State.dueUnused, State.port_modPort_self]
  rfl

end

end Sys2Proof.Machine

/-! SUPPORT. PORT_RELEASE, state by state (R53). -/

namespace Sys2Proof.Machine

section
variable {s : State} {tag : Byte} {ports : BitVec 32} {p : Fin 32}

/-- A release that changes one port, whose record it leaves and whose verdict does not fall due. -/
theorem State.released_modPort (ready : s.ready) {f : Port → Port} (goes : s.hunt.release p = s.hunt.modPort p f)
    (neighbor : (f (s.port p)).neighbor.status = (s.port p).neighbor.status
      ∧ (f (s.port p)).neighbor.identity = (s.port p).neighbor.identity)
    (due : s.plan.state = .closed → ∀ taken, (f (s.port p)).state ≠ .verify (.planWait taken))
    (bears : (s.port p).state.bearing = true → (f (s.port p)).state.bearing = true) :
    (∃ tx, (s.released tag ports p).port p = { f (s.port p) with tx := tx })
      ∧ (∀ q : Fin 32, q ≠ p → (s.released tag ports p).port q = s.port q)
      ∧ (s.released tag ports p).plan = s.plan ∧ (s.released tag ports p).monitor = s.monitor := by
  have at_u : (s.hunt.release p).port p = f (s.port p) := by
    rw [goes, State.port_modPort_self]
    rfl
  have alone : s.hunt.Alone (s.hunt.release p) p := by
    refine ⟨.release .., .release .., ?_, ?_⟩
    · rw [State.currentPeer, at_u, neighbor.1, neighbor.2]
      rfl
    · rw [← Bool.not_eq_true, State.verdictDue_eq_true, at_u]
      rintro ⟨closed, taken, waits⟩
      rw [goes] at closed
      exact due closed taken waits
  obtain ⟨same, others, plan, monitor⟩ := State.released_alone (tag := tag) (ports := ports) ready alone
    (fun low => by rw [at_u]; exact bears low)
  rw [at_u] at same
  exact ⟨⟨((s.released tag ports p).port p).tx, by rw [← same]⟩, others, plan, by rw [monitor, goes]; rfl⟩

/-- A release that fails its port. -/
theorem State.failed_released {b : Port} {cause : Cause} {stage : Nat} {lane : Option (Fin 4)}
    (stakes : (s.port p).Stakes b)
    (failed : ((s.hunt.release p).verdicts s.hunt fun _ => false).port p =
      b.fail (s.expected p).base s.params p cause stage lane)
    (withdrawn : ∀ r ∈ ((s.hunt.release p).verdicts s.hunt fun _ => false).monitor.queue, lanePort r.lane ≠ p) :
    s.failed (s.released tag ports p) p cause stage lane := by
  refine State.failed_of_port stakes ?_ withdrawn
  rw [← failed, State.released, State.port_answered]
  exact concludePort_eq ..

/-- The first verdict of an UNUSED record, as a release makes it. -/
theorem State.released_unused (closed : s.plan.state = .closed) (unused : (s.expected p).kind = .unused)
    (inactive : (s.port p).state ≠ .active) (goes : s.hunt.release p = s.hunt.dueUnused p) :
    s.failed (s.released tag ports p) p .verdictFail 4 none
      ∧ ((s.released tag ports p).port p).verdict = s.judge p (s.port p).heldNow (s.port p).attempt := by
  obtain ⟨own, gone⟩ := State.port_trigger_dueUnused (s := s.hunt) (p := p) closed unused
    (fun q => reportMade s.hunt (s.hunt.dueUnused p) || (fun _ => false) q)
  have settled : (s.judge p (s.port p).heldNow (s.port p).attempt).pending = false := rfl
  have judged : s.hunt.judge p (s.hunt.port p).heldNow (s.hunt.port p).attempt = s.judge p (s.port p).heldNow (s.port p).attempt :=
    State.judge_congr (s := s) (t := s.hunt) rfl rfl (fun _ => rfl) ..
  rw [judged] at own
  refine ⟨State.failed_released (b := { (s.port p).enterDue s.params with
    verdict := s.judge p (s.port p).heldNow (s.port p).attempt })
    ⟨⟨nofun, fun active => absurd active inactive⟩, rfl, rfl, rfl, rfl⟩ (by rw [goes]; exact own) (by rw [goes]; exact gone), ?_⟩
  rw [← goes] at own
  change ((s.hunt.release p).verdicts s.hunt fun _ => false).port p = _ at own
  obtain ⟨tx, concluded⟩ := concludePort_of_settled s.hunt ((s.hunt.release p).verdicts s.hunt fun _ => false) p
    (pt := ((s.hunt.release p).verdicts s.hunt fun _ => false).port p) (by rw [own, Port.verdict_fail]; exact settled)
  rw [State.released, State.port_answered, concluded, own]
  exact Port.verdict_fail _

end

/-- Settles O23: a released port goes on as `State.release` says, alone unless its verdict falls due or no lane is unfenced. -/
theorem portReleaseGoesOn : Obligations.PortReleaseGoesOn := by
  intro s tag ports ready
  refine ⟨fun none_ => ?none, fun p selected_ alone => ?_⟩
  case none =>
    have unheld (q : Fin 32) : s.hunt.releases ports q = false := by
      rw [← Bool.not_eq_true, State.releases_iff]
      exact fun ⟨mem, at_⟩ => none_ q mem at_
    have answer := s.hunt.answer_portRelease tag ports
    rw [List.filter_eq_nil_iff.mpr (fun q _ => by rw [unheld]; nofun), portMask_none unheld, List.foldl_nil,
      State.verdicts_quiet (before := s.hunt) (after := s.hunt) ready.2.2 fun _ => rfl] at answer
    exact congrArg Host.Outcome.next (State.takeWhole_of_view ready answer)
  have taken (held : (s.port p).state.name = .held) := State.exec_portRelease (tag := tag) ready selected_ held alone
  have mli := State.mli_released (s := s) (tag := tag) (ports := ports) (p := p) ready
  have plan := s.plan_released tag ports p
  have others := State.otherPortsKept_released (tag := tag) (ports := ports) (p := p) ready
  refine ⟨fun next at_ => ?verify, fun next at_ open_ => ?align, fun next at_ closed used => ?mask, fun next at_ closed unused => ?unused,
    fun next at_ used all => ?fenced, fun next at_ used some_ => ?lock⟩
  case verify =>
    have goes := State.release_verify (s := s.hunt) at_
    obtain ⟨state, isReady, verdict, timer, neighbor, -⟩ :=
      Port.enterReadyWait_fields { s.port p with stageTimer := armMs s.params.verifyTimeout }
    have bears := PortState.bearing_ready (s.port p).neighbor.ready
    obtain ⟨⟨tx, own⟩, rest⟩ := State.released_modPort (tag := tag) (ports := ports) ready goes
      ⟨congrArg (·.status) neighbor, congrArg (·.identity) neighbor⟩
      (fun _ taken waits => nomatch (bears.symm.trans (congrArg PortState.bearing (state.symm.trans waits)) : true = false))
      (fun _ => (congrArg PortState.bearing state).trans bears)
    refine ⟨_, taken (by rw [at_]; rfl), mli, ?_⟩
    rw [own]
    exact ⟨state, isReady, verdict, timer, rest⟩
  case align =>
    have goes := (State.release_align (s := s.hunt) at_).trans (State.enterVerify_open open_)
    obtain ⟨⟨tx, own⟩, rest⟩ := State.released_modPort (tag := tag) (ports := ports) ready goes ⟨rfl, rfl⟩
      (fun closed => absurd closed open_) (fun bears => by rw [at_] at bears; cases bears)
    refine ⟨_, taken (by rw [at_]; rfl), mli, ?_⟩
    rw [own]
    exact ⟨rfl, rfl, rfl, rfl, rest⟩
  case mask =>
    have goes := (State.release_align (s := s.hunt) at_).trans (State.enterVerify_mask closed used)
    obtain ⟨timer, state, deskew, status, identity⟩ :=
      Port.enterMaskWait_keeps { s.port p with stageTimer := .running (s.params.verifyTimeout * Config.tuPerMs) }
    obtain ⟨⟨tx, own⟩, rest⟩ := State.released_modPort (tag := tag) (ports := ports) ready goes ⟨status, identity⟩
      (fun _ taken waits => by
        have now := state.symm.trans waits
        split at now <;> cases now)
      (fun bears => by rw [at_] at bears; cases bears)
    refine ⟨_, taken (by rw [at_]; rfl), mli, ?_⟩
    rw [own]
    cases kept : (s.port p).neighbor.kept with
    | none =>
      rw [Port.enterMaskWait_none (by exact kept)]
      exact ⟨fun _ => ⟨rfl, rfl⟩, fun some_ => absurd rfl some_, rfl, rfl, rfl, rest⟩
    | some m =>
      rw [Port.enterMaskWait_some (by exact kept), Port.enterRanging_eq]
      exact ⟨nofun, fun _ => ⟨rfl, rfl, rfl, rfl, rfl, Burst.probe_started⟩, rfl, rfl, rfl, rest⟩
  case unused =>
    have inactive : (s.port p).state ≠ .active := by rcases at_ with at_ | at_ <;> rw [at_] <;> nofun
    have goes : s.hunt.release p = s.hunt.dueUnused p := by
      rcases at_ with at_ | at_
      · exact (State.release_align (s := s.hunt) at_).trans (State.enterVerify_due closed unused)
      · exact ((State.release_sideband (s := s.hunt) at_).trans (State.goOn_unused ⟨closed, unused⟩)).trans
          (State.enterVerify_due closed unused)
    obtain ⟨failed, verdict⟩ := State.released_unused (tag := tag) (ports := ports) closed unused inactive goes
    exact ⟨_, taken (by rcases at_ with at_ | at_ <;> rw [at_] <;> rfl), mli, failed, verdict,
      by rw [verdict]; exact (State.unplanned_judge unused _ _).1, others, plan⟩
  case fenced =>
    have goes : s.hunt.release p = (s.hunt.modPort p (Port.enterLaneLock s.params)).fail p .noLanes 2 none :=
      ((State.release_sideband (s := s.hunt) at_).trans (State.goOn_used used)).trans (State.enterLaneLock_fenced all)
    have apart := State.judgeable_fail (s.hunt.modPort p (Port.enterLaneLock s.params)) p .noLanes 2 none
    refine ⟨_, taken (by rw [at_]; rfl), mli, State.failed_released (b := (s.port p).enterLaneLock s.params)
      ⟨⟨nofun, fun active => by rw [at_] at active; cases active⟩, rfl, rfl, rfl, rfl⟩ ?_ ?_, others, plan⟩
    · rw [goes, State.port_verdicts_apart apart, State.fail, State.port_withdrawPort, State.port_modPort_self,
        State.port_modPort_self]
      rfl
    · rw [goes]
      exact (State.Withdraws.verdicts ..).none_of (State.withdrawn _ _)
  case lock =>
    have goes := ((State.release_sideband (s := s.hunt) at_).trans (State.goOn_used used)).trans (State.enterLaneLock_unfenced some_)
    obtain ⟨⟨tx, own⟩, rest⟩ := State.released_modPort (tag := tag) (ports := ports) ready goes ⟨rfl, rfl⟩
      (fun _ _ => nofun) (fun bears => by rw [at_] at bears; cases bears)
    refine ⟨_, taken (by rw [at_]; rfl), mli, ?_⟩
    rw [own]
    exact ⟨rfl, Port.lane_enterLaneLock _ _, rest⟩

end Sys2Proof.Machine

/-! SUPPORT. The first verdict of a port whose burst ends under a CLOSED plan (R39, R40, R163). -/

namespace Sys2Proof.Machine

/-! ## Acceptance -/

theorem Port.verdict_accept (pr : Params) (pt : Port) : (pt.accept pr).verdict = pt.verdict := by
  unfold Port.accept
  split
  · rfl
  · obtain ⟨-, -, verdict, -⟩ := Port.enterReadyWait_fields pt
    exact verdict

theorem Port.burst_accept (pr : Params) (pt : Port) : (pt.accept pr).burst = pt.burst := by
  unfold Port.accept
  split
  · rfl
  · obtain ⟨-, -, -, -, -, burst, -⟩ := Port.enterReadyWait_fields pt
    exact burst

theorem Port.accept_held {pr : Params} {pt : Port} (held : pr.holdPoint = .verify ∧ pt.holdEnable = true) :
    pt.accept pr = pt.enterHeld .verify .ready := if_pos (by rw [Port.heldAt, decide_eq_true held.1, held.2]; rfl)

theorem Port.accept_unheld {pr : Params} {pt : Port} (free : ¬ (pr.holdPoint = .verify ∧ pt.holdEnable = true)) :
    pt.accept pr = pt.enterReadyWait := by
  refine if_neg fun held => free ?_
  rw [Port.heldAt, Bool.and_eq_true, decide_eq_true_iff] at held
  exact held

/-! ## One verdict due -/

section
variable {s u : State} {p : Fin 32} {taken : Bool}

/-- An event that makes one verdict due, and no report, has that port alone judged. -/
theorem State.judgedFirst_one (settled : s.settled) (only : s.Only u) (at_ : State.AtPort p s u)
    (peer : u.currentPeer p = s.currentPeer p) (closed : s.plan.state = .closed)
    (waits : (u.port p).state = .verify (.planWait taken)) (q : Fin 32) :
    u.judgedFirst (fun q => reportMade s u || (fun _ => false) q) q = true ↔ q = p := by
  have unreported : reportMade s u = false := by
    refine List.any_eq_false.mpr fun q _ => ?_
    have same : s.currentPeer q = u.currentPeer q := by
      by_cases here : q = p
      · rw [here, peer]
      · rw [State.currentPeer, State.currentPeer, at_.others q here]
    rw [decide_eq_false (not_not.mpr same)]
    nofun
  rw [State.judgedFirst, unreported, Bool.or_self, Bool.and_false, Bool.or_false]
  refine ⟨fun due => not_not.mp fun other => ?_, fun here => ?_⟩
  · rw [State.verdictDue, only.plan, at_.others q other] at due
    cases due.symm.trans (settled.2.2 q)
  · rw [here, State.verdictDue_eq_true, only.plan]
    exact ⟨closed, taken, waits⟩

/-- A first verdict fails its port or accepts it. -/
theorem State.firstVerdict (settled : s.settled) (only : s.Only u) (at_ : State.AtPort p s u)
    (peer : u.currentPeer p = s.currentPeer p) (closed : s.plan.state = .closed)
    (waits : (u.port p).state = .verify (.planWait taken)) {v : Verdict}
    (computed : v = u.judge p (u.port p).heldNow (u.port p).attempt) :
    (v.cls = .fail → (u.verdicts s fun _ => false).port p =
        Port.fail (u.expected p).base u.params p .verdictFail 4 none { u.port p with verdict := v }
      ∧ ∀ r ∈ (u.verdicts s fun _ => false).monitor.queue, lanePort r.lane ≠ p)
    ∧ (v.cls ≠ .fail → (u.verdicts s fun _ => false).port p = Port.accept u.params { u.port p with verdict := v }) := by
  have closedU : u.plan.state = .closed := only.plan ▸ closed
  have due : u.verdictDue p = true := State.verdictDue_eq_true.mpr ⟨closedU, taken, waits⟩
  have verdict : u.compute p = v := by rw [State.compute, due, computed]; rfl
  have one := State.judgedFirst_one settled only at_ peer closed waits
  refine ⟨fun fails => ?_, fun pass => ?_⟩
  · rw [← verdict] at fails
    refine ⟨?_, State.withdrawn_trigger_fail closedU ((one p).mpr rfl) fails⟩
    refine (State.port_trigger_fail closedU ((one p).mpr rfl) fails).trans ?_
    rw [verdict, waits]
    rfl
  · have passing (q : Fin 32) (judged : u.judgedFirst (fun q => reportMade s u || (fun _ => false) q) q = true) :
        (u.compute q).cls ≠ .fail := by
      rw [(one q).mp judged, verdict]
      exact pass
    refine (State.port_trigger_pass closedU passing p).trans ?_
    rw [if_pos ((one p).mpr rfl), due, if_pos rfl, verdict]

end

/-! ## The end of a burst under a CLOSED plan -/

section
variable {s : State} {p : Fin 32} {k : Fin 8}

theorem State.exec_probeTimeout_last (ranging : (s.port p).state = .verify .ranging) (runs : (s.port p).burst.running = true)
    (outstanding : ((s.port p).burst.probes.get k).status = .outstanding)
    (running : ((s.port p).burst.probes.get k).timeout.isRunning = true)
    (all : ∀ j : Fin 8, j ≠ k → (s.port p).burst.done j) : exec (.probeTimeoutExpiry p k) s =
      .next (s.event ((s.modPort p fun pt => { pt with burst := pt.burst.timeOut k }).completeBurst p)) := by
  have finished : ((s.port p).burst.timeOut k).complete = true := (Burst.complete_modProbe_iff (.inr rfl)).mpr ⟨runs, all⟩
  have taken : exec (.probeTimeoutExpiry p k) s =
      .next (s.event ((s.modPort p fun pt => { pt with burst := pt.burst.timeOut k }).checkBurst p)) :=
    if_pos ⟨outstanding, running⟩
  rw [taken, State.checkBurst_of_complete (by rw [State.port_modPort_self]; exact ranging)
    (by rw [State.port_modPort_self]; exact finished)]

/-- A burst that ends under a CLOSED plan leaves its port with its verdict due. -/
theorem State.port_completeBurst_closed (closed : s.plan.state = .closed) {f : Port → Port} {b : Burst}
    (ends : f (s.port p) = { s.port p with burst := b }) : ∃ length unmeasured suspect, ∃ summary : RangingSummary,
      ((s.modPort p f).completeBurst p).port p = { s.port p with
        state := .verify (.planWait true)
        neighbor := { (s.port p).neighbor with length := length, unmeasured := unmeasured, suspect := suspect }
        summary := summary
        burst := Burst.reset } := by
  obtain ⟨length, unmeasured, suspect, summary, -, outcome⟩ := Port.finishBurst_eq (f (s.port p))
    (s.expected p).base.cableKind (s.params.cableDelays.get (s.expected p).base.cableKind)
  refine ⟨length, unmeasured, suspect, summary, ?_⟩
  have due : decide ((s.modPort p f).plan.state = .closed) = true := decide_eq_true closed
  rw [State.completeBurst]
  dsimp only
  rw [due, State.port_modPort_self, State.port_modPort_self, Port.fallDue, if_pos rfl]
  refine (congrArg (fun pt : Port => { pt with state := .verify (.planWait true) }) outcome).trans ?_
  rw [ends]

/-- The end of a burst under a CLOSED plan (R39, R40): a verdict from what the burst leaves, failed or accepted at once. -/
theorem State.burstJudged (settled : s.settled) (closed : s.plan.state = .closed) (ranging : (s.port p).state = .verify .ranging)
    {f : Port → Port} {b : Burst} (ends : f (s.port p) = { s.port p with burst := b }) {u : State}
    (is : u = (s.modPort p f).completeBurst p) {v : Verdict} (computed : v = u.judge p (u.port p).heldNow (s.port p).attempt) :
    ((s.event u).port p).verdict = v ∧ (v.cls = .fail → s.failed (s.event u) p .verdictFail 4 none)
      ∧ (v.cls ≠ .fail → ((s.event u).port p).neighbor = (u.port p).neighbor ∧ ((s.event u).port p).burst = Burst.reset
        ∧ ((s.params.holdPoint = .verify ∧ (s.port p).holdEnable = true) →
            ((s.event u).port p).state = .held .verify .ready ∧ ((s.event u).port p).stageTimer = .stopped)
        ∧ (¬ (s.params.holdPoint = .verify ∧ (s.port p).holdEnable = true) → ((s.event u).port p).ready = true
            ∧ ((s.event u).port p).state = (if (s.port p).neighbor.ready then .active else .verify .readyWait)
            ∧ ((s.port p).neighbor.ready = false → ((s.event u).port p).stageTimer = (s.port p).stageTimer)
            ∧ ((s.port p).neighbor.ready = true →
                ((s.event u).port p).counters.successes = bump (s.port p).counters.successes))) := by
  obtain ⟨length, unmeasured, suspect, summary, at_u⟩ := State.port_completeBurst_closed closed ends
  have only : s.Only u := is ▸ (State.Only.modPort ..).trans (.completeBurst ..)
  have here : State.AtPort p s u := is ▸ (State.AtPort.modPort ..).trans (.completeBurst ..)
  rw [← is] at at_u
  have peer : u.currentPeer p = s.currentPeer p := by rw [State.currentPeer, at_u]; rfl
  have waits : (u.port p).state = .verify (.planWait true) := by rw [at_u]
  have attempt : (u.port p).attempt = (s.port p).attempt := by rw [at_u]
  obtain ⟨fails, passes⟩ := State.firstVerdict settled only here peer closed waits (v := v) (by rw [attempt]; exact computed)
  have settledV : v.pending = false := computed ▸ rfl
  have concluded {pt : Port} (own : (u.verdicts s fun _ => false).port p = pt) (verdict : pt.verdict = v) :
      ∃ tx, (s.event u).port p = { pt with tx := tx } := by
    have made := (State.port_finish s (u.verdicts s fun _ => false) [] [] p).trans (congrArg _ own)
    rw [State.event, made]
    exact concludePort_of_settled _ _ _ (by rw [verdict]; exact settledV)
  refine ⟨?verdict, fun failed => ?fails, fun pass => ?passes⟩
  case verdict =>
    by_cases failed : v.cls = .fail
    · obtain ⟨tx, own⟩ := concluded (fails failed).1 (Port.verdict_fail _)
      rw [own]
      exact Port.verdict_fail _
    · obtain ⟨tx, own⟩ := concluded (passes failed) (Port.verdict_accept ..)
      rw [own]
      exact Port.verdict_accept ..
  case fails =>
    obtain ⟨own, gone⟩ := fails failed
    refine State.failed_of_port (b := { u.port p with verdict := v }) ?_ ?_ ((State.Withdraws.finish ..).none_of gone)
    · rw [at_u]
      exact ⟨⟨nofun, fun active => by rw [ranging] at active; cases active⟩, rfl, rfl, rfl, rfl⟩
    · obtain ⟨tx, made⟩ := concluded own (Port.verdict_fail _)
      rw [made, State.expected, State.expected, only.plan, only.params]
      exact ⟨_, tx, rfl⟩
  case passes =>
    obtain ⟨tx, own⟩ := concluded (passes pass) (Port.verdict_accept ..)
    rw [own, only.params]
    refine ⟨Port.neighbor_accept .., (Port.burst_accept ..).trans (by rw [at_u]), fun held => ?_, fun free => ?_⟩
    · rw [Port.accept_held ⟨held.1, by rw [at_u]; exact held.2⟩]
      exact ⟨rfl, rfl⟩
    · rw [Port.accept_unheld fun held => free ⟨held.1, by rw [at_u] at held; exact held.2⟩]
      obtain ⟨state, isReady, -, timer, -, -, successes⟩ := Port.enterReadyWait_fields { u.port p with verdict := v }
      refine ⟨isReady, state.trans (by rw [at_u]), fun unready => timer.trans ?_, fun already => successes.trans ?_⟩
      · rw [at_u]
        exact if_neg (by rw [unready]; nofun)
      · rw [at_u]
        exact if_pos already

end

end Sys2Proof.Machine

/-! SUPPORT. The verdicts of a plan close (R15, R38, R165, R169). -/

namespace Sys2Proof.Machine

/-! ## What a close leaves of a port for the Verdict Unit -/

section
variable {e : Effective} {pt : Port}

/-- The ports whose first computation a close makes due. -/
def Port.firstAt (e : Effective) (pt : Port) : Prop :=
  pt.state = .verify (.planWait true) ∨ pt.state = .verify (.planWait false) ∧ e.kind = .unused

theorem Port.meetClose_first (first : pt.firstAt e) : pt.meetClose e =
    { pt with retryCount := clampRetry e.base pt.retryCount, stageTimer := pt.stageTimer.resume } := by
  rcases first with waits | ⟨waits, unused⟩
  · exact Port.meetClose_due waits (.inl rfl)
  · exact Port.meetClose_due waits (.inr unused)

/-- A port that waits for its mask goes on to it. -/
theorem Port.meetClose_cases (pt : Port) (e : Effective) : pt.firstAt e
    ∨ (pt.state = .verify (.planWait false) ∧ pt.meetClose e =
        Port.enterMaskWait { pt with retryCount := clampRetry e.base pt.retryCount, stageTimer := pt.stageTimer.resume })
    ∨ (∀ taken, pt.state ≠ .verify (.planWait taken)) ∧
        pt.meetClose e = { pt with retryCount := clampRetry e.base pt.retryCount } := by
  by_cases waits : ∃ taken, pt.state = .verify (.planWait taken)
  · obtain ⟨taken, waits⟩ := waits
    cases taken with
    | true => exact .inl (.inl waits)
    | false =>
      by_cases unused : e.kind = .unused
      · exact .inl (.inr ⟨waits, unused⟩)
      · exact .inr (.inl ⟨waits, Port.meetClose_mask waits unused⟩)
  · have other : ∀ taken, pt.state ≠ .verify (.planWait taken) := fun taken at_ => waits ⟨taken, at_⟩
    exact .inr (.inr ⟨other, Port.meetClose_other other⟩)

/-- After the close the ports in PLAN_WAIT are those whose first computation is due. -/
theorem Port.waits_meetClose : (∃ taken, (pt.meetClose e).state = .verify (.planWait taken)) ↔ pt.firstAt e := by
  refine ⟨fun ⟨taken, waits⟩ => ?_, fun first => ?_⟩
  · rcases Port.meetClose_cases pt e with first | ⟨-, left_⟩ | ⟨other, left_⟩
    · exact first
    · obtain ⟨-, state, -⟩ := Port.enterMaskWait_keeps
        { pt with retryCount := clampRetry e.base pt.retryCount, stageTimer := pt.stageTimer.resume }
      rw [left_, state] at waits
      split at waits <;> cases waits
    · rw [left_] at waits
      exact absurd waits (other taken)
  · rw [Port.meetClose_first first]
    rcases first with waits | ⟨waits, -⟩
    · exact ⟨true, waits⟩
    · exact ⟨false, waits⟩

theorem Port.not_bearing_first (first : pt.firstAt e) : pt.state.bearing = false := by
  rcases first with waits | ⟨waits, -⟩ <;> rw [waits] <;> rfl

theorem Port.bearing_meetClose (pt : Port) (e : Effective) : (pt.meetClose e).state.bearing = pt.state.bearing := by
  rcases Port.meetClose_cases pt e with first | ⟨waits, left_⟩ | ⟨-, left_⟩
  · rw [Port.meetClose_first first]
  · obtain ⟨-, state, -⟩ := Port.enterMaskWait_keeps
      { pt with retryCount := clampRetry e.base pt.retryCount, stageTimer := pt.stageTimer.resume }
    rw [left_, state, waits]
    split <;> rfl
  · rw [left_]

theorem Port.state_meetClose_bearing (bears : pt.state.bearing = true) : (pt.meetClose e).state = pt.state := by
  have other : ∀ taken, pt.state ≠ .verify (.planWait taken) := fun taken waits => by rw [waits] at bears; cases bears
  rw [Port.meetClose_other other]

theorem Port.verdict_enterMaskWait (pt : Port) : pt.enterMaskWait.verdict = pt.verdict := by
  cases kept : pt.neighbor.kept with
  | none => rw [Port.enterMaskWait_none kept]
  | some m => rw [Port.enterMaskWait_some kept, Port.enterRanging_eq]

/-- A close leaves every record's verdict and peer. -/
theorem Port.meetClose_keeps (pt : Port) (e : Effective) : (pt.meetClose e).verdict = pt.verdict
    ∧ (pt.meetClose e).neighbor.status = pt.neighbor.status ∧ (pt.meetClose e).neighbor.identity = pt.neighbor.identity := by
  rcases Port.meetClose_cases pt e with first | ⟨-, left_⟩ | ⟨-, left_⟩
  · rw [Port.meetClose_first first]
    exact ⟨rfl, rfl, rfl⟩
  · obtain ⟨-, -, -, status, identity⟩ := Port.enterMaskWait_keeps
      { pt with retryCount := clampRetry e.base pt.retryCount, stageTimer := pt.stageTimer.resume }
    rw [left_]
    exact ⟨Port.verdict_enterMaskWait _, status, identity⟩
  · rw [left_]
    exact ⟨rfl, rfl, rfl⟩

end

/-! ## The ports a close judges -/

section
variable {s : State} {generation : BitVec 16}

/-- The ports that a close recomputes in place: marked changed, or pending (R165, R169). -/
def State.againAt (s : State) (generation : BitVec 16) (p : Fin 32) : Prop :=
  (s.port p).state.bearing = true
    ∧ ((s.plan.close generation).changed.get p = true ∨ (s.port p).verdict.pending = true)

theorem State.verdictDue_closing (p : Fin 32) :
    (s.closing generation).verdictDue p = true ↔ (s.port p).firstAt ((s.plan.close generation).cache.get p) := by
  rw [State.verdictDue_eq_true, State.port_closing, Port.waits_meetClose]
  exact ⟨And.right, fun first => ⟨rfl, first⟩⟩

theorem State.unreported_closing (s : State) (generation : BitVec 16) : reportMade s (s.closing generation) = false := by
  refine List.any_eq_false.mpr fun q _ => ?_
  have same : s.currentPeer q = (s.closing generation).currentPeer q := by
    obtain ⟨-, status, identity⟩ := (s.port q).meetClose_keeps ((s.plan.close generation).cache.get q)
    rw [State.currentPeer, State.currentPeer, State.port_closing, status, identity]
  rw [decide_eq_false (not_not.mpr same)]
  nofun

/-- The ports that a close's triggers select (R165). -/
def State.closeSelects (s : State) (generation : BitVec 16) (q : Fin 32) : Bool :=
  reportMade s (s.closing generation) || ((s.plan.close generation).changed.get q || (s.port q).verdict.pending)

theorem State.closePlan_trigger (s : State) (generation : BitVec 16) :
    s.closePlan generation = (s.closing generation).trigger (s.closeSelects generation) := rfl

/-- The ports that a close judges. -/
theorem State.judgedFirst_closing (p : Fin 32) : (s.closing generation).judgedFirst (s.closeSelects generation) p = true
    ↔ (s.port p).firstAt ((s.plan.close generation).cache.get p) ∨ s.againAt generation p := by
  rw [State.judgedFirst, State.closeSelects, State.unreported_closing, Bool.false_or, Bool.or_eq_true, State.verdictDue_closing, Bool.and_eq_true,
    Bool.or_eq_true, State.port_closing, Port.bearing_meetClose]
  rfl

/-- The verdict that a close computes at a port. -/
def State.closingVerdict (s : State) (generation : BitVec 16) (p : Fin 32) : Verdict :=
  if (s.port p).state.bearing then (s.closing generation).judge p (s.port p).verdict.held (s.port p).verdict.attempt
  else (s.closing generation).judge p (s.port p).heldNow (s.port p).attempt

theorem State.compute_closing {p : Fin 32}
    (judged : (s.port p).firstAt ((s.plan.close generation).cache.get p) ∨ s.againAt generation p) :
    (s.closing generation).compute p = s.closingVerdict generation p := by
  rcases judged with first | ⟨bears, -⟩
  · rw [State.compute, (State.verdictDue_closing p).mpr first, if_pos rfl, State.port_closing, Port.meetClose_first first,
      State.closingVerdict, Port.not_bearing_first first]
    rfl
  · have due : (s.closing generation).verdictDue p = false := by
      rw [← Bool.not_eq_true, State.verdictDue_closing]
      exact fun first => by rw [Port.not_bearing_first first] at bears; cases bears
    obtain ⟨verdict, -⟩ := (s.port p).meetClose_keeps ((s.plan.close generation).cache.get p)
    rw [State.compute, due, State.closingVerdict, bears, State.port_closing, verdict]
    rfl

theorem State.closingVerdict_fields (s : State) (generation : BitVec 16) (p : Fin 32) :
    (s.closingVerdict generation p).pending = false ∧ (s.closingVerdict generation p).epoch = s.plan.epoch + 1 := by
  unfold State.closingVerdict
  split <;> exact ⟨rfl, rfl⟩

/-- A judged port that fails at a close. -/
theorem State.port_closePlan_fail {p : Fin 32}
    (judged : (s.port p).firstAt ((s.plan.close generation).cache.get p) ∨ s.againAt generation p)
    (fails : (s.closingVerdict generation p).cls = .fail) :
    ((s.closePlan generation).port p).verdict = s.closingVerdict generation p
      ∧ (((s.closePlan generation).port p).state = .backoff ∨ ((s.closePlan generation).port p).state = .fault) := by
  have computed := State.compute_closing judged
  rw [State.closePlan_trigger, State.port_trigger_fail (s := s.closing generation) rfl
    ((State.judgedFirst_closing p).mpr judged) (computed ▸ fails), computed]
  exact ⟨Port.verdict_fail _, Port.state_fail ..⟩

/-- A close at which no judged port fails. -/
theorem State.port_closePlan_pass (pass : ∀ p : Fin 32,
      (s.port p).firstAt ((s.plan.close generation).cache.get p) ∨ s.againAt generation p →
        (s.closingVerdict generation p).cls ≠ .fail) (p : Fin 32) :
    ((s.port p).state.bearing = true → ((s.closePlan generation).port p).state = (s.port p).state)
      ∧ ((s.port p).firstAt ((s.plan.close generation).cache.get p) ∨ s.againAt generation p →
          ((s.closePlan generation).port p).verdict = s.closingVerdict generation p)
      ∧ (¬ ((s.port p).firstAt ((s.plan.close generation).cache.get p) ∨ s.againAt generation p) →
          ((s.closePlan generation).port p).verdict = (s.port p).verdict) := by
  have passing (q : Fin 32) (judged : (s.closing generation).judgedFirst (s.closeSelects generation) q = true) :
      ((s.closing generation).compute q).cls ≠ .fail := by
    have judged := (State.judgedFirst_closing q).mp judged
    rw [State.compute_closing judged]
    exact pass q judged
  obtain ⟨verdict, -⟩ := (s.port p).meetClose_keeps ((s.plan.close generation).cache.get p)
  rw [State.closePlan_trigger, State.port_trigger_pass (s := s.closing generation) rfl passing]
  by_cases judged : (s.port p).firstAt ((s.plan.close generation).cache.get p) ∨ s.againAt generation p
  · rw [if_pos ((State.judgedFirst_closing p).mpr judged), State.compute_closing judged]
    refine ⟨fun bears => ?_, fun _ => ?_, fun not => absurd judged not⟩
    · have due : ¬ (s.closing generation).verdictDue p = true := by
        rw [State.verdictDue_closing]
        exact fun first => by rw [Port.not_bearing_first first] at bears; cases bears
      rw [if_neg due, State.port_closing]
      exact Port.state_meetClose_bearing bears
    · split
      · exact Port.verdict_accept ..
      · rfl
  · rw [if_neg ((State.judgedFirst_closing p).not.mpr judged), State.port_closing]
    exact ⟨Port.state_meetClose_bearing, fun is => absurd is judged, fun _ => verdict⟩

end

end Sys2Proof.Machine

/-! SUPPORT. Frames taken: what their kind adds, and frames that no other port sees (R65, R66, R144). -/

namespace Sys2Proof.Machine

/-! ## What the kind of a frame adds -/

/-- A port with a burst and waiting echoes put in place. -/
def Port.added (b : Burst) (echoes : List EchoSlot) (pt : Port) : Port :=
  { pt with burst := b, tx := { pt.tx with echoes := echoes } }

/-- A burst in which no ECHO finds its probe. -/
def Burst.unanswerable (b : Burst) : Prop := b.running = false ∨ ∀ k, (b.probes.get k).status ≠ .outstanding

theorem Burst.matching_unanswerable {b : Burst} (h : b.unanswerable) (t1 : BitVec 32) : b.matching t1 = none := by
  unfold Burst.matching
  rcases h with stopped | none_
  · rw [stopped, if_neg Bool.false_ne_true]
  · have unfound : ((List.finRange 8).find? fun k =>
        decide ((b.probes.get k).status = .outstanding) && decide ((b.probes.get k).t1 = some t1)) = none :=
      List.find?_eq_none.mpr fun k _ => by
        rw [decide_eq_false (none_ k), Bool.false_and]
        nofun
    rw [unfound, ite_self]

/-- What the kind of a frame adds at port `p`: a burst's probe, or an echo. -/
structure KindAdds (p : Fin 32) (more : State → State) : Prop where
  elsewhere : ∀ t, (t.port p).state ≠ .verify .ranging → ∃ b echoes, more t = t.modPort p (Port.added b echoes)
  unanswered : ∀ t, (t.port p).burst.unanswerable → ∃ echoes, more t = t.modPort p (Port.added (t.port p).burst echoes)

section
variable {s : State} {p : Fin 32} {f : SidebandFrame} {lag : Fin 126} {sender : PeerId} {c : Instr}

theorem KindAdds.beacon (p : Fin 32) : KindAdds p fun t => t :=
  ⟨fun t _ => ⟨(t.port p).burst, (t.port p).tx.echoes, (State.modPort_id rfl).symm⟩,
    fun t _ => ⟨(t.port p).tx.echoes, (State.modPort_id rfl).symm⟩⟩

theorem Port.placeEcho_eq (now : BitVec 32) (f : SidebandFrame) (pt : Port) : pt.placeEcho now f = { pt with
    tx := { pt.tx with echoes := if pt.tx.echoes.length < 2 then pt.tx.echoes ++ [⟨f.probeStamp, now⟩] else pt.tx.echoes } } := by
  unfold Port.placeEcho
  split <;> rfl

theorem KindAdds.probe (p : Fin 32) (now : BitVec 32) (f : SidebandFrame) : KindAdds p fun t => t.modPort p (Port.placeEcho now f) :=
  ⟨fun t _ => ⟨(t.port p).burst, _, State.modPort_congr (Port.placeEcho_eq now f (t.port p))⟩,
    fun t _ => ⟨_, State.modPort_congr (Port.placeEcho_eq now f (t.port p))⟩⟩

theorem State.matchEcho_unmatched {t : State} {p : Fin 32} {f : SidebandFrame} (none_ : (t.port p).burst.matching f.probeStamp = none)
    (t4 : BitVec 32) : t.matchEcho p f t4 = t := by rw [State.matchEcho, none_]

theorem KindAdds.echo (p : Fin 32) (f : SidebandFrame) (t4 : BitVec 32) : KindAdds p fun t => t.matchEcho p f t4 := by
  refine ⟨fun t other => ?_, fun t none_ => ⟨(t.port p).tx.echoes, ?_⟩⟩
  · cases found : (t.port p).burst.matching f.probeStamp with
    | none => exact ⟨(t.port p).burst, (t.port p).tx.echoes, (State.matchEcho_unmatched found t4).trans (State.modPort_id rfl).symm⟩
    | some k =>
      refine ⟨(t.port p).burst.answer k f.probeStamp t4 f.turnaround, (t.port p).tx.echoes, ?_⟩
      rw [State.matchEcho, found]
      dsimp only
      rw [State.checkBurst_of_open (.inl (by rw [State.port_modPort_self]; exact other))]
      exact State.modPort_congr rfl
  · exact (State.matchEcho_unmatched (Burst.matching_unanswerable none_ _) t4).trans (State.modPort_id rfl).symm

/-- A valid frame of any kind, taken by a receiver that collects. -/
theorem State.exec_frame (mem : c ∈ [Instr.beaconReceived p f, .probeReceived p f, .echoReceived p f lag])
    (sends : (s.port p).state.sending = true) (collects : (s.port p).rx ≠ none) (chassis : f.senderChassis ≠ 0)
    (named : sender.chassis = f.senderChassis) (port : sender.port.val = f.senderPort.toNat) :
    ∃ more, KindAdds p more ∧ exec c s = .next (s.finish ((more (s.takeFrame p sender f)).verdicts s
      fun _ => ((s.port p).reception sender).enters) [] []) := by
  obtain ⟨stamp, collecting⟩ := Option.ne_none_iff_exists'.mp collects
  have valid : senderOf f = some sender := senderOf_eq_some.mpr ⟨chassis, named, port⟩
  have received (more : BitVec 32 → State → State) := State.receive_of_valid more sends collecting valid
  rcases List.mem_cons.mp mem with rfl | mem
  · exact ⟨_, .beacon p, congrArg (fun u => Host.Outcome.next (s.finish u [] [])) (received fun _ t => t)⟩
  rcases List.mem_cons.mp mem with rfl | mem
  · exact ⟨_, .probe p s.timestamp f, congrArg (fun u => Host.Outcome.next (s.finish u [] [])) (received fun _ t => _)⟩
  · obtain rfl := List.mem_singleton.mp mem
    exact ⟨_, .echo p f (echoStamp stamp lag), congrArg (fun u => Host.Outcome.next (s.finish u [] [])) (received fun found t => _)⟩

end

/-! ## Frames that no other port sees -/

section
variable {s v : State} {p : Fin 32} {more : State → State}

theorem State.Alone.added (alone : s.Alone v p) {b : Burst} {echoes : List EchoSlot} :
    s.Alone (v.modPort p (Port.added b echoes)) p := by
  refine ⟨alone.only.trans (.modPort ..), alone.at_.trans (.modPort ..), ?_, ?_⟩
  · rw [← alone.peer, State.currentPeer, State.port_modPort_self]
    rfl
  · rw [← alone.due, State.verdictDue, State.port_modPort_self]
    rfl

/-- A frame whose own effect no other port sees. -/
theorem State.exec_alone {c : Instr} {enters : Bool} (settled : s.settled) (alone : s.Alone v p)
    (setups : v.monitor.setups = s.monitor.setups) {b : Burst} {echoes : List EchoSlot}
    (adds : more v = v.modPort p (Port.added b echoes)) (quiet : enters = false)
    (taken : exec c s = .next (s.finish ((more v).verdicts s fun _ => enters) [] [])) : ∃ t, exec c s = .next t
      ∧ t.port p = concludePort s (v.modPort p (Port.added b echoes)) p ((v.port p).added b echoes)
      ∧ (∀ q : Fin 32, q ≠ p → t.port q = s.port q) ∧ s.sameDevice t ∧ t.monitor = v.monitor := by
  have added := alone.added (b := b) (echoes := echoes)
  subst quiet
  rw [adds] at taken
  refine ⟨_, taken, ?_, added.others settled, State.sameDevice_event added.only setups, added.monitor settled⟩
  refine (added.own settled).trans ?_
  rw [State.port_modPort_self]

end

end Sys2Proof.Machine

/-! SUPPORT. Frames of the CURRENT peer: the refresh, peer restarts and the peer's READY (R34, R35, R41, R72). -/

namespace Sys2Proof.Machine

/-! ## The record and Table 2-3 -/

section
variable {pt : Port} {sender : PeerId} {f : SidebandFrame} {different : Bool}

theorem Port.reception_refresh (current : pt.neighbor.status = .current) (same : pt.neighbor.identity = some sender) :
    pt.reception sender = .refresh := by
  unfold Port.reception
  rw [current, decide_eq_true same]
  rfl

theorem Port.reception_replace (current : pt.neighbor.status = .current) (other : pt.neighbor.identity ≠ some sender) :
    pt.reception sender = .replace := by
  unfold Port.reception
  rw [current, decide_eq_false other]
  rfl

theorem Port.reportsField_same (cls : pt.neighbor.cls = classTaken f.verdictClass)
    (expected : pt.neighbor.expected = expectedTaken f.expectedChassis f.expectedPort) : pt.reportsField f = false := by
  rw [Port.reportsField, decide_eq_false (not_not.mpr cls.symm), decide_eq_false (not_not.mpr expected.symm)]
  rfl

/-- A port that counted a valid frame, hunts again, and holds the frame's fields in its record, the silence timer armed. -/
def Port.refreshed (pr : Params) (f : SidebandFrame) (pt : Port) : Port :=
  { pt.countValidFrame with
    rx := none
    neighbor := pt.neighbor.refresh f
    silence := armMs (pr.beaconInterval * pr.silenceLimit) }

/-- The conditions of Table 2-3 that a frame of the same peer can meet. -/
theorem Port.showsRestart_of_table (table : pt.state = .active ∧ (SidebandFrame.stageTaken f ≤ 3 ∨ SidebandFrame.stageTaken f = 4 ∧ f.ready = false)
      ∨ pt.state.engaged = true ∧ pt.state ≠ .active ∧ (SidebandFrame.stageTaken f = 0 ∨ SidebandFrame.stageTaken f = 1 ∧ 2 ≤ pt.highMark)
      ∨ (pt.state = .verify .ranging ∨ pt.state = .verify .readyWait ∨ pt.state = .verify (.planWait true)
          ∨ ∃ next, pt.state = .held .verify next) ∧ f.keptValid = false) : pt.showsRestart f false = true := by
  rcases table with ⟨state, early⟩ | ⟨engaged, inactive, early⟩ | ⟨state, unkept⟩
  · rcases early with low | ⟨four, unready⟩
    · simp [Port.showsRestart, state, low]
    · simp [Port.showsRestart, state, four, unready]
  · have first : (decide (SidebandFrame.stageTaken f = 0) || (decide (SidebandFrame.stageTaken f = 1) && decide (2 ≤ pt.highMark)) || false) = true := by
      rcases early with zero | ⟨one, mark⟩
      · rw [decide_eq_true zero]; rfl
      · rw [decide_eq_true one, decide_eq_true mark, Bool.and_self, Bool.or_true]; rfl
    unfold Port.showsRestart
    dsimp only
    rw [first]
    cases state : pt.state with
    | active => exact absurd state inactive
    | verify sub => cases sub with
      | planWait taken => cases taken <;> rfl
      | maskWait | ranging | readyWait => rfl
    | held stage next => cases stage <;> rfl
    | laneLock | align => rfl
    | disabled | waitCable | sideband | backoff | fault => rw [state] at engaged; cases engaged
  · rcases state with state | state | state | ⟨next, state⟩ <;> simp [Port.showsRestart, state, unkept]

/-- A frame of stage code 2 to 5 of the same peer is no restart while the port waits for it (Table 2-3). -/
theorem Port.showsRestart_late (early : SidebandFrame.stageTaken f ≠ 0 ∧ SidebandFrame.stageTaken f ≠ 1) (waits : pt.state = .verify .maskWait
      ∨ (pt.state = .verify .ranging ∨ pt.state = .verify .readyWait) ∧ f.keptValid = true) : pt.showsRestart f false = false := by
  obtain ⟨zero, one⟩ := early
  rcases waits with state | ⟨state | state, kept⟩
  · simp [Port.showsRestart, state, zero, one]
  · simp [Port.showsRestart, state, zero, one, kept]
  · simp [Port.showsRestart, state, zero, one, kept]

theorem SidebandFrame.stageTaken_of_le (high : f.stage.toNat ≤ 5) : SidebandFrame.stageTaken f = f.stage.toNat :=
  if_neg (Nat.not_lt_of_le high)

end

/-! ## Taking the frame -/

section
variable {s : State} {p : Fin 32} {f : SidebandFrame} {sender : PeerId} {different : Bool}

theorem State.examineFrame_restart (shows_ : (s.port p).showsRestart f different = true) :
    s.examineFrame p f different = s.peerRestart p := if_pos shows_

theorem State.examineFrame_advance (calm : (s.port p).showsRestart f different = false) :
    s.examineFrame p f different = (s.modPort p (Port.raiseMark f)).advancePort p f :=
  if_neg (by rw [calm]; nofun)

/-- A frame of the CURRENT peer that changes no reported field (R72). -/
theorem State.takeFrame_refresh (current : (s.port p).neighbor.status = .current) (same : (s.port p).neighbor.identity = some sender)
    (cls : (s.port p).neighbor.cls = classTaken f.verdictClass)
    (expected : (s.port p).neighbor.expected = expectedTaken f.expectedChassis f.expectedPort) :
    s.takeFrame p sender f = (s.modPort p (Port.refreshed s.params f)).examineFrame p f false := by
  have counted : (s.modPort p fun pt => { pt.countValidFrame with rx := none }).port p =
      { (s.port p).countValidFrame with rx := none } := State.port_modPort_self ..
  have reception : ((s.modPort p fun pt => { pt.countValidFrame with rx := none }).port p).reception sender = .refresh := by
    rw [counted]
    exact Port.reception_refresh current same
  have unreported : ((s.modPort p fun pt => { pt.countValidFrame with rx := none }).port p).reportsField f = false := by
    rw [counted]
    exact Port.reportsField_same cls expected
  unfold State.takeFrame
  dsimp only
  rw [reception]
  dsimp only
  unfold State.refreshRecord
  dsimp only
  rw [unreported, if_neg Bool.false_ne_true, State.modPort_modPort]
  rfl

/-- What a peer restart leaves at its port (R35). -/
theorem Port.peerRestart_fields (pr : Params) (pt : Port) :
    (pt.peerRestart pr).state = .sideband ∧ (pt.peerRestart pr).attempt = pt.attempt + 1 ∧ (pt.peerRestart pr).highMark = 0
      ∧ (pt.peerRestart pr).ready = false ∧ (pt.peerRestart pr).retryCount = pt.retryCount
      ∧ (pt.peerRestart pr).lastFailure = some ⟨.peerRestarted, pt.state.stageCode, none, pt.attempt⟩
      ∧ (pt.peerRestart pr).leftStages ∧ (pt.peerRestart pr).neighbor = pt.neighbor
      ∧ (pt.peerRestart pr).stageTimer = armMs pr.sidebandTimeout ∧ (pt.peerRestart pr).burst = Burst.reset
      ∧ (pt.peerRestart pr).counters.attempts = bump pt.counters.attempts
      ∧ (pt.peerRestart pr).counters.peerRestarts = bump pt.counters.peerRestarts
      ∧ (pt.peerRestart pr).counters.linkLosses =
        (if pt.state = .active then bump pt.counters.linkLosses else pt.counters.linkLosses) := by
  have kept : ∀ b : Port, b.countLinkLoss.attempt = b.attempt ∧ b.countLinkLoss.retryCount = b.retryCount
      ∧ b.countLinkLoss.lastFailure = b.lastFailure ∧ b.countLinkLoss.neighbor = b.neighbor
      ∧ b.countLinkLoss.counters.attempts = b.counters.attempts
      ∧ b.countLinkLoss.counters.peerRestarts = b.counters.peerRestarts := fun b => by
    unfold Port.countLinkLoss; split <;> exact ⟨rfl, rfl, rfl, rfl, rfl, rfl⟩
  have counted := Port.linkLosses_countLinkLoss (pt.record .peerRestarted pt.state.stageCode none)
  obtain ⟨attempt, retry, failure, neighbor, attempts, restarts⟩ := kept (pt.record .peerRestarted pt.state.stageCode none)
  have left_ := Port.leftStages_leaveStages (pt.record .peerRestarted pt.state.stageCode none).countLinkLoss.countPeerRestart
  unfold Port.peerRestart
  generalize (pt.record .peerRestarted pt.state.stageCode none).countLinkLoss = departed at attempt retry failure neighbor attempts restarts counted left_ ⊢
  have leaves (b : Port) : b.countPeerRestart.leaveStages.attempt = b.attempt
      ∧ b.countPeerRestart.leaveStages.retryCount = b.retryCount ∧ b.countPeerRestart.leaveStages.lastFailure = b.lastFailure
      ∧ b.countPeerRestart.leaveStages.neighbor = b.neighbor ∧ b.countPeerRestart.leaveStages.burst = Burst.reset
      ∧ b.countPeerRestart.leaveStages.counters.attempts = b.counters.attempts
      ∧ b.countPeerRestart.leaveStages.counters.peerRestarts = bump b.counters.peerRestarts
      ∧ b.countPeerRestart.leaveStages.counters.linkLosses = b.counters.linkLosses := ⟨rfl, rfl, rfl, rfl, rfl, rfl, rfl, rfl⟩
  have fields : departed.countPeerRestart.leaveStages.attempt = pt.attempt
      ∧ departed.countPeerRestart.leaveStages.retryCount = pt.retryCount
      ∧ departed.countPeerRestart.leaveStages.lastFailure = some ⟨.peerRestarted, pt.state.stageCode, none, pt.attempt⟩
      ∧ departed.countPeerRestart.leaveStages.neighbor = pt.neighbor
      ∧ departed.countPeerRestart.leaveStages.burst = Burst.reset
      ∧ departed.countPeerRestart.leaveStages.counters.attempts = pt.counters.attempts
      ∧ departed.countPeerRestart.leaveStages.counters.peerRestarts = bump pt.counters.peerRestarts
      ∧ departed.countPeerRestart.leaveStages.counters.linkLosses =
        (if pt.state = .active then bump pt.counters.linkLosses else pt.counters.linkLosses) := by
    obtain ⟨attempt', retry', failure', neighbor', burst', attempts', restarts', losses'⟩ := leaves departed
    exact ⟨attempt'.trans attempt, retry'.trans retry, failure'.trans failure, neighbor'.trans neighbor, burst',
      attempts'.trans attempts, restarts'.trans (congrArg bump restarts), losses'.trans counted⟩
  generalize departed.countPeerRestart.leaveStages = gone at fields left_ ⊢
  obtain ⟨attempt, retry, failure, neighbor, burst, attempts, restarts, losses⟩ := fields
  rw [← attempt, ← retry, ← neighbor, ← attempts, ← restarts, ← losses]
  rw [← attempt] at failure
  exact ⟨rfl, rfl, rfl, rfl, rfl, failure, Port.leftStages_enterSideband left_, rfl, rfl, burst, rfl, rfl, rfl⟩

/-- A peer restart shown by a frame of the CURRENT peer. -/
theorem Port.restart_refreshed (pr : Params) (f : SidebandFrame) (pt : Port) {restarted : Port}
    (is : restarted = (pt.refreshed pr f).peerRestart pr) :
    restarted.state = .sideband ∧ restarted.attempt = pt.attempt + 1 ∧ restarted.highMark = 0
      ∧ restarted.ready = false ∧ restarted.retryCount = pt.retryCount
      ∧ restarted.lastFailure = some ⟨.peerRestarted, pt.state.stageCode, none, pt.attempt⟩
      ∧ restarted.leftStages ∧ restarted.neighbor.status = pt.neighbor.status
      ∧ restarted.neighbor.identity = pt.neighbor.identity
      ∧ restarted.stageTimer = armMs pr.sidebandTimeout
      ∧ restarted.counters.attempts = bump pt.counters.attempts
      ∧ restarted.counters.peerRestarts = bump pt.counters.peerRestarts
      ∧ restarted.counters.linkLosses =
        (if pt.state = .active then bump pt.counters.linkLosses else pt.counters.linkLosses) := by
  obtain ⟨state, attempt, mark, isReady, retry, failure, left_, neighbor, timer, -, attempts, restarts, losses⟩ :=
    (pt.refreshed pr f).peerRestart_fields pr
  subst is
  exact ⟨state, attempt, mark, isReady, retry, failure, left_, by rw [neighbor]; rfl, by rw [neighbor]; rfl, timer, attempts,
    restarts, losses⟩

/-- A restart that the refreshed record's port shows is seen at no other port. -/
theorem State.alone_restarted :
    s.Alone ((s.modPort p (Port.refreshed s.params f)).peerRestart p) p := by
  obtain ⟨state, -, -, -, -, -, -, neighbor, -⟩ := ((s.port p).refreshed s.params f).peerRestart_fields s.params
  have at_ : ((s.modPort p (Port.refreshed s.params f)).peerRestart p).port p =
      ((s.port p).refreshed s.params f).peerRestart s.params := by
    rw [State.peerRestart, State.port_withdrawPort, State.port_modPort_self, State.port_modPort_self]
    rfl
  refine ⟨(State.Only.modPort ..).trans (.peerRestart ..), (State.AtPort.modPort ..).trans (.peerRestart ..), ?_, ?_⟩
  · rw [State.currentPeer, State.currentPeer, at_, neighbor]
    rfl
  · rw [← Bool.not_eq_true, State.verdictDue_eq_true, at_, state]
    nofun

end

/-- A port that ends an event bearing its verdict keeps it whole. -/
theorem concludePort_bearing (before : State) {after : State} {p : Fin 32} {pt : Port} (bears : pt.state.bearing = true) :
    ∃ tx, concludePort before after p pt = { pt with tx := tx } := by
  have stays : ((before.port p).state.bearing && !pt.state.bearing) = false := by rw [bears, Bool.not_true, Bool.and_false]
  simp only [concludePort, stays, Bool.false_eq_true, if_false]
  exact ⟨_, rfl⟩

/-- Settles O40: a frame of the CURRENT peer refreshes the record and is then examined, which no other port sees. -/
theorem peerFramesRestartOrFinishThePort : Obligations.PeerFramesRestartOrFinishThePort := by
  refine ⟨fun s p f lag sender c mem settled chassis named port collects current same cls expected => ?restart,
    fun s p f lag sender c mem settled chassis named port collects current same cls expected at_ ready_ kept low high => ?finish⟩
  case restart =>
    intro stage before table
    have shows_ : ((s.port p).refreshed s.params f).showsRestart f false = true := Port.showsRestart_of_table table
    have engaged := Port.engaged_of_showsRestart shows_
    have sends : (s.port p).state.sending = true := PortState.sending_of_engaged engaged
    obtain ⟨more, adds, taken⟩ := State.exec_frame mem sends collects chassis named port
    have frame : s.takeFrame p sender f = (s.modPort p (Port.refreshed s.params f)).peerRestart p :=
      (State.takeFrame_refresh current same cls expected).trans
        (State.examineFrame_restart (by rw [State.port_modPort_self]; exact shows_))
    have atV : ((s.modPort p (Port.refreshed s.params f)).peerRestart p).port p =
        ((s.port p).refreshed s.params f).peerRestart s.params := by
      rw [State.peerRestart, State.port_withdrawPort, State.port_modPort_self, State.port_modPort_self]
      rfl
    obtain ⟨state, attempt, mark, isReady, retry, failure, left_, status, identity, timer, attempts, restarts, losses⟩ :=
      (s.port p).restart_refreshed s.params f atV
    have burst : (((s.modPort p (Port.refreshed s.params f)).peerRestart p).port p).burst.running = false := by rw [atV]; rfl
    rw [Port.reception_refresh current same, frame] at taken
    obtain ⟨echoes, added⟩ := adds.unanswered ((s.modPort p (Port.refreshed s.params f)).peerRestart p)
      (.inl burst)
    obtain ⟨t, taken, own, others, device, monitor⟩ :=
      State.exec_alone settled State.alone_restarted rfl added rfl taken
    obtain ⟨pending, tx, concluded⟩ := concludePort_eq s (((s.modPort p (Port.refreshed s.params f)).peerRestart p).modPort p
      (Port.added _ echoes)) p _
    refine ⟨t, taken, ?_⟩
    rw [own.trans concluded, monitor]
    exact ⟨state, attempt, mark, isReady, retry, failure, left_, status.trans current, identity.trans same, timer, attempts,
      restarts, losses, State.withdrawn _ _, others, device⟩
  case finish =>
    have stage : SidebandFrame.stageTaken f = f.stage.toNat := SidebandFrame.stageTaken_of_le high
    have calm : ((s.port p).refreshed s.params f).showsRestart f false = false :=
      Port.showsRestart_late (by omega) (.inr ⟨.inr at_, kept⟩)
    obtain ⟨more, adds, taken⟩ := State.exec_frame mem (by rw [at_]; rfl) collects chassis named port
    have advances : ((s.modPort p (Port.refreshed s.params f)).modPort p (Port.raiseMark f)).advancePort p f =
        ((s.modPort p (Port.refreshed s.params f)).modPort p (Port.raiseMark f)).modPort p Port.enterActive := by
      have state : (((s.modPort p (Port.refreshed s.params f)).modPort p (Port.raiseMark f)).port p).state = .verify .readyWait := by
        rw [State.port_modPort_self, State.port_modPort_self]
        exact at_
      unfold State.advancePort
      dsimp only
      rw [state]
      exact if_pos ready_
    have frame : s.takeFrame p sender f =
        s.modPort p fun pt => ((pt.refreshed s.params f).raiseMark f).enterActive := by
      rw [State.takeFrame_refresh current same cls expected,
        State.examineFrame_advance (by rw [State.port_modPort_self]; exact calm), advances, State.modPort_modPort,
        State.modPort_modPort]
    rw [Port.reception_refresh current same, frame] at taken
    have alone : s.Alone (s.modPort p fun pt => ((pt.refreshed s.params f).raiseMark f).enterActive) p := by
      refine .modPort ?_ ?_
      · rw [State.currentPeer, State.currentPeer, State.port_modPort_self]
        rfl
      · rw [← Bool.not_eq_true, State.verdictDue_eq_true, State.port_modPort_self]
        nofun
    obtain ⟨b, echoes, added⟩ := adds.elsewhere (s.modPort p fun pt => ((pt.refreshed s.params f).raiseMark f).enterActive)
      (by rw [State.port_modPort_self]; nofun)
    obtain ⟨t, taken, own, others, device, monitor⟩ := State.exec_alone settled alone rfl added rfl taken
    obtain ⟨tx, concluded⟩ := concludePort_bearing s (after := (s.modPort p fun pt =>
      ((pt.refreshed s.params f).raiseMark f).enterActive).modPort p (Port.added b echoes)) (p := p)
      (pt := Port.added b echoes ((((s.port p).refreshed s.params f).raiseMark f).enterActive)) rfl
    rw [State.port_modPort_self] at own
    refine ⟨t, taken, ?_⟩
    rw [own.trans concluded]
    exact ⟨rfl, rfl, rfl, rfl, rfl, rfl, rfl, rfl, rfl, rfl, others, device, monitor⟩

end Sys2Proof.Machine

/-! SUPPORT. Frames that may start verdicts, and what a frame taken in SIDEBAND does (R32, R51, R71 to R73). -/

namespace Sys2Proof.Machine

/-! ## Frames whose port no verdict reaches -/

section
variable {s v : State} {p : Fin 32} {more : State → State}

theorem State.judgeable_added {b : Burst} {echoes : List EchoSlot} (q : Fin 32) :
    (v.modPort p (Port.added b echoes)).judgeable q = v.judgeable q := by
  have state : ((v.modPort p (Port.added b echoes)).port q).state = (v.port q).state := by
    rw [State.port_modPort]
    split
    · next here => rw [here]; rfl
    · rfl
  rw [State.judgeable, State.judgeable, State.verdictDue, State.verdictDue, state]
  rfl

/-- A frame that leaves its port where it can join no pass: the other ports that bear no verdict are kept. -/
theorem State.exec_apart {c : Instr} {enters : Bool} (settled : s.settled) (only : s.Only v)
    (others : ∀ q : Fin 32, q ≠ p → (s.port q).state.bearing = false → v.port q = s.port q) (withdraws : s.Withdraws v)
    (apart : v.judgeable p = false) {b : Burst} {echoes : List EchoSlot} (adds : more v = v.modPort p (Port.added b echoes))
    (taken : exec c s = .next (s.finish ((more v).verdicts s fun _ => enters) [] [])) : ∃ t pending tx, exec c s = .next t
      ∧ t.port p = { v.port p with burst := b, verdict := { (v.port p).verdict with pending := pending }, tx := tx }
      ∧ s.otherPortsKept t p ∧ s.sameDevice t ∧ s.Withdraws t ∧ v.Withdraws t := by
  rw [adds] at taken
  have onlyU : s.Only (v.modPort p (Port.added b echoes)) := only.trans (.modPort ..)
  have placed : v.Withdraws (v.modPort p (Port.added b echoes)) := .of_eq rfl
  have judged : v.Withdraws ((v.modPort p (Port.added b echoes)).verdicts s fun _ => enters) := placed.trans (.verdicts ..)
  have after : v.Withdraws (s.finish ((v.modPort p (Port.added b echoes)).verdicts s fun _ => enters) [] []) :=
    judged.trans (State.Withdraws.finish ..)
  have kept : s.otherPortsKept (s.finish ((v.modPort p (Port.added b echoes)).verdicts s fun _ => enters) [] []) p :=
    fun q other low => State.port_finish_other settled.1 settled.2.2 onlyU
      ((State.port_modPort_other (s := v) (f := Port.added b echoes) other).trans (others q other low)) low _ _ _
  have device : s.sameDevice (s.finish ((v.modPort p (Port.added b echoes)).verdicts s fun _ => enters) [] []) :=
    State.sameDevice_finish (onlyU.trans (.verdicts ..)) ((State.Withdraws.verdicts ..).setups.trans withdraws.setups) _ _
  obtain ⟨pending, tx, own⟩ := State.port_finish_own (s := s) ((State.judgeable_added p).trans apart) (fun _ => enters) [] []
  rw [State.port_modPort_self] at own
  generalize s.finish ((v.modPort p (Port.added b echoes)).verdicts s fun _ => enters) [] [] = t at *
  refine ⟨t, pending, tx, taken, own.trans ?_, kept, device, withdraws.trans after, after⟩
  generalize v.port p = pt
  rfl

/-- A trigger that finds nothing to judge changes nothing. -/
theorem State.trigger_nothing (none_ : s.noneDue) {selected : Fin 32 → Bool}
    (unselected : ∀ q, ((s.port q).state.bearing && selected q) = false) : s.trigger selected = s := by
  unfold State.trigger
  split
  · have empty : (allPorts.filter fun q => s.verdictDue q || ((s.port q).state.bearing && selected q)) = [] :=
      List.filter_eq_nil_iff.mpr fun q _ => by
        rw [none_ q, unselected q]
        nofun
    rw [empty]
    rfl
  · have same : s.ports.mapFin (fun q pt =>
        if pt.state.bearing && selected q then { pt with verdict := { pt.verdict with pending := true } } else pt) = s.ports :=
      Table.ext_get fun q => by
        rw [Table.get_mapFin]
        exact if_neg (show ¬ ((s.port q).state.bearing && selected q) = true by rw [unselected q]; nofun)
    exact congrArg (fun ports => { s with ports := ports }) same

end

/-! ## The record that a frame makes in SIDEBAND -/

/-- The record of a frame's peer, with what a refresh keeps. -/
def Neighbor.of (f : SidebandFrame) (sender : PeerId) (status : NeighborStatus) (kept : Neighbor) : Neighbor :=
  { kept.refresh f with status := status, identity := some sender }

theorem Neighbor.refresh_same {n : Neighbor} {sender : PeerId} (current : n.status = .current)
    (same : n.identity = some sender) (f : SidebandFrame) : n.refresh f = Neighbor.of f sender .current n := by
  rw [Neighbor.of, ← current, ← same]
  rfl

/-- Whether a frame comes from the peer that the record holds as CURRENT. -/
abbrev Neighbor.holds (n : Neighbor) (sender : PeerId) : Prop := n.status = .current ∧ n.identity = some sender

/-- The record that a frame leaves in SIDEBAND (R71 to R73). -/
def Port.recordOf (f : SidebandFrame) (sender : PeerId) (pt : Port) : Neighbor :=
  if pt.neighbor.holds sender then pt.neighbor.refresh f else pt.neighbor.rebuild .current sender f pt.attempt

def Port.summaryOf (sender : PeerId) (pt : Port) : RangingSummary :=
  if pt.neighbor.holds sender then pt.summary else RangingSummary.reset

section
variable {s : State} {p : Fin 32} {pt : Port} {f : SidebandFrame} {sender : PeerId}

theorem Port.status_recordOf (f : SidebandFrame) (sender : PeerId) (pt : Port) :
    (pt.recordOf f sender).status = .current ∧ (pt.recordOf f sender).identity = some sender := by
  unfold Port.recordOf
  split
  · next same => exact same
  · exact ⟨rfl, rfl⟩

/-- The part with the frame's record in place, before the port goes on. -/
def State.capturing (s : State) (p : Fin 32) (f : SidebandFrame) (sender : PeerId) : State :=
  s.modPort p fun pt => { pt.countValidFrame with
    rx := none
    neighbor := pt.recordOf f sender
    summary := pt.summaryOf sender
    silence := armMs (s.params.beaconInterval * s.params.silenceLimit) }

theorem Port.capturing_refresh (pr : Params) (same : pt.neighbor.holds sender) :
    Port.armSilence pr { ({ pt.countValidFrame with rx := none } : Port) with
        neighbor := ({ pt.countValidFrame with rx := none } : Port).neighbor.refresh f } =
      { pt.countValidFrame with
        rx := none
        neighbor := pt.recordOf f sender
        summary := pt.summaryOf sender
        silence := armMs (pr.beaconInterval * pr.silenceLimit) } := by
  rw [Port.recordOf, if_pos same, Port.summaryOf, if_pos same]
  rfl

theorem Port.capturing_rebuild (pr : Params) (other : ¬ pt.neighbor.holds sender) :
    (({ pt.countValidFrame with rx := none } : Port).rebuild .current sender f).armSilence pr =
      { pt.countValidFrame with
        rx := none
        neighbor := pt.recordOf f sender
        summary := pt.summaryOf sender
        silence := armMs (pr.beaconInterval * pr.silenceLimit) } := by
  rw [Port.recordOf, if_neg other, Port.summaryOf, if_neg other]
  rfl

theorem Port.showsRestart_sideband {different : Bool} (at_ : pt.state = .sideband) : pt.showsRestart f different = false := by
  unfold Port.showsRestart
  dsimp only
  rw [at_]

theorem State.noneDue_capturing (settled : s.settled) (at_ : (s.port p).state = .sideband) :
    (s.capturing p f sender).noneDue := fun q => by
  rw [← Bool.not_eq_true, State.verdictDue_eq_true]
  rintro ⟨closed, taken, waits⟩
  by_cases here : q = p
  · rw [here, State.capturing, State.port_modPort_self] at waits
    exact nomatch at_.symm.trans waits
  · rw [State.capturing, State.port_modPort_other _ _ here] at waits
    exact nomatch (settled.2.2 q).symm.trans (State.verdictDue_eq_true.mpr ⟨closed, taken, waits⟩)

/-- In SIDEBAND every frame is a capture, a replacement or a refresh. -/
theorem Port.reception_sideband (at_ : pt.state = .sideband) : pt.neighbor.holds sender ∧ pt.reception sender = .refresh
    ∨ ¬ pt.neighbor.holds sender ∧ (pt.reception sender = .capture ∨ pt.reception sender = .replace) := by
  unfold Port.reception
  dsimp only
  cases status : pt.neighbor.status with
  | current =>
    by_cases same : pt.neighbor.identity = some sender
    · exact .inl ⟨⟨status, same⟩, if_pos (decide_eq_true same)⟩
    · exact .inr ⟨fun h => same h.2, .inr (if_neg (by rw [decide_eq_false same]; nofun))⟩
  | stale => exact .inr ⟨fun h => (nomatch status.symm.trans h.1), .inl (if_pos at_)⟩
  | empty => exact .inr ⟨fun h => (nomatch status.symm.trans h.1), .inl (if_pos at_)⟩

/-- A frame taken in SIDEBAND puts its record in place and reaches the PBE (R71 to R73). -/
theorem State.takeFrame_sideband (settled : s.settled) (at_ : (s.port p).state = .sideband) :
    ((s.port p).neighbor.holds sender ∧ s.takeFrame p sender f = (s.capturing p f sender).examineFrame p f false)
      ∨ ¬ (s.port p).neighbor.holds sender ∧ ((s.port p).reception sender).enters = true
        ∧ ∃ different, s.takeFrame p sender f = (s.capturing p f sender).examineEntry p f different := by
  have counted : (s.modPort p fun pt => { pt.countValidFrame with rx := none }).port p =
      { (s.port p).countValidFrame with rx := none } := State.port_modPort_self ..
  have reception : ((s.modPort p fun pt => { pt.countValidFrame with rx := none }).port p).reception sender =
      (s.port p).reception sender := by rw [counted]; rfl
  unfold State.takeFrame
  dsimp only
  rw [reception]
  rcases Port.reception_sideband (sender := sender) at_ with ⟨same, refresh⟩ | ⟨other, capture | replace⟩
  · refine .inl ⟨same, ?_⟩
    have calm : (s.capturing p f sender).noneDue := State.noneDue_capturing settled at_
    have placed : (s.modPort p fun pt => { pt.countValidFrame with rx := none }).modPort p (fun pt =>
        Port.armSilence s.params { pt with neighbor := pt.neighbor.refresh f }) = s.capturing p f sender := by
      rw [State.modPort_modPort]
      exact State.modPort_congr (Port.capturing_refresh s.params same)
    have apart (q : Fin 32) : (((s.capturing p f sender).port q).state.bearing && decide (q = p)) = false := by
      by_cases here : q = p
      · rw [here, State.capturing, State.port_modPort_self]
        exact (congrArg (fun st : PortState => st.bearing && decide (p = p)) at_).trans rfl
      · rw [decide_eq_false here, Bool.and_false]
    rw [refresh]
    dsimp only
    unfold State.refreshRecord
    dsimp only
    refine congrArg (fun t : State => t.examineFrame p f false) ?_
    split
    · refine (congrArg (fun t : State => t.trigger fun q => decide (q = p)) placed).trans ?_
      exact State.trigger_nothing calm apart
    · exact placed
  · refine .inr ⟨other, by rw [capture]; rfl, false, ?_⟩
    rw [capture]
    dsimp only
    rw [State.modPort_modPort]
    exact congrArg (fun t : State => t.examineEntry p f false) (State.modPort_congr (Port.capturing_rebuild s.params other))
  · refine .inr ⟨other, by rw [replace]; rfl, true, ?_⟩
    have calm : ((s.modPort p fun pt => { pt.countValidFrame with rx := none }).port p).showsRestart f true = false := by
      rw [counted]
      exact Port.showsRestart_sideband at_
    rw [replace]
    dsimp only
    unfold State.replaceRecord
    rw [calm, if_neg Bool.false_ne_true, State.modPort_modPort]
    exact congrArg (fun t : State => t.examineEntry p f true) (State.modPort_congr (Port.capturing_rebuild s.params other))

end

end Sys2Proof.Machine

/-! SUPPORT. The PBE at a frame taken in SIDEBAND (R32, R36, R51). -/

namespace Sys2Proof.Machine

section
variable {w : State} {p : Fin 32} {f : SidebandFrame} {different : Bool}

theorem State.examineFrame_sideband (at_ : (w.port p).state = .sideband) :
    w.examineFrame p f different = (w.modPort p (Port.raiseMark f)).advancePort p f :=
  State.examineFrame_advance (Port.showsRestart_sideband at_)

theorem State.advancePort_sideband (at_ : (w.port p).state = .sideband) : w.advancePort p f =
    if (w.port p).neighbor.status = .current ∧ 1 ≤ SidebandFrame.stageTaken f then w.completeSideband p else w := by
  unfold State.advancePort
  dsimp only
  rw [at_]

/-- Stage code 0 leaves the port in SIDEBAND. -/
theorem State.examineFrame_stays (at_ : (w.port p).state = .sideband) (zero : SidebandFrame.stageTaken f = 0) :
    w.examineFrame p f different = w.modPort p (Port.raiseMark f) := by
  rw [State.examineFrame_sideband at_, State.advancePort_sideband (by rw [State.port_modPort_self]; exact at_)]
  exact if_neg fun both => by have := both.2; omega

/-- A later stage code completes SIDEBAND. -/
theorem State.examineFrame_completes (at_ : (w.port p).state = .sideband) (current : (w.port p).neighbor.status = .current)
    (later : 1 ≤ SidebandFrame.stageTaken f) :
    w.examineFrame p f different = (w.modPort p (Port.raiseMark f)).completeSideband p := by
  rw [State.examineFrame_sideband at_, State.advancePort_sideband (by rw [State.port_modPort_self]; exact at_)]
  exact if_pos ⟨by rw [State.port_modPort_self]; exact current, later⟩

/-! ## Where a completed SIDEBAND leads -/

theorem State.completeSideband_held (held : (w.port p).heldAt w.params .sideband = true) : w.completeSideband p =
    w.modPort p (Port.enterHeld .sideband (w.nextAfterSideband p)) := by
  unfold State.completeSideband
  dsimp only
  rw [State.port_modPort_self]
  refine (if_pos held).trans ?_
  rw [State.modPort_modPort]
  rfl

theorem State.completeSideband_free (free : ¬ (w.port p).heldAt w.params .sideband = true) : w.completeSideband p =
    (w.modPort p fun pt => { pt with stageTimer := .stopped }).goOn p (w.nextAfterSideband p) := by
  unfold State.completeSideband
  dsimp only
  rw [State.port_modPort_self]
  exact if_neg free

theorem State.completeSideband_unused (free : ¬ (w.port p).heldAt w.params .sideband = true)
    (unused : w.plan.state = .closed ∧ (w.expected p).kind = .unused) :
    w.completeSideband p = w.modPort p (Port.enterDue w.params) := by
  rw [State.completeSideband_free free]
  refine (State.goOn_unused (s := w.modPort p fun pt => { pt with stageTimer := .stopped }) unused).trans ?_
  rw [State.enterVerify_due (s := w.modPort p fun pt => { pt with stageTimer := .stopped }) unused.1 unused.2,
    State.modPort_modPort]
  rfl

theorem State.completeSideband_used (free : ¬ (w.port p).heldAt w.params .sideband = true)
    (used : ¬ (w.plan.state = .closed ∧ (w.expected p).kind = .unused)) :
    w.completeSideband p = (w.modPort p fun pt => { pt with stageTimer := .stopped }).enterLaneLock p := by
  rw [State.completeSideband_free free]
  exact State.goOn_used (s := w.modPort p fun pt => { pt with stageTimer := .stopped }) used

theorem State.completeSideband_fenced (free : ¬ (w.port p).heldAt w.params .sideband = true)
    (used : ¬ (w.plan.state = .closed ∧ (w.expected p).kind = .unused)) (all : (w.port p).fenceMask = 15) :
    w.completeSideband p = (w.modPort p (Port.enterLaneLock w.params)).fail p .noLanes 2 none := by
  rw [State.completeSideband_used free used, State.enterLaneLock_fenced (by rw [State.port_modPort_self]; exact all),
    State.modPort_modPort]
  rfl

theorem State.completeSideband_lock (free : ¬ (w.port p).heldAt w.params .sideband = true)
    (used : ¬ (w.plan.state = .closed ∧ (w.expected p).kind = .unused)) (some_ : (w.port p).fenceMask ≠ 15) :
    w.completeSideband p = w.modPort p (Port.enterLaneLock w.params) := by
  rw [State.completeSideband_used free used, State.enterLaneLock_unfenced (by rw [State.port_modPort_self]; exact some_),
    State.modPort_modPort]
  rfl

end

/-! ## The frame as its record says it -/

section
variable {s : State} {p : Fin 32} {pt : Port} {f : SidebandFrame} {sender : PeerId}

/-- The record that a frame leaves in SIDEBAND, field by field. -/
theorem Port.recordOf_eq (f : SidebandFrame) (sender : PeerId) (pt : Port) : pt.recordOf f sender =
    { status := .current
      identity := some sender
      expected := expectedTaken f.expectedChassis f.expectedPort
      generation := f.generation
      trim := f.trim.toNat
      interval := f.interval.toNat
      fence := f.fenceMask
      stage := SidebandFrame.stageTaken f
      kept := if f.keptValid then some f.keptMask else none
      cls := classTaken f.verdictClass
      ready := f.ready
      length := if pt.neighbor.holds sender then pt.neighbor.length else none
      unmeasured := if pt.neighbor.holds sender then pt.neighbor.unmeasured else false
      suspect := if pt.neighbor.holds sender then pt.neighbor.suspect else false
      captureAttempt := if pt.neighbor.holds sender then pt.neighbor.captureAttempt else pt.attempt } := by
  unfold Port.recordOf
  by_cases same : pt.neighbor.holds sender
  · simp only [if_pos same, Neighbor.refresh_same same.1 same.2]
    rfl
  · simp only [if_neg same]
    rfl

theorem State.port_capturing : (s.capturing p f sender).port p = { (s.port p).countValidFrame with
    rx := none
    neighbor := (s.port p).recordOf f sender
    summary := (s.port p).summaryOf sender
    silence := armMs (s.params.beaconInterval * s.params.silenceLimit) } := State.port_modPort_self ..

theorem State.judgeable_capturing (at_ : (s.port p).state = .sideband) : (s.capturing p f sender).judgeable p = false :=
  State.judgeable_of_state (state := .sideband) (by rw [State.port_capturing]; exact at_) rfl nofun

/-- A frame that leaves the record CURRENT is taken in one step. -/
theorem State.takeFrame_advances (settled : s.settled) (at_ : (s.port p).state = .sideband) {v : State}
    (examined : ∀ different, (s.capturing p f sender).examineFrame p f different = v)
    (current : (v.port p).neighbor.status = .current) : s.takeFrame p sender f = v := by
  rcases State.takeFrame_sideband settled at_ with ⟨-, taken⟩ | ⟨-, -, different, taken⟩
  · exact taken.trans (examined false)
  · rw [taken]
    rcases (s.capturing p f sender).examineEntry_cases p f different with ⟨-, entry⟩ | ⟨stale, -⟩
    · exact entry.trans (examined different)
    · rw [examined] at stale
      exact absurd current stale

/-- A frame that takes the record out of CURRENT: where the identity enters, the report's pass comes first (log entry 44). -/
theorem State.takeFrame_entry (settled : s.settled) (at_ : (s.port p).state = .sideband)
    (stale : ∀ different, (((s.capturing p f sender).examineFrame p f different).port p).neighbor.status ≠ .current) :
    ((s.port p).neighbor.holds sender ∧ s.takeFrame p sender f = (s.capturing p f sender).examineFrame p f false)
      ∨ ¬ (s.port p).neighbor.holds sender ∧ ∃ different, s.takeFrame p sender f =
        ((s.capturing p f sender).trigger fun _ => true).examineFrame p f different := by
  rcases State.takeFrame_sideband settled at_ with ⟨same, taken⟩ | ⟨other, -, different, taken⟩
  · exact .inl ⟨same, taken⟩
  · rcases (s.capturing p f sender).examineEntry_cases p f different with ⟨current, -⟩ | ⟨-, entry⟩
    · exact absurd current (stale different)
    · exact .inr ⟨other, different, taken.trans entry⟩

end

end Sys2Proof.Machine

/-! SUPPORT. The first frame of a peer, state by state (R32, R36, R71 to R73). -/

namespace Sys2Proof.Machine

/-! ## Frames after which the port goes on -/

/-- What the PBE keeps of a port at a frame that shows no restart, but for its high mark. -/
structure Port.Marked (f : SidebandFrame) (a b : Port) : Prop where
  neighbor : b.neighbor = a.neighbor
  summary : b.summary = a.summary
  silence : b.silence = a.silence
  counters : b.counters = a.counters
  rx : b.rx = a.rx
  highMark : b.highMark = max a.highMark (SidebandFrame.stageTaken f)
  attempt : b.attempt = a.attempt
  retryCount : b.retryCount = a.retryCount

theorem Port.Marked.raiseMark (f : SidebandFrame) (pt : Port) : pt.Marked f (pt.raiseMark f) :=
  ⟨rfl, rfl, rfl, rfl, rfl, rfl, rfl, rfl⟩

theorem Port.Marked.enterHeld (f : SidebandFrame) (stage : HeldStage) (next : NextStep) (pt : Port) :
    pt.Marked f ((pt.raiseMark f).enterHeld stage next) := ⟨rfl, rfl, rfl, rfl, rfl, rfl, rfl, rfl⟩

theorem Port.Marked.enterLaneLock (f : SidebandFrame) (pr : Params) (pt : Port) :
    pt.Marked f ((pt.raiseMark f).enterLaneLock pr) := ⟨rfl, rfl, rfl, rfl, rfl, rfl, rfl, rfl⟩

/-- What a frame taken in SIDEBAND leaves where the port fails at nothing. -/
def State.capturedAt (s : State) (p : Fin 32) (f : SidebandFrame) (sender : PeerId) (t : State) : Prop :=
  (t.port p).neighbor = (s.port p).recordOf f sender ∧ (t.port p).summary = (s.port p).summaryOf sender
    ∧ (t.port p).silence = armMs (s.params.beaconInterval * s.params.silenceLimit)
    ∧ (t.port p).counters.validFrames = bump (s.port p).counters.validFrames ∧ (t.port p).rx = none
    ∧ (t.port p).highMark = max (s.port p).highMark (SidebandFrame.stageTaken f)
    ∧ (t.port p).attempt = (s.port p).attempt ∧ (t.port p).retryCount = (s.port p).retryCount
    ∧ s.otherPortsKept t p ∧ s.sameDevice t ∧ ∀ r ∈ t.monitor.queue, r ∈ s.monitor.queue

section
variable {s : State} {p : Fin 32} {f : SidebandFrame} {sender : PeerId} {c : Instr} {more : State → State} {enters : Bool}

theorem State.exec_captured (settled : s.settled) (at_ : (s.port p).state = .sideband) (adds : KindAdds p more)
    (taken : exec c s = .next (s.finish ((more (s.takeFrame p sender f)).verdicts s fun _ => enters) [] []))
    {g : Port → Port} (examined : ∀ different,
      (s.capturing p f sender).examineFrame p f different = (s.capturing p f sender).modPort p g)
    {cap goes : Port} (caps : (s.capturing p f sender).port p = cap) (going : g cap = goes) (marked : cap.Marked f goes)
    {state : PortState} (arrives : goes.state = state) (low : state.bearing = false) (other : state.name ≠ .verify) :
    ∃ t b pending tx, exec c s = .next t
      ∧ t.port p = { goes with burst := b, verdict := { goes.verdict with pending := pending }, tx := tx }
      ∧ s.capturedAt p f sender t := by
  have own : ((s.capturing p f sender).modPort p g).port p = goes := by rw [State.port_modPort_self, caps, going]
  have record : cap.neighbor = (s.port p).recordOf f sender := by rw [← caps, State.port_capturing]
  have frame : s.takeFrame p sender f = (s.capturing p f sender).modPort p g :=
    State.takeFrame_advances settled at_ examined (by rw [own, marked.neighbor, record]; exact (Port.status_recordOf ..).1)
  rw [frame] at taken
  have apart : ((s.capturing p f sender).modPort p g).judgeable p = false :=
    State.judgeable_of_state ((congrArg Port.state own).trans arrives) low other
  obtain ⟨b, echoes, added⟩ := adds.elsewhere ((s.capturing p f sender).modPort p g) (by
    rw [own, arrives]
    intro ranging
    exact other (by rw [ranging]; rfl))
  have only : s.Only ((s.capturing p f sender).modPort p g) := (State.Only.modPort ..).trans (.modPort ..)
  have here : State.AtPort p s ((s.capturing p f sender).modPort p g) := (State.AtPort.modPort ..).trans (.modPort ..)
  have withdraws : s.Withdraws ((s.capturing p f sender).modPort p g) := .of_eq rfl
  obtain ⟨t, pending, tx, taken, ends, kept, device, queue, -⟩ :=
    State.exec_apart settled only (fun q other _ => here.others q other) withdraws apart added taken
  rw [own] at ends
  refine ⟨t, b, pending, tx, taken, ends, ?_⟩
  rw [State.capturedAt, ends]
  refine ⟨marked.neighbor.trans record, marked.summary.trans ?_, marked.silence.trans ?_, ?_, marked.rx.trans ?_,
    marked.highMark.trans ?_, marked.attempt.trans ?_, marked.retryCount.trans ?_, kept, device, fun r mem => queue.queue.subset mem⟩
  · rw [← caps, State.port_capturing]
  · rw [← caps, State.port_capturing]
  · rw [marked.counters, ← caps, State.port_capturing]; rfl
  · rw [← caps, State.port_capturing]
  · rw [← caps, State.port_capturing]; rfl
  · rw [← caps, State.port_capturing]; rfl
  · rw [← caps, State.port_capturing]; rfl

end

/-! ## Frames at which the port fails -/

theorem Port.neighbor_fail {base : BaseFields} {pr : Params} {p : Fin 32} {cause : Cause} {stage : Nat} {lane : Option (Fin 4)}
    {pt : Port} (current : pt.neighbor.status = .current) :
    (pt.fail base pr p cause stage lane).neighbor = { pt.neighbor with status := .stale } := by
  obtain ⟨state, retry, timer, same⟩ := Port.fail_eq (base := base) (pr := pr) (p := p) (cause := cause) (stage := stage)
    (lane := lane) pt
  have kept : (pt.record cause stage lane).countLinkLoss.neighbor = pt.neighbor := by
    unfold Port.countLinkLoss; split <;> rfl
  rw [same]
  refine (?_ : (pt.record cause stage lane).countLinkLoss.leaveStages.makeStale.neighbor = _)
  generalize (pt.record cause stage lane).countLinkLoss = departed at kept
  have left_ : departed.leaveStages.neighbor = pt.neighbor := kept
  rw [Port.makeStale, left_, current]

section
variable {s : State} {p : Fin 32} {f : SidebandFrame} {sender : PeerId} {c : Instr} {more : State → State} {enters : Bool}

/-- A frame at which a port of no unfenced lane fails as it enters LANE_LOCK (R36). -/
theorem State.takeFrame_fenced (settled : s.settled) (at_ : (s.port p).state = .sideband)
    (later : 1 ≤ SidebandFrame.stageTaken f) (free : ¬ (s.port p).heldAt s.params .sideband = true)
    (used : ¬ (s.plan.state = .closed ∧ (s.expected p).kind = .unused)) (all : (s.port p).fenceMask = 15) :
    s.Only (s.takeFrame p sender f) ∧ (s.takeFrame p sender f).port p =
        ((((s.capturing p f sender).port p).raiseMark f).enterLaneLock s.params).fail (s.expected p).base s.params p .noLanes 2 none
      ∧ (s.takeFrame p sender f).judgeable p = false ∧ ∀ r ∈ (s.takeFrame p sender f).monitor.queue, lanePort r.lane ≠ p := by
  have caps := State.port_capturing (s := s) (p := p) (f := f) (sender := sender)
  have examined (w : State) (only : s.Only w) (port : w.port p = (s.capturing p f sender).port p) (different : Bool) :
      w.examineFrame p f different =
        ((w.modPort p (Port.raiseMark f)).modPort p (Port.enterLaneLock s.params)).fail p .noLanes 2 none := by
    have current : (w.port p).neighbor.status = .current := by rw [port, caps]; exact (Port.status_recordOf ..).1
    have expected : w.expected p = s.expected p := by rw [State.expected, State.expected, only.plan]
    rw [State.examineFrame_completes (by rw [port, caps]; exact at_) current later, State.completeSideband_fenced]
    · rw [State.params_modPort, only.params]
    · rw [State.port_modPort_self, State.params_modPort, only.params, port, caps]
      exact free
    · rw [State.plan_modPort, State.expected_modPort, only.plan, expected]
      exact used
    · rw [State.port_modPort_self, port, caps]
      exact all
  have fails (w : State) (only : s.Only w) (port : w.port p = (s.capturing p f sender).port p) :
      (((w.modPort p (Port.raiseMark f)).modPort p (Port.enterLaneLock s.params)).fail p .noLanes 2 none).port p =
        ((((s.capturing p f sender).port p).raiseMark f).enterLaneLock s.params).fail (s.expected p).base s.params p .noLanes 2 none := by
    rw [State.fail, State.port_withdrawPort, State.port_modPort_self, State.port_modPort_self, State.port_modPort_self, port,
      State.expected_modPort, State.expected_modPort, State.params_modPort, State.params_modPort, State.expected, State.expected,
      only.plan, only.params]
  have onlyCap : s.Only (s.capturing p f sender) := .modPort ..
  have onlyFail (w : State) : w.Only (((w.modPort p (Port.raiseMark f)).modPort p (Port.enterLaneLock s.params)).fail p .noLanes 2 none) :=
    ((State.Only.modPort ..).trans (.modPort ..)).trans (.fail ..)
  obtain ⟨-, -, stale, -⟩ := Port.left_fail (base := (s.expected p).base) (pr := s.params) (p := p) (cause := .noLanes) (stage := 2) (lane := none)
    ((((s.capturing p f sender).port p).raiseMark f).enterLaneLock s.params)
  rcases State.takeFrame_entry (f := f) (sender := sender) settled at_ (fun different => by
      rw [examined _ onlyCap rfl, fails _ onlyCap rfl]
      exact stale) with ⟨-, frame⟩ | ⟨-, different, frame⟩
  · rw [frame, examined _ onlyCap rfl]
    exact ⟨onlyCap.trans (onlyFail _), fails _ onlyCap rfl, State.judgeable_fail .., State.withdrawn _ _⟩
  · have onlyW := onlyCap.trans (State.Only.trigger (s.capturing p f sender) fun _ => true)
    have portW := State.port_trigger_apart (State.judgeable_capturing (f := f) (sender := sender) at_) fun _ => true
    rw [frame, examined _ onlyW portW]
    exact ⟨onlyW.trans (onlyFail _), fails _ onlyW portW, State.judgeable_fail .., State.withdrawn _ _⟩

/-- The failure as the frame's event leaves it. -/
theorem State.exec_frameFenced (settled : s.settled) (at_ : (s.port p).state = .sideband) (adds : KindAdds p more)
    (taken : exec c s = .next (s.finish ((more (s.takeFrame p sender f)).verdicts s fun _ => enters) [] []))
    (later : 1 ≤ SidebandFrame.stageTaken f) (free : ¬ (s.port p).heldAt s.params .sideband = true)
    (used : ¬ (s.plan.state = .closed ∧ (s.expected p).kind = .unused)) (all : (s.port p).fenceMask = 15) :
    ∃ t, exec c s = .next t ∧ s.failed t p .noLanes 2 none
      ∧ (t.port p).neighbor = { (s.port p).recordOf f sender with status := .stale } := by
  have caps := State.port_capturing (s := s) (p := p) (f := f) (sender := sender)
  obtain ⟨-, own, apartV, withdrawn⟩ := State.takeFrame_fenced (sender := sender) settled at_ later free used all
  generalize s.takeFrame p sender f = v at own apartV withdrawn taken
  obtain ⟨-, left_, -⟩ := Port.left_fail (base := (s.expected p).base) (pr := s.params) (p := p) (cause := .noLanes) (stage := 2)
    (lane := none) ((((s.capturing p f sender).port p).raiseMark f).enterLaneLock s.params)
  rw [← own] at left_
  obtain ⟨-, -, -, stopped⟩ := left_
  obtain ⟨echoes, added⟩ := adds.unanswered v (.inl stopped)
  rw [added] at taken
  have apart : (v.modPort p (Port.added (v.port p).burst echoes)).judgeable p = false :=
    (State.judgeable_added p).trans apartV
  obtain ⟨pending, tx, ends⟩ := State.port_finish_own (s := s) apart (fun _ => enters) [] []
  rw [State.port_modPort_self] at ends
  have gone : ∀ r ∈ (s.finish ((v.modPort p (Port.added (v.port p).burst echoes)).verdicts s fun _ => enters) [] []).monitor.queue,
      lanePort r.lane ≠ p := by
    have placed : v.Withdraws (v.modPort p (Port.added (v.port p).burst echoes)) := .of_eq rfl
    exact ((placed.trans (State.Withdraws.verdicts ..)).trans (State.Withdraws.finish ..)).none_of withdrawn
  generalize s.finish ((v.modPort p (Port.added (v.port p).burst echoes)).verdicts s fun _ => enters) [] [] = t at *
  have ended : t.port p = { v.port p with verdict := { (v.port p).verdict with pending := pending }, tx := tx } := by
    refine ends.trans ?_
    generalize v.port p = pt
    rfl
  refine ⟨t, taken, State.failed_of_port (b := (((s.capturing p f sender).port p).raiseMark f).enterLaneLock s.params) ?_
    ⟨pending, tx, own ▸ ended⟩ gone, ?_⟩
  · rw [caps]
    exact ⟨⟨nofun, fun active => nomatch at_.symm.trans active⟩, rfl, rfl, rfl, rfl⟩
  · have neighbor : (t.port p).neighbor = (v.port p).neighbor := by rw [ended]
    have current : ((((s.capturing p f sender).port p).raiseMark f).enterLaneLock s.params).neighbor = (s.port p).recordOf f sender := by
      rw [caps]; rfl
    rw [neighbor, own, Port.neighbor_fail (by rw [current]; exact (Port.status_recordOf ..).1), current]

/-- A frame under a CLOSED plan with an UNUSED record: VERIFY and its first verdict at once (R32, R40). -/
theorem State.exec_frameUnused (settled : s.settled) (at_ : (s.port p).state = .sideband) (adds : KindAdds p more)
    (taken : exec c s = .next (s.finish ((more (s.takeFrame p sender f)).verdicts s fun _ => enters) [] []))
    (later : 1 ≤ SidebandFrame.stageTaken f) (free : ¬ (s.port p).heldAt s.params .sideband = true)
    (unused : s.plan.state = .closed ∧ (s.expected p).kind = .unused) :
    ∃ t, exec c s = .next t ∧ s.failed t p .verdictFail 4 none
      ∧ (t.port p).neighbor = { (s.port p).recordOf f sender with status := .stale } ∧ (t.port p).verdict.cls = .fail
      ∧ .unplanned ∈ (t.port p).verdict.codes ∧ (t.port p).verdict.attempt = (s.port p).attempt := by
  have caps := State.port_capturing (s := s) (p := p) (f := f) (sender := sender)
  have current : ((s.capturing p f sender).port p).neighbor.status = .current := by rw [caps]; exact (Port.status_recordOf ..).1
  have frame : s.takeFrame p sender f = (s.capturing p f sender).modPort p fun pt => (pt.raiseMark f).enterDue s.params := by
    refine State.takeFrame_advances settled at_ (fun different => ?_) (by rw [State.port_modPort_self]; exact current)
    rw [State.examineFrame_completes (by rw [caps]; exact at_) current later, State.completeSideband_unused, State.modPort_modPort]
    · rfl
    · rw [State.port_modPort_self, caps]
      exact free
    · exact unused
  obtain ⟨b, echoes, added⟩ := adds.elsewhere ((s.capturing p f sender).modPort p fun pt => (pt.raiseMark f).enterDue s.params)
    (by rw [State.port_modPort_self]; nofun)
  rw [frame, added, State.modPort_modPort] at taken
  have own : ((s.capturing p f sender).modPort p fun pt => ((pt.raiseMark f).enterDue s.params).added b echoes).port p =
      ((((s.capturing p f sender).port p).raiseMark f).enterDue s.params).added b echoes := State.port_modPort_self ..
  have only : s.Only ((s.capturing p f sender).modPort p fun pt => ((pt.raiseMark f).enterDue s.params).added b echoes) :=
    (State.Only.modPort ..).trans (.modPort ..)
  generalize ((s.capturing p f sender).modPort p fun pt => ((pt.raiseMark f).enterDue s.params).added b echoes) = u at own only taken
  have closed : u.plan.state = .closed := only.plan ▸ unused.1
  have kind : (u.expected p).kind = .unused := by rw [State.expected, only.plan]; exact unused.2
  have due : u.verdictDue p = true := State.verdictDue_eq_true.mpr ⟨closed, false, by rw [own]; rfl⟩
  have computed : u.compute p = u.judge p (u.port p).heldNow (u.port p).attempt := by rw [State.compute, due]; rfl
  obtain ⟨unplanned, fails⟩ := State.unplanned_judge kind (u.port p).heldNow (u.port p).attempt
  rw [← computed] at unplanned fails
  have judged : u.judgedFirst (fun q => reportMade s u || (fun _ => enters) q) p = true := by rw [State.judgedFirst, due]; rfl
  have failedAt : (u.verdicts s fun _ => enters).port p = _ := State.port_trigger_fail closed judged fails
  have gone : ∀ r ∈ (s.finish (u.verdicts s fun _ => enters) [] []).monitor.queue, lanePort r.lane ≠ p :=
    (State.Withdraws.finish ..).none_of (State.withdrawn_trigger_fail closed judged fails)
  obtain ⟨tx, ended⟩ := concludePort_of_settled s (u.verdicts s fun _ => enters) p (pt := (u.verdicts s fun _ => enters).port p)
    (by rw [failedAt, Port.verdict_fail, computed]; rfl)
  rw [← State.port_finish s _ [] [], failedAt] at ended
  generalize s.finish (u.verdicts s fun _ => enters) [] [] = t at *
  have state : (u.port p).state = .verify (.planWait false) := by rw [own]; rfl
  have neighbor : (u.port p).neighbor = (s.port p).recordOf f sender := by rw [own, caps]; rfl
  have attempt : (u.port p).attempt = (s.port p).attempt := by rw [own, caps]; rfl
  have stakes : (s.port p).Stakes { u.port p with verdict := u.compute p } := by
    rw [own, caps]
    exact ⟨⟨nofun, fun active => nomatch at_.symm.trans active⟩, rfl, rfl, rfl, rfl⟩
  have verdict : (t.port p).verdict = u.compute p := by rw [ended]; exact Port.verdict_fail _
  rw [State.expected, only.plan, only.params, state] at ended
  refine ⟨t, taken, State.failed_of_port stakes ⟨_, tx, ended⟩ gone, ?_, verdict ▸ fails, verdict ▸ unplanned, ?_⟩
  · have left_ : (t.port p).neighbor = _ := congrArg Port.neighbor ended
    refine left_.trans ((Port.neighbor_fail (pt := { u.port p with verdict := u.compute p }) ?_).trans ?_)
    · rw [neighbor]; exact (Port.status_recordOf ..).1
    · rw [neighbor]
  · rw [verdict, computed, ← attempt]
    rfl

end

/-- Settles O39: the record is put in place and the PBE takes the frame (`State.takeFrame_sideband`); a port that goes on is left by
the verdicts as the PBE left it (`State.exec_captured`). -/
theorem firstFrameCapturesThePeer : Obligations.FirstFrameCapturesThePeer := by
  intro s p f lag sender c mem settled at_ collects chassis named port stage old same record held unused captured
  obtain ⟨more, adds, taken⟩ := State.exec_frame mem (by rw [at_]; rfl) collects chassis named port
  have caps := State.port_capturing (s := s) (p := p) (f := f) (sender := sender)
  have capAt : ((s.capturing p f sender).port p).state = .sideband := by rw [caps]; exact at_
  have current : ((s.capturing p f sender).port p).neighbor.status = .current := by rw [caps]; exact (Port.status_recordOf ..).1
  have is : (s.port p).recordOf f sender = record := Port.recordOf_eq f sender (s.port p)
  have whole {t : State} (at_t : s.capturedAt p f sender t) : captured t := by
    obtain ⟨neighbor, summary, rest⟩ := at_t
    exact ⟨neighbor.trans is, summary, rest⟩
  have heldAt : (s.port p).heldAt s.params .sideband = true ↔ held := by
    rw [Port.heldAt, Bool.and_eq_true, decide_eq_true_iff]
  have completes (later : 1 ≤ stage) (different : Bool) : (s.capturing p f sender).examineFrame p f different =
      ((s.capturing p f sender).modPort p (Port.raiseMark f)).completeSideband p :=
    State.examineFrame_completes capAt current later
  have marked : (((s.capturing p f sender).modPort p (Port.raiseMark f)).port p) = ((s.capturing p f sender).port p).raiseMark f :=
    State.port_modPort_self ..
  refine ⟨fun zero => ?stays, fun later isHeld => ?held, fun later free used all => ?fenced, fun later free is_ => ?unused,
    fun later free used some_ => ?lock⟩
  case stays =>
    obtain ⟨t, b, pending, tx, taken, ends, at_t⟩ := State.exec_captured settled at_ adds taken
      (fun different => State.examineFrame_stays capAt zero) caps rfl (.raiseMark f _) at_ rfl nofun
    refine ⟨t, taken, whole at_t, ?_⟩
    rw [ends]
    exact ⟨at_, rfl, rfl⟩
  case held =>
    have goes (different : Bool) : (s.capturing p f sender).examineFrame p f different = (s.capturing p f sender).modPort p fun pt =>
        (pt.raiseMark f).enterHeld .sideband (s.nextAfterSideband p) := by
      rw [completes later, State.completeSideband_held (by rw [marked, caps]; exact heldAt.mpr isHeld), State.modPort_modPort]
      rfl
    obtain ⟨t, b, pending, tx, taken, ends, at_t⟩ := State.exec_captured settled at_ adds taken goes caps rfl
      (.enterHeld f _ _ _) rfl rfl nofun
    refine ⟨t, taken, whole at_t, ?_⟩
    rw [ends]
    exact ⟨rfl, rfl, rfl⟩
  case fenced =>
    obtain ⟨t, taken, failed, neighbor⟩ := State.exec_frameFenced settled at_ adds taken later (heldAt.not.mpr free) used all
    exact ⟨t, taken, failed, is ▸ neighbor⟩
  case unused =>
    obtain ⟨t, taken, failed, neighbor, rest⟩ := State.exec_frameUnused settled at_ adds taken later (heldAt.not.mpr free) is_
    exact ⟨t, taken, failed, is ▸ neighbor, rest⟩
  case lock =>
    have goes (different : Bool) : (s.capturing p f sender).examineFrame p f different = (s.capturing p f sender).modPort p fun pt =>
        (pt.raiseMark f).enterLaneLock s.params := by
      rw [completes later, State.completeSideband_lock (w := (s.capturing p f sender).modPort p (Port.raiseMark f))
        (by rw [marked, caps]; exact heldAt.not.mpr free) used (by rw [marked, caps]; exact some_), State.modPort_modPort]
      rfl
    obtain ⟨t, b, pending, tx, taken, ends, at_t⟩ := State.exec_captured settled at_ adds taken goes caps rfl
      (.enterLaneLock f _ _) rfl rfl nofun
    refine ⟨t, taken, whole at_t, ?_⟩
    rw [ends]
    refine ⟨rfl, rfl, fun l unfenced => ?_⟩
    have lane : ∀ pt : Port, pt.fence l = false →
        (pt.enterLaneLock s.params).lane l = (pt.lane l).enterLaneLock s.params false := fun pt open_ => by
      rw [← open_]
      exact Table.get_mapFin ..
    have locking := lane (Port.raiseMark f { (s.port p).countValidFrame with
      rx := none
      neighbor := (s.port p).recordOf f sender
      summary := (s.port p).summaryOf sender
      silence := armMs (s.params.beaconInterval * s.params.silenceLimit) }) unfenced
    refine ⟨(congrArg Lane.state locking).trans rfl, (congrArg Lane.lockLosses locking).trans rfl,
      (congrArg Lane.current locking).trans rfl, (congrArg Lane.lockTimer locking).trans rfl⟩

end Sys2Proof.Machine

/-! SUPPORT. Frames from another sender, and frames in BACKOFF and FAULT (R73, R74). -/

namespace Sys2Proof.Machine

/-! ## A different sender in the stages -/

section
variable {s : State} {p : Fin 32} {pt : Port} {f : SidebandFrame} {sender : PeerId}

/-- A frame of a different sender shows a restart in every engaged state (Table 2-3). -/
theorem Port.showsRestart_different (engaged : pt.state.engaged = true) : pt.showsRestart f true = true := by
  unfold Port.showsRestart
  dsimp only
  rw [Bool.or_true, Bool.or_true]
  cases state : pt.state with
  | verify sub => cases sub with
    | planWait taken => cases taken <;> rfl
    | maskWait | ranging | readyWait => rfl
  | held stage next => cases stage <;> rfl
  | laneLock | align | active => rfl
  | disabled | waitCable | sideband | backoff | fault => rw [state] at engaged; cases engaged

/-- A port that restarted at a frame of a different sender, with the record rebuilt (R73; log entry 21). -/
def Port.replaced (pr : Params) (f : SidebandFrame) (sender : PeerId) (pt : Port) : Port :=
  ((({ pt.countValidFrame with rx := none } : Port).peerRestart pr).rebuild .current sender f).armSilence pr

/-- What it holds. -/
theorem Port.replaced_fields (pr : Params) (f : SidebandFrame) (sender : PeerId) (pt : Port) {after : Port}
    (is : after = pt.replaced pr f sender) :
    after.state = .sideband ∧ after.attempt = pt.attempt + 1 ∧ after.highMark = 0
      ∧ after.neighbor = pt.neighbor.rebuild .current sender f (pt.attempt + 1) ∧ after.summary = RangingSummary.reset
      ∧ after.silence = armMs (pr.beaconInterval * pr.silenceLimit)
      ∧ after.lastFailure = some ⟨.peerRestarted, pt.state.stageCode, none, pt.attempt⟩
      ∧ after.ready = false ∧ after.leftStages ∧ after.retryCount = pt.retryCount
      ∧ after.counters.peerRestarts = bump pt.counters.peerRestarts ∧ after.burst = Burst.reset := by
  obtain ⟨state, attempt, mark, isReady, retry, failure, left_, neighbor, -, burst, -, restarts, -⟩ :=
    ({ pt.countValidFrame with rx := none } : Port).peerRestart_fields pr
  unfold Port.replaced at is
  generalize ({ pt.countValidFrame with rx := none } : Port).peerRestart pr = gone at *
  subst is
  refine ⟨state, attempt, mark, ?_, rfl, rfl, failure, isReady, left_, retry, restarts, burst⟩
  show gone.neighbor.rebuild .current sender f gone.attempt = _
  rw [neighbor, attempt]
  rfl

theorem State.takeFrame_replaced (current : (s.port p).neighbor.status = .current)
    (other : (s.port p).neighbor.identity ≠ some sender) (engaged : (s.port p).state.engaged = true) :
    s.takeFrame p sender f = ((s.modPort p fun pt => { pt.countValidFrame with rx := none }).peerRestart p).modPort p
      fun pt => (pt.rebuild .current sender f).armSilence s.params := by
  have counted : (s.modPort p fun pt => { pt.countValidFrame with rx := none }).port p =
      { (s.port p).countValidFrame with rx := none } := State.port_modPort_self ..
  have reception : ((s.modPort p fun pt => { pt.countValidFrame with rx := none }).port p).reception sender = .replace := by
    rw [counted]
    exact Port.reception_replace current other
  unfold State.takeFrame
  dsimp only
  rw [reception]
  exact if_pos (by rw [counted]; exact Port.showsRestart_different engaged)

theorem State.port_takeFrame_replaced (current : (s.port p).neighbor.status = .current)
    (other : (s.port p).neighbor.identity ≠ some sender) (engaged : (s.port p).state.engaged = true) :
    (s.takeFrame p sender f).port p = (s.port p).replaced s.params f sender := by
  rw [State.takeFrame_replaced current other engaged, State.port_modPort_self, State.peerRestart, State.port_withdrawPort,
    State.port_modPort_self, State.port_modPort_self]
  rfl

end

/-! ## BACKOFF and FAULT -/

/-- A port that took a frame at rest: its record and what goes with it, the high mark and the count (R74). -/
def Port.resting (f : SidebandFrame) (n : Neighbor) (summary : RangingSummary) (pt : Port) : Port :=
  { pt with
    neighbor := n
    summary := summary
    rx := none
    highMark := max pt.highMark (SidebandFrame.stageTaken f)
    counters := { pt.counters with validFrames := bump pt.counters.validFrames } }

/-- The record that a frame leaves in BACKOFF and FAULT. -/
def Port.restingRecord (f : SidebandFrame) (sender : PeerId) (pt : Port) : Neighbor × RangingSummary :=
  match pt.neighbor.status with
  | .stale =>
    if pt.neighbor.identity = some sender then (pt.neighbor.refresh f, pt.summary)
    else (pt.neighbor.rebuild .stale sender f pt.attempt, RangingSummary.reset)
  | .empty | .current => (pt.neighbor, pt.summary)

section
variable {s : State} {p : Fin 32} {pt : Port} {f : SidebandFrame} {sender : PeerId}

theorem State.examineFrame_resting {w : State} {different : Bool}
    (at_ : (w.port p).state = .backoff ∨ (w.port p).state = .fault) :
    w.examineFrame p f different = w.modPort p (Port.raiseMark f) := by
  have calm : (w.port p).showsRestart f different = false := by
    unfold Port.showsRestart
    rcases at_ with at_ | at_ <;> rw [at_]
  have state : ((w.modPort p (Port.raiseMark f)).port p).state = (w.port p).state := by rw [State.port_modPort_self]; rfl
  rw [State.examineFrame_advance calm, State.advancePort, state]
  rcases at_ with at_ | at_ <;> rw [at_]

theorem State.takeFrame_resting (at_ : (s.port p).state = .backoff ∨ (s.port p).state = .fault)
    (status : (s.port p).neighbor.status ≠ .current) : ((s.port p).reception sender).enters = false
      ∧ s.takeFrame p sender f =
        s.modPort p (Port.resting f ((s.port p).restingRecord f sender).1 ((s.port p).restingRecord f sender).2) := by
  have counted : (s.modPort p fun pt => { pt.countValidFrame with rx := none }).port p =
      { (s.port p).countValidFrame with rx := none } := State.port_modPort_self ..
  have reception : ((s.modPort p fun pt => { pt.countValidFrame with rx := none }).port p).reception sender =
      (s.port p).reception sender := by rw [counted]; rfl
  have resting (g : Port → Port) (state : (g { (s.port p).countValidFrame with rx := none }).state = (s.port p).state) (d : Bool) :
      ((s.modPort p fun pt => { pt.countValidFrame with rx := none }).modPort p g).examineFrame p f d =
        s.modPort p fun pt => (g { pt.countValidFrame with rx := none }).raiseMark f := by
    rw [State.examineFrame_resting (by rw [State.port_modPort_self, counted, state]; exact at_), State.modPort_modPort,
      State.modPort_modPort]
  have outside : (s.port p).state ≠ .sideband := by rcases at_ with at_ | at_ <;> rw [at_] <;> nofun
  unfold State.takeFrame
  dsimp only
  rw [reception]
  unfold Port.reception Port.restingRecord
  dsimp only
  cases known : (s.port p).neighbor.status with
  | current => exact absurd known status
  | empty =>
    dsimp only
    rw [if_neg outside]
    have counts : (s.modPort p fun pt => { pt.countValidFrame with rx := none }).examineFrame p f false =
        s.modPort p (Port.resting f (s.port p).neighbor (s.port p).summary) := by
      rw [State.examineFrame_resting (by rw [counted]; exact at_), State.modPort_modPort]
      exact State.modPort_congr rfl
    exact ⟨rfl, counts⟩
  | stale =>
    dsimp only
    rw [if_neg outside]
    by_cases same : (s.port p).neighbor.identity = some sender
    · rw [decide_eq_true same, if_pos rfl, if_pos same]
      refine ⟨rfl, ?_⟩
      exact (resting (fun pt => { pt with neighbor := pt.neighbor.refresh f }) rfl false).trans (State.modPort_congr rfl)
    · rw [decide_eq_false same, if_neg Bool.false_ne_true, if_neg same]
      refine ⟨rfl, ?_⟩
      exact (resting (fun pt => pt.rebuild .stale sender f) rfl true).trans (State.modPort_congr rfl)

/-- Records that are not CURRENT show nothing to other ports. -/
theorem State.alone_resting (settled : s.settled) {n : Neighbor} {summary : RangingSummary}
    (before : (s.port p).neighbor.status ≠ .current) (after : n.status ≠ .current) :
    s.Alone (s.modPort p (Port.resting f n summary)) p := by
  refine .modPort ?_ ?_
  · rw [State.currentPeer, State.currentPeer, State.port_modPort_self, if_neg before]
    exact if_neg after
  · rw [State.verdictDue, State.port_modPort_self]
    exact settled.2.2 p

theorem State.event_resting (settled : s.settled) {n : Neighbor} {summary : RangingSummary}
    (before : (s.port p).neighbor.status ≠ .current) (after : n.status ≠ .current) :
    s.event (s.modPort p (Port.resting f n summary)) = s.modPort p (Port.resting f n summary) := by
  have alone := State.alone_resting (f := f) (summary := summary) settled before after
  have kept (q : Fin 32) : ((s.modPort p (Port.resting f n summary)).port q).state = (s.port q).state
      ∧ ((s.modPort p (Port.resting f n summary)).port q).verdict = (s.port q).verdict
      ∧ ((s.modPort p (Port.resting f n summary)).port q).tx = (s.port q).tx
      ∧ (s.modPort p (Port.resting f n summary)).advertised q = s.advertised q := by
    by_cases here : q = p
    · subst here
      simp only [State.advertised, State.port_modPort_self]
      exact ⟨rfl, rfl, rfl, rfl⟩
    · have same : (s.modPort p (Port.resting f n summary)).port q = s.port q := State.port_modPort_other _ _ here
      exact ⟨by rw [same], by rw [same], by rw [same], State.advertised_congr rfl same⟩
  refine State.event_quiet rfl (fun q => (kept q).1) (fun q => (kept q).2.1) (fun q => (kept q).2.2.2) alone.currentPeer
    (fun q => ?_) (alone.noneDue settled.2.2) settled.2.1.1
  show ((s.modPort p (Port.resting f n summary)).port q).tx.settled = true
  rw [(kept q).2.2.1]
  exact settled.1 q

end

end Sys2Proof.Machine

/-! SUPPORT. The peer kept mask taken in MASK_WAIT (R39), and the frames of others as their events leave them (R73, R74). -/

namespace Sys2Proof.Machine

section
variable {s : State} {p : Fin 32} {f : SidebandFrame} {sender : PeerId}

/-- A port whose transmitter sends ends an event with what waits as it was, but for a prompt beacon. -/
theorem concludePort_sending (before after : State) {p : Fin 32} {pt : Port} (sends : pt.tx.sending ≠ none) :
    ∃ pending waiting, concludePort before after p pt =
      { pt with verdict := { pt.verdict with pending := pending }, tx := { pt.tx with beaconWaiting := waiting } } := by
  have started (waiting : Bool) := SidebandTx.start_settled (tx := { pt.tx with beaconWaiting := waiting })
    (SidebandTx.settled_of_sending sends)
  obtain ⟨pending, tx, own⟩ := concludePort_eq before after p pt
  refine ⟨pending, promptDue before after p || pt.tx.beaconWaiting, own.trans ?_⟩
  have sent : tx = { pt.tx with beaconWaiting := promptDue before after p || pt.tx.beaconWaiting } := by
    have made : (concludePort before after p pt).tx = tx := by rw [own]
    rw [← made, concludePort]
    dsimp only
    cases promptDue before after p with
    | true => exact started true _ _ _
    | false => exact started pt.tx.beaconWaiting _ _ _
  rw [sent]

/-- A frame of the CURRENT peer with KEPT_VALID set starts the burst of a port in MASK_WAIT (R39; log entry 49). -/
theorem State.takeFrame_maskWait (at_ : (s.port p).state = .verify .maskWait) (current : (s.port p).neighbor.status = .current)
    (same : (s.port p).neighbor.identity = some sender) (cls : (s.port p).neighbor.cls = classTaken f.verdictClass)
    (expected : (s.port p).neighbor.expected = expectedTaken f.expectedChassis f.expectedPort) (kept : f.keptValid = true)
    (late : SidebandFrame.stageTaken f ≠ 0 ∧ SidebandFrame.stageTaken f ≠ 1) :
    s.takeFrame p sender f = s.modPort p fun pt => ((pt.refreshed s.params f).raiseMark f).enterRanging := by
  have calm : ((s.port p).refreshed s.params f).showsRestart f false = false := Port.showsRestart_late late (.inl at_)
  have state : (((s.modPort p (Port.refreshed s.params f)).modPort p (Port.raiseMark f)).port p).state = .verify .maskWait := by
    rw [State.port_modPort_self, State.port_modPort_self]
    exact at_
  have advances : ((s.modPort p (Port.refreshed s.params f)).modPort p (Port.raiseMark f)).advancePort p f =
      ((s.modPort p (Port.refreshed s.params f)).modPort p (Port.raiseMark f)).modPort p Port.enterRanging := by
    unfold State.advancePort
    dsimp only
    rw [state]
    exact if_pos kept
  rw [State.takeFrame_refresh current same cls expected, State.examineFrame_advance (by rw [State.port_modPort_self]; exact calm),
    advances, State.modPort_modPort, State.modPort_modPort]

theorem State.alone_maskWait : s.Alone (s.modPort p fun pt => ((pt.refreshed s.params f).raiseMark f).enterRanging) p := by
  refine .modPort ?_ ?_
  · rw [State.currentPeer, State.currentPeer, State.port_modPort_self, Port.enterRanging_eq]
    rfl
  · rw [← Bool.not_eq_true, State.verdictDue_eq_true, State.port_modPort_self, Port.enterRanging_eq]
    nofun

theorem Burst.unanswerable_started : Burst.started.unanswerable := .inr fun k => by
  rw [Burst.probe_started]
  dsimp only
  split <;> nofun

end

/-- Settles O41: a frame of a different sender restarts the port and rebuilds its record (`Port.replaced`); at rest it touches the
record alone (`State.takeFrame_resting`); in MASK_WAIT the peer's mask starts the burst (`State.takeFrame_maskWait`). -/
theorem framesFromOthersAndOutsideTheStages : Obligations.FramesFromOthersAndOutsideTheStages := by
  intro s p f lag sender c mem settled chassis named port collects before stage rebuilt refreshed taken leaves
  have rebuiltIs (status : NeighborStatus) (attempt : BitVec 32) :
      before.neighbor.rebuild status sender f attempt = rebuilt status attempt := rfl
  have record (same : before.neighbor.identity = some sender) : before.neighbor.refresh f = refreshed := by
    show ({ refreshed with identity := before.neighbor.identity } : Neighbor) = refreshed
    rw [same]
  refine ⟨fun current other engaged => ?stages, fun current other at_ zero => ?sideband, fun at_ => ?rest,
    fun at_ current same cls expected kept low high sends => ?mask⟩
  case stages =>
    obtain ⟨more, adds, run⟩ := State.exec_frame mem (PortState.sending_of_engaged engaged) collects chassis named port
    have own := State.port_takeFrame_replaced (f := f) current other engaged
    obtain ⟨state, attempt, mark, neighbor, summary, silence, failure, isReady, left_, retry, restarts, burst⟩ :=
      (s.port p).replaced_fields s.params f sender own
    have here : State.AtPort p s (s.takeFrame p sender f) := by
      rw [State.takeFrame_replaced current other engaged]
      exact ((State.AtPort.modPort ..).trans (.peerRestart ..)).trans (.modPort ..)
    have withdraws : s.Withdraws (s.takeFrame p sender f) := by
      rw [State.takeFrame_replaced current other engaged]
      have restarted := State.Withdraws.withdrawPort ((s.modPort p fun pt => { pt.countValidFrame with rx := none }).modPort p
        (Port.peerRestart (s.modPort p fun pt => { pt.countValidFrame with rx := none }).params)) p
      exact ⟨restarted.rest, restarted.queue⟩
    have only := State.Only.takeFrame s p sender f
    generalize s.takeFrame p sender f = v at *
    obtain ⟨echoes, added⟩ := adds.unanswered v (.inl (by rw [burst]; rfl))
    obtain ⟨t, pending, tx, run, ends, others, device, -⟩ := State.exec_apart settled only (fun q other _ => here.others q other)
      withdraws (State.judgeable_of_state state rfl nofun) added run
    refine ⟨t, run, ?_⟩
    rw [ends]
    exact ⟨state, attempt, mark, neighbor, summary, silence, failure, isReady, left_, retry, restarts, others, device⟩
  case sideband =>
    obtain ⟨more, adds, run⟩ := State.exec_frame mem (by rw [at_]; rfl) collects chassis named port
    have caps := State.port_capturing (s := s) (p := p) (f := f) (sender := sender)
    have different : ¬ (s.port p).neighbor.holds sender := fun holds => other holds.2
    obtain ⟨t, b, pending, tx, run, ends, neighbor, summary, -, -, -, -, attempt, -, others, device, -⟩ :=
      State.exec_captured settled at_ adds run
        (fun different => State.examineFrame_stays (by rw [caps]; exact at_) zero) caps rfl (.raiseMark f _) at_ rfl nofun
    rw [Port.recordOf, if_neg different] at neighbor
    rw [Port.summaryOf, if_neg different] at summary
    refine ⟨t, run, ?_, attempt, neighbor, summary, ?_, others, device⟩
    · rw [ends]; exact at_
    · rw [ends]; rfl
  case rest =>
    have rests (status : (s.port p).neighbor.status ≠ .current) (n : Neighbor) (summary : RangingSummary) (after : n.status ≠ .current)
        (record : (s.port p).restingRecord f sender = (n, summary)) : leaves (taken n summary) := by
      obtain ⟨quiet, frame⟩ := State.takeFrame_resting (f := f) (sender := sender) at_ status
      rw [record] at frame
      have alone := State.alone_resting (f := f) (summary := summary) settled status after
      have sends : (s.port p).state.sending = true := by rcases at_ with at_ | at_ <;> rw [at_] <;> rfl
      refine ⟨?beacon, fun stopped => ?any⟩
      case beacon =>
        obtain ⟨stamp, collecting⟩ := Option.ne_none_iff_exists'.mp collects
        have received := State.receive_of_valid (fun _ t => t) sends collecting (senderOf_eq_some.mpr ⟨chassis, named, port⟩)
        rw [frame, quiet] at received
        have run : exec (.beaconReceived p f) s = .next (s.event (s.modPort p (Port.resting f n summary))) :=
          congrArg (fun u => Host.Outcome.next (s.finish u [] [])) received
        rw [run, State.event_resting settled status after]
        rfl
      case any =>
        obtain ⟨more, adds, run⟩ := State.exec_frame mem sends collects chassis named port
        rw [frame] at run
        obtain ⟨echoes, added⟩ := adds.unanswered (s.modPort p (Port.resting f n summary))
          (.inl (by rw [State.port_modPort_self]; exact stopped))
        obtain ⟨t, run, own, others, device, monitor⟩ := State.exec_alone settled alone rfl added quiet run
        obtain ⟨tx, concluded⟩ := concludePort_of_not_bearing (before := s) (p := p)
          ((s.modPort p (Port.resting f n summary)).modPort p
            (Port.added ((s.modPort p (Port.resting f n summary)).port p).burst echoes))
          (((s.modPort p (Port.resting f n summary)).port p).added ((s.modPort p (Port.resting f n summary)).port p).burst echoes)
          (by rcases at_ with at_ | at_ <;> rw [at_] <;> rfl)
        refine ⟨t, run, ?_, others, device, monitor⟩
        rw [own, concluded]
        rfl
    refine ⟨fun stale same => ?_, fun stale other => ?_, fun empty => ?_⟩
    · refine rests (by rw [stale]; nofun) _ _ ?_ ?_
      · show (s.port p).neighbor.status ≠ .current
        rw [stale]; nofun
      · unfold Port.restingRecord
        rw [stale]
        dsimp only
        rw [if_pos same]
        exact congrArg (·, (s.port p).summary) (record same)
    · refine rests (by rw [stale]; nofun) _ _ nofun ?_
      unfold Port.restingRecord
      rw [stale]
      exact if_neg other
    · refine rests (by rw [empty]; nofun) _ _ ?_ ?_
      · show (s.port p).neighbor.status ≠ .current
        rw [empty]; nofun
      · unfold Port.restingRecord
        rw [empty]
  case mask =>
    obtain ⟨more, adds, run⟩ := State.exec_frame mem (by rw [at_]; rfl) collects chassis named port
    have late : SidebandFrame.stageTaken f = f.stage.toNat := SidebandFrame.stageTaken_of_le high
    rw [State.takeFrame_maskWait at_ current same cls expected kept (by omega), Port.reception_refresh current same] at run
    have atV : (s.modPort p fun pt => ((pt.refreshed s.params f).raiseMark f).enterRanging).port p =
        (((s.port p).refreshed s.params f).raiseMark f).enterRanging := State.port_modPort_self ..
    rw [Port.enterRanging_eq] at atV
    obtain ⟨echoes, added⟩ := adds.unanswered (s.modPort p fun pt => ((pt.refreshed s.params f).raiseMark f).enterRanging)
      (by rw [atV]; exact Burst.unanswerable_started)
    obtain ⟨t, runs, own, others, device, -⟩ := State.exec_alone settled State.alone_maskWait rfl added rfl run
    generalize s.modPort p (fun pt => ((pt.refreshed s.params f).raiseMark f).enterRanging) = v at *
    obtain ⟨pending, waiting, ends⟩ := concludePort_sending s (v.modPort p (Port.added (v.port p).burst echoes)) (p := p)
      (pt := (v.port p).added (v.port p).burst echoes) (by rw [atV]; exact sends)
    rw [ends] at own
    have neighbor : (v.port p).neighbor = (before.neighbor.refresh f).clearLength := by rw [atV]; rfl
    have burst : (v.port p).burst = Burst.started := by rw [atV]
    rw [record same] at neighbor
    refine ⟨t, runs, ?_, ?_, ?_, ?_, ?_, ?_, ?_, ?_, fun k => ?_, ?_, others, device⟩ <;> rw [own]
    · show (v.port p).state = _
      rw [atV]
    · exact neighbor
    · show (v.port p).neighbor.kept = _
      rw [neighbor]
      exact if_pos kept
    · show (v.port p).summary = _
      rw [atV]
    · show (v.port p).burst.running = _
      rw [burst]
      rfl
    · show (v.port p).burst.requested = _
      rw [burst]
      rfl
    · show (v.port p).burst.schedule = _
      rw [burst]
      rfl
    · show (v.port p).tx.probeWaiting = _
      rw [atV]
    · show (v.port p).burst.probes.get k = _
      rw [burst, Burst.probe_started]
    · show (v.port p).stageTimer = _
      rw [atV]
      rfl

end Sys2Proof.Machine

/-! SUPPORT. What a frame taken leaves of its port's transmitter (R63, R65) and of the ports that join no pass. -/

namespace Sys2Proof.Machine

/-! ## The transmitter and the count -/

/-- What a valid frame counts and an echo waits beside. -/
def Port.line (pt : Port) : Bool × List EchoSlot × Nat :=
  (pt.tx.sending.isSome, pt.tx.echoes, pt.counters.validFrames)

section
variable (pr : Params) (pt : Port)

theorem Port.line_countLinkLoss : pt.countLinkLoss.line = pt.line := by
  unfold Port.countLinkLoss
  split <;> rfl

theorem Port.line_leaveStages : pt.leaveStages.line = pt.line := by
  unfold Port.leaveStages Port.abandonBurst Port.line
  dsimp only
  rw [Option.isSome_map]

theorem Port.line_recover (base : BaseFields) (p : Fin 32) : (pt.recover base pr p).line = pt.line := by
  unfold Port.recover
  split
  · rfl
  · split <;> rfl

theorem Port.line_fail (base : BaseFields) (p : Fin 32) (cause : Cause) (stage : Nat) (lane : Option (Fin 4)) :
    (pt.fail base pr p cause stage lane).line = pt.line := by
  unfold Port.fail
  exact (Port.line_recover ..).trans ((Port.line_leaveStages _).trans (Port.line_countLinkLoss _))

theorem Port.line_accept : (pt.accept pr).line = pt.line := by
  unfold Port.accept
  split
  · rfl
  · unfold Port.enterReadyWait
    dsimp only
    split <;> rfl

theorem Port.line_act (base : BaseFields) (first : Bool) (p : Fin 32) : (pt.act base pr first p).line = pt.line := by
  unfold Port.act
  split
  · exact Port.line_fail ..
  · split
    · exact Port.line_accept ..
    · rfl
  · split
    · exact Port.line_accept ..
    · rfl
  · rfl

theorem Port.line_peerRestart : (pt.peerRestart pr).line = pt.line :=
  (Port.line_leaveStages _).trans (Port.line_countLinkLoss _)

theorem Port.line_enterRanging : pt.enterRanging.line = pt.line := by rw [Port.enterRanging_eq]; rfl

theorem Port.line_enterVerify (closed unused : Bool) : (pt.enterVerify pr closed unused).line = pt.line := by
  unfold Port.enterVerify Port.enterMaskWait Port.fallDue
  dsimp only
  split
  · split
    · exact Port.line_enterRanging _
    · rfl
  · split <;> rfl

end

/-! ## What a frame taken keeps -/

/-- A step of taking a frame at `p`: the transmitter of `p` and every port that joins no pass stay as they are. -/
structure State.Receives (p : Fin 32) (s t : State) : Prop where
  only : s.Only t
  withdraws : s.Withdraws t
  line : (t.port p).line = (s.port p).line
  apart : ∀ q : Fin 32, q ≠ p → s.judgeable q = false → t.port q = s.port q

namespace State.Receives

variable {s t u : State} {p : Fin 32}

theorem refl (s : State) : Receives p s s := ⟨.refl s, .refl s, rfl, fun _ _ _ => rfl⟩

theorem trans (h : Receives p s t) (k : Receives p t u) : Receives p s u :=
  ⟨h.only.trans k.only, h.withdraws.trans k.withdraws, k.line.trans h.line, fun q other low =>
    (k.apart q other ((State.judgeable_congr h.only.plan (h.apart q other low)).trans low)).trans (h.apart q other low)⟩

theorem of_port {g : Port → Port} (same : (g (s.port p)).line = (s.port p).line) : Receives p s (s.modPort p g) :=
  ⟨.modPort .., .of_eq rfl, by rw [State.port_modPort_self]; exact same, fun _ other _ => State.port_modPort_other _ _ other⟩

theorem withdrawPort (s : State) : Receives p s (s.withdrawPort p) :=
  ⟨.withdrawPort .., .withdrawPort .., by rw [State.port_withdrawPort], fun _ _ _ => by rw [State.port_withdrawPort]⟩

theorem fail (s : State) (cause : Cause) (stage : Nat) (lane : Option (Fin 4)) : Receives p s (s.fail p cause stage lane) :=
  (of_port (Port.line_fail ..)).trans (withdrawPort _)

theorem peerRestart (s : State) : Receives p s (s.peerRestart p) := (of_port (Port.line_peerRestart ..)).trans (withdrawPort _)

theorem examineLanes (s : State) : Receives p s (s.examineLanes p) := by
  unfold State.examineLanes
  dsimp only
  split
  · split
    · exact refl s
    · exact of_port rfl
    · exact fail ..
  · exact refl s

theorem goOn (s : State) (next : NextStep) : Receives p s (s.goOn p next) := by
  cases next with
  | laneLock => exact (of_port rfl).trans (examineLanes _)
  | verify => exact of_port (Port.line_enterVerify ..)
  | ready => exact refl s

theorem completeSideband (s : State) : Receives p s (s.completeSideband p) := by
  have stopped : Receives p s (s.modPort p fun pt => { pt with stageTimer := .stopped }) := of_port rfl
  unfold State.completeSideband
  dsimp only
  split
  · exact stopped.trans (of_port rfl)
  · exact stopped.trans (goOn ..)

theorem advancePort (s : State) (f : SidebandFrame) : Receives p s (s.advancePort p f) := by
  unfold State.advancePort
  dsimp only
  split
  · split
    · exact completeSideband s
    · exact refl s
  · split
    · exact of_port (Port.line_enterRanging _)
    · exact refl s
  · split
    · exact of_port rfl
    · exact refl s
  all_goals exact refl s

theorem examineFrame (s : State) (f : SidebandFrame) (different : Bool) : Receives p s (s.examineFrame p f different) := by
  unfold State.examineFrame
  split
  · exact peerRestart s
  · exact (of_port rfl).trans (advancePort ..)

/-- Verdicts change no transmitter before the event's end, and no port outside the pass. -/
theorem trigger (s : State) (selected : Fin 32 → Bool) : Receives p s (s.trigger selected) :=
  ⟨.trigger .., .trigger .., State.kept_trigger ⟨fun base pr first p pt => Port.line_act pr pt base first p, fun _ _ => rfl⟩ _ _,
    fun _ _ low => State.port_trigger_apart low _⟩

theorem verdicts (s before : State) (own : Fin 32 → Bool) : Receives p s (s.verdicts before own) := trigger ..

theorem examineEntry (s : State) (f : SidebandFrame) (different : Bool) : Receives p s (s.examineEntry p f different) := by
  rcases s.examineEntry_cases p f different with ⟨-, e⟩ | ⟨-, e⟩ <;> rw [e]
  · exact examineFrame ..
  · exact (trigger ..).trans (examineFrame ..)

/-- A frame taken, once its port has counted it. -/
theorem takeFrame (s : State) (sender : PeerId) (f : SidebandFrame) :
    Receives p (s.modPort p fun pt => { pt.countValidFrame with rx := none }) (s.takeFrame p sender f) := by
  unfold State.takeFrame
  dsimp only
  generalize s.modPort p (fun pt => { pt.countValidFrame with rx := none }) = w
  cases (w.port p).reception sender with
  | capture => exact (of_port rfl).trans (examineEntry ..)
  | refresh =>
    have refreshed : Receives p w (w.modPort p fun pt => Port.armSilence w.params { pt with neighbor := pt.neighbor.refresh f }) :=
      of_port rfl
    dsimp only
    unfold State.refreshRecord
    dsimp only
    split
    · exact (refreshed.trans (trigger ..)).trans (examineFrame ..)
    · exact refreshed.trans (examineFrame ..)
  | replace =>
    dsimp only
    unfold State.replaceRecord
    split
    · exact (peerRestart _).trans (of_port rfl)
    · exact Receives.trans (of_port rfl) (examineEntry ..)
  | staleSame | staleOther => exact Receives.trans (of_port rfl) (examineFrame ..)
  | ignored => exact examineFrame ..

end State.Receives

end Sys2Proof.Machine

/-! SUPPORT. PROBEs echoed and ECHOes matched (R65, R144, R147). -/

namespace Sys2Proof.Machine

/-! ## The probe that an ECHO answers -/

section
variable {b : Burst} {t1 : BitVec 32} {k : Fin 8}

theorem Burst.matching_eq_none
    (none_ : ∀ k : Fin 8, ¬ ((b.probes.get k).status = .outstanding ∧ (b.probes.get k).t1 = some t1)) : b.matching t1 = none := by
  unfold Burst.matching
  split
  · refine List.find?_eq_none.mpr fun k _ => ?_
    rw [Bool.and_eq_true, decide_eq_true_eq, decide_eq_true_eq]
    exact none_ k
  · rfl

/-- The lowest probe with the T1 is the one that matches. -/
theorem Burst.matching_eq_some (running : b.running = true) (outstanding : (b.probes.get k).status = .outstanding)
    (stamp : (b.probes.get k).t1 = some t1) (lowest : ∀ j : Fin 8, j < k → (b.probes.get j).t1 ≠ some t1) :
    b.matching t1 = some k := by
  rw [Burst.matching, if_pos running, List.find?_eq_some_iff_getElem]
  refine ⟨by simp [outstanding, stamp], k.val, by simp, by simp, fun j below => ?_⟩
  have other := lowest ⟨j, by omega⟩ below
  simp [other]

theorem Burst.answer_self (t4 : BitVec 32) (turnaround : BitVec 16) :
    (b.answer k t1 t4 turnaround).probes.get k = { b.probes.get k with
      status := .answered
      turnaround := some turnaround
      t4 := some t4
      net := some (netTime t1 t4 turnaround)
      timeout := .stopped } := Burst.get_modProbe_self

/-- A burst with another probe open is not completed by an answer. -/
theorem Burst.complete_answer (t4 : BitVec 32) (turnaround : BitVec 16) :
    (b.answer k t1 t4 turnaround).complete = true ↔ b.running = true ∧ ∀ j, j ≠ k → b.done j :=
  Burst.complete_modProbe_iff (.inl rfl)

end

/-- The outcome of a burst reads nothing that a frame's count, its receiver, the silence timer or the high mark hold. -/
theorem Port.finishBurst_outcome (kind : Fin 8) (delay : Nat) {a b : Port} (neighbor : a.neighbor = b.neighbor)
    (burst : a.burst = b.burst) (trim : a.trim = b.trim) : (a.finishBurst kind delay).summary = (b.finishBurst kind delay).summary
      ∧ (a.finishBurst kind delay).neighbor = (b.finishBurst kind delay).neighbor := by
  unfold Port.finishBurst
  rw [burst]
  dsimp only
  cases minOf b.burst.validSamples with
  | none =>
    unfold Port.finishShort
    rw [neighbor, trim]
    exact ⟨rfl, rfl⟩
  | some low =>
    dsimp only
    split
    · unfold Port.finishShort
      rw [neighbor, trim]
      exact ⟨rfl, rfl⟩
    · unfold Port.finishMeasured
      rw [neighbor, trim]
      exact ⟨rfl, rfl⟩

section
variable {s : State} {p : Fin 32} {f : SidebandFrame} {sender : PeerId}

/-- A frame of the CURRENT peer that shows no restart, in RANGING (R39). -/
theorem State.takeFrame_ranging (at_ : (s.port p).state = .verify .ranging) (current : (s.port p).neighbor.status = .current)
    (same : (s.port p).neighbor.identity = some sender) (cls : (s.port p).neighbor.cls = classTaken f.verdictClass)
    (expected : (s.port p).neighbor.expected = expectedTaken f.expectedChassis f.expectedPort) (kept : f.keptValid = true)
    (late : SidebandFrame.stageTaken f ≠ 0 ∧ SidebandFrame.stageTaken f ≠ 1) :
    s.takeFrame p sender f = s.modPort p fun pt => (pt.refreshed s.params f).raiseMark f := by
  have calm : ((s.port p).refreshed s.params f).showsRestart f false = false :=
    Port.showsRestart_late late (.inr ⟨.inl at_, kept⟩)
  have state : (((s.modPort p (Port.refreshed s.params f)).modPort p (Port.raiseMark f)).port p).state = .verify .ranging := by
    rw [State.port_modPort_self, State.port_modPort_self]
    exact at_
  have advances : ((s.modPort p (Port.refreshed s.params f)).modPort p (Port.raiseMark f)).advancePort p f =
      (s.modPort p (Port.refreshed s.params f)).modPort p (Port.raiseMark f) := by
    unfold State.advancePort
    dsimp only
    rw [state]
  rw [State.takeFrame_refresh current same cls expected, State.examineFrame_advance (by rw [State.port_modPort_self]; exact calm),
    advances, State.modPort_modPort]

/-- A change of a port in RANGING that leaves it there is seen at no other port. -/
theorem State.event_ranging (settled : s.settled) (at_ : (s.port p).state = .verify .ranging) {g : Port → Port}
    (state : (g (s.port p)).state = .verify .ranging) (status : (g (s.port p)).neighbor.status = (s.port p).neighbor.status)
    (identity : (g (s.port p)).neighbor.identity = (s.port p).neighbor.identity) :
    (∃ tx, (s.event (s.modPort p g)).port p = { g (s.port p) with tx := tx })
      ∧ ∀ q : Fin 32, q ≠ p → (s.event (s.modPort p g)).port q = s.port q := by
  have alone : s.Alone (s.modPort p g) p := by
    refine .modPort ?_ ?_
    · rw [State.currentPeer, State.currentPeer, State.port_modPort_self, status, identity]
    · rw [← Bool.not_eq_true, State.verdictDue_eq_true, State.port_modPort_self, state]
      nofun
  refine ⟨?_, alone.others settled⟩
  rw [alone.own settled, State.port_modPort_self]
  exact concludePort_of_not_bearing _ _ (by rw [at_]; rfl)

end

end Sys2Proof.Machine

/-! SUPPORT. PROBE and ECHO frames at their events (R65, R144). -/

namespace Sys2Proof.Machine

/-- A port in RANGING that took an ECHO which answers probe `k` (R39, R144). -/
def Port.answered (pr : Params) (f : SidebandFrame) (k : Fin 8) (t4 : BitVec 32) (pt : Port) : Port :=
  { (pt.refreshed pr f).raiseMark f with burst := pt.burst.answer k f.probeStamp t4 f.turnaround }

theorem Port.answered_fields (pr : Params) (f : SidebandFrame) (k : Fin 8) (t4 : BitVec 32) (pt : Port) :
    (pt.answered pr f k t4).state = pt.state ∧ (pt.answered pr f k t4).stageTimer = pt.stageTimer
      ∧ (pt.answered pr f k t4).neighbor = pt.neighbor.refresh f ∧ (pt.answered pr f k t4).trim = pt.trim
      ∧ (pt.answered pr f k t4).burst = pt.burst.answer k f.probeStamp t4 f.turnaround := ⟨rfl, rfl, rfl, rfl, rfl⟩

/-- A frame that a port in RANGING took, but for what its kind adds. -/
theorem Port.taken_fields (pr : Params) (f : SidebandFrame) (pt : Port) : ((pt.refreshed pr f).raiseMark f).state = pt.state
    ∧ ((pt.refreshed pr f).raiseMark f).neighbor = pt.neighbor.refresh f
    ∧ ((pt.refreshed pr f).raiseMark f).burst = pt.burst := ⟨rfl, rfl, rfl⟩

section
variable {s : State} {p : Fin 32} {f : SidebandFrame} {sender : PeerId}

/-- A PROBE taken while a frame is sent waits for its echo if a slot is free, whatever else the frame does to the port. -/
theorem State.exec_probe (settled : s.settled) (sends : (s.port p).state.sending = true) (collects : (s.port p).rx ≠ none)
    (valid : senderOf f = some sender) (busy : (s.port p).tx.sending ≠ none) : ∃ t, exec (.probeReceived p f) s = .next t
      ∧ (t.port p).line = (true, if (s.port p).tx.echoes.length < 2 then
          (s.port p).tx.echoes ++ [⟨f.probeStamp, s.timestamp⟩] else (s.port p).tx.echoes, bump (s.port p).counters.validFrames)
      ∧ s.otherPortsKept t p ∧ s.sameDevice t := by
  obtain ⟨stamp, collecting⟩ := Option.ne_none_iff_exists'.mp collects
  have received := State.receive_of_valid (fun _ t => t.modPort p (Port.placeEcho s.timestamp f)) sends collecting valid
  have taken := State.Receives.takeFrame (p := p) s sender f
  have counts : (s.modPort p fun pt => { pt.countValidFrame with rx := none }).port p =
      { (s.port p).countValidFrame with rx := none } := State.port_modPort_self ..
  have others (q : Fin 32) (other : q ≠ p) :
      (s.modPort p fun pt => { pt.countValidFrame with rx := none }).port q = s.port q := State.port_modPort_other _ _ other
  have only : s.Only (s.modPort p fun pt => { pt.countValidFrame with rx := none }) := .modPort ..
  have setups : (s.modPort p fun pt => { pt.countValidFrame with rx := none }).monitor = s.monitor := rfl
  generalize s.modPort p (fun pt => { pt.countValidFrame with rx := none }) = w at *
  have busyW : (w.port p).line = (true, (s.port p).tx.echoes, bump (s.port p).counters.validFrames) := by
    rw [counts]
    exact congrArg (·, _) (Option.isSome_iff_ne_none.mpr busy)
  generalize s.takeFrame p sender f = v at *
  have judged := State.Receives.verdicts (p := p) (v.modPort p (Port.placeEcho s.timestamp f)) s
    fun _ => ((s.port p).reception sender).enters
  have echoed : ((v.modPort p (Port.placeEcho s.timestamp f)).port p).line = (true, if (s.port p).tx.echoes.length < 2 then
      (s.port p).tx.echoes ++ [⟨f.probeStamp, s.timestamp⟩] else (s.port p).tx.echoes, bump (s.port p).counters.validFrames) := by
    have line := taken.line.trans busyW
    rw [Port.line, Prod.mk.injEq, Prod.mk.injEq] at line
    obtain ⟨sending, echoes, count⟩ := line
    rw [State.port_modPort_self, Port.placeEcho_eq, Port.line, ← sending, ← echoes, ← count]
  refine ⟨_, congrArg (fun u => Host.Outcome.next (s.finish u [] [])) received, ?_, fun q other low => ?_,
    State.sameDevice_finish ?_ ?_ _ _⟩
  · rw [State.port_finish]
    generalize (v.modPort p (Port.placeEcho s.timestamp f)).verdicts s
      (fun _ => ((s.port p).reception sender).enters) = u at *
    have line := judged.line.trans echoed
    have sendsU : (u.port p).tx.sending ≠ none := Option.isSome_iff_ne_none.mp (Prod.mk.inj line).1
    obtain ⟨pending, waiting, ends⟩ := concludePort_sending s u (p := p) sendsU
    rw [ends]
    exact line
  · have apart : w.judgeable q = false :=
      (State.judgeable_congr only.plan (others q other)).trans (State.not_judgeable_iff.mpr ⟨low, settled.2.2 q⟩)
    refine State.port_finish_other settled.1 settled.2.2 ((only.trans taken.only).trans (.modPort ..)) ?_ low _ _ _
    rw [State.port_modPort_other _ _ other]
    exact (taken.apart q other apart).trans (others q other)
  · exact ((only.trans taken.only).trans (.modPort ..)).trans judged.only
  · rw [judged.withdraws.setups, State.monitor_modPort, taken.withdraws.setups, setups]

/-- The last probe of a burst ends, by whatever `g` does, while the plan is not CLOSED (R39, R145). -/
theorem State.event_completeBurst (settled : s.settled) (open_ : s.plan.state ≠ .closed) (at_ : (s.port p).state = .verify .ranging)
    {g : Port → Port} (status : (g (s.port p)).neighbor.status = (s.port p).neighbor.status)
    (identity : (g (s.port p)).neighbor.identity = (s.port p).neighbor.identity) {t : State} {ended : Port}
    (ends : ended = (g (s.port p)).finishBurst (s.expected p).base.cableKind (s.params.cableDelays.get (s.expected p).base.cableKind))
    (is : t = s.event ((s.modPort p g).completeBurst p)) :
    (t.port p).state = .verify (.planWait true) ∧ (t.port p).stageTimer = (g (s.port p)).stageTimer.pause
      ∧ (t.port p).burst = Burst.reset ∧ (t.port p).summary = ended.summary ∧ (t.port p).neighbor = ended.neighbor
      ∧ ∀ q : Fin 32, q ≠ p → t.port q = s.port q := by
  obtain ⟨tx, own⟩ := State.port_completeBurst_event settled open_ at_ status identity
  have alone := State.alone_completeBurst (p := p) open_ status identity
  obtain ⟨_, _, _, _, -, outcome⟩ := Port.finishBurst_eq (g (s.port p)) (s.expected p).base.cableKind
    (s.params.cableDelays.get (s.expected p).base.cableKind)
  rw [← ends] at own outcome
  rw [← is] at own
  have timer : ended.stageTimer = (g (s.port p)).stageTimer := by rw [outcome]
  refine ⟨by rw [own]; rfl, ?_, ?_, by rw [own]; rfl, by rw [own]; rfl, fun q other => by rw [is]; exact alone.others settled q other⟩
  · rw [own, ← timer]
    rfl
  · have reset : ended.burst = Burst.reset := by rw [outcome]
    rw [own, ← reset]
    rfl

end

/-- Settles O43: a PROBE takes a slot of the transmitter that no other effect of its frame touches (`State.exec_probe`); an ECHO
answers the probe that `Burst.matching` finds, and the last answer completes the burst. -/
theorem probesAreEchoedAndEchoesMatched : Obligations.ProbesAreEchoedAndEchoesMatched := by
  refine ⟨fun s p f settled sends collects chassis port busy => ?probe, ?echo⟩
  case probe =>
    obtain ⟨sender, valid⟩ := senderOf_eq_some_of_valid chassis port
    obtain ⟨t, run, line, others, device⟩ := State.exec_probe settled sends collects valid busy
    rw [Port.line, Prod.mk.injEq, Prod.mk.injEq] at line
    obtain ⟨sending, echoes, count⟩ := line
    exact ⟨t, run, echoes, count, Option.isSome_iff_ne_none.mp sending, others, device⟩
  case echo =>
    intro s p f found lag sender settled collecting chassis named port current same cls expected at_ kept low high running t4
    have late : SidebandFrame.stageTaken f = f.stage.toNat := SidebandFrame.stageTaken_of_le high
    have frame := State.takeFrame_ranging at_ current same cls expected kept (by omega)
    have received := State.receive_of_valid (fun stamp t => t.matchEcho p f (echoStamp stamp lag)) (by rw [at_]; rfl) collecting
      (senderOf_eq_some.mpr ⟨chassis, named, port⟩)
    rw [frame, Port.reception_refresh current same] at received
    have run : exec (.echoReceived p f lag) s =
        .next (s.event ((s.modPort p fun pt => (pt.refreshed s.params f).raiseMark f).matchEcho p f t4)) :=
      congrArg (fun u => Host.Outcome.next (s.finish u [] [])) received
    have atV : (s.modPort p fun pt => (pt.refreshed s.params f).raiseMark f).port p =
      ((s.port p).refreshed s.params f).raiseMark f := State.port_modPort_self ..
    obtain ⟨stateV, neighborV, burstV⟩ := (s.port p).taken_fields s.params f
    have burst : ((s.modPort p fun pt => (pt.refreshed s.params f).raiseMark f).port p).burst = (s.port p).burst := by
      rw [atV, burstV]
    have fields (k : Fin 8) := (s.port p).answered_fields s.params f k t4
    have answered (k : Fin 8) (finds : (s.port p).burst.matching f.probeStamp = some k) :
        (s.modPort p fun pt => (pt.refreshed s.params f).raiseMark f).matchEcho p f t4 =
          (s.modPort p (Port.answered s.params f k t4)).checkBurst p := by
      rw [State.matchEcho, burst, finds]
      exact congrArg (State.checkBurst · p) (State.modPort_modPort ..)
    refine ⟨fun none_ => ?unmatched, fun k other outstanding stamp lowest differs notAnswered notTimedOut => ?open_,
      ?last⟩
    case unmatched =>
      rw [State.matchEcho_unmatched (by rw [burst]; exact Burst.matching_eq_none none_)] at run
      obtain ⟨⟨tx, own⟩, others⟩ := State.event_ranging settled at_ (g := fun pt => (pt.refreshed s.params f).raiseMark f)
        (stateV.trans at_) (by rw [neighborV]; rfl) (by rw [neighborV]; rfl)
      exact ⟨_, run, by rw [own]; exact burstV, by rw [own]; exact stateV.trans at_, others⟩
    case open_ =>
      obtain ⟨state, -, neighbor, -, burst⟩ := fields k
      have incomplete : ((s.port p).burst.answer k f.probeStamp t4 f.turnaround).complete = false := by
        rw [← Bool.not_eq_true, Burst.complete_answer]
        exact fun ⟨_, all⟩ => (all other differs).elim notAnswered notTimedOut
      rw [answered k (Burst.matching_eq_some running outstanding stamp lowest),
        State.checkBurst_of_open (.inr (by rw [State.port_modPort_self, burst]; exact incomplete))] at run
      obtain ⟨⟨tx, own⟩, others⟩ := State.event_ranging settled at_ (g := Port.answered s.params f k t4) (state.trans at_)
        (by rw [neighbor]; rfl) (by rw [neighbor]; rfl)
      refine ⟨_, run, ?_, fun j different => ?_, by rw [own]; exact state.trans at_, others⟩ <;> rw [own]
      · exact (congrArg (fun b => b.probes.get k) burst).trans (Burst.answer_self t4 f.turnaround)
      · exact (congrArg (fun b => b.probes.get j) burst).trans (Burst.get_modProbe_other different)
    case last =>
      intro k outstanding stamp lowest done open_ u
      obtain ⟨state, timer, neighbor, trim, burst⟩ := fields k
      have complete : ((s.port p).burst.answer k f.probeStamp t4 f.turnaround).complete = true :=
        (Burst.complete_answer t4 f.turnaround).mpr ⟨running, done⟩
      rw [answered k (Burst.matching_eq_some running outstanding stamp lowest),
        State.checkBurst_of_complete (by rw [State.port_modPort_self, state]; exact at_)
          (by rw [State.port_modPort_self, burst]; exact complete)] at run
      have atU : (u.completeBurst p).port p = ((u.port p).finishBurst (s.expected p).base.cableKind
          (s.params.cableDelays.get (s.expected p).base.cableKind)).enterPlanWait true := by
        rw [State.completeBurst_of_open (s := u) open_, State.port_modPort_self]
        rfl
      have answeredU : u.port p = { s.port p with
          neighbor := (s.port p).neighbor.refresh f
          burst := (s.port p).burst.answer k f.probeStamp t4 f.turnaround } := State.port_modPort_self ..
      obtain ⟨outcome, record⟩ := Port.finishBurst_outcome (s.expected p).base.cableKind
        (s.params.cableDelays.get (s.expected p).base.cableKind) (a := (s.port p).answered s.params f k t4) (b := u.port p)
        (by rw [answeredU, neighbor]) (by rw [answeredU, burst]) (by rw [answeredU, trim])
      obtain ⟨state, paused, burst, summary, neighbor, others⟩ := State.event_completeBurst settled open_ at_
        (g := Port.answered s.params f k t4) (by rw [neighbor]; rfl) (by rw [neighbor]; rfl) rfl rfl
      exact ⟨_, run, state, by rw [paused, timer], burst, by rw [summary, atU]; exact outcome,
        by rw [neighbor, atU]; exact record, others⟩

end Sys2Proof.Machine

/-! SUPPORT. What PLAN_END leaves of the verdicts it makes (R165, R169). -/

namespace Sys2Proof.Machine

theorem Port.sameButTx.fields {a b : Port} (h : a.sameButTx b) : b.state = a.state ∧ b.verdict = a.verdict :=
  have same (r : Port → PortState × Verdict) : r { b with tx := a.tx } = r a := congrArg r h
  Prod.mk.inj (same fun pt => (pt.state, pt.verdict))

section
variable {s : State} {tag : Byte} {generation : BitVec 16} {p : Fin 32}

/-- The framer that PLAN_END's frame leaves does not enter its verdicts. -/
theorem State.closingVerdict_hunt (s : State) (generation : BitVec 16) (p : Fin 32) :
    s.hunt.closingVerdict generation p = s.closingVerdict generation p := by
  have same (h : Held) (attempt : BitVec 32) :
      (s.hunt.closing generation).judge p h attempt = (s.closing generation).judge p h attempt :=
    State.judge_congr rfl rfl (fun _ => rfl) p h attempt
  unfold State.closingVerdict
  rw [same, same]
  rfl

/-- A verdict of PLAN_END that fails its port. -/
theorem State.port_closed_fail
    (judged : (s.port p).firstAt ((s.plan.close generation).cache.get p) ∨ s.againAt generation p)
    (fails : (s.closingVerdict generation p).cls = .fail) :
    ((s.closed tag generation).port p).verdict = s.closingVerdict generation p
      ∧ (((s.closed tag generation).port p).state = .backoff ∨ ((s.closed tag generation).port p).state = .fault) := by
  rw [← State.closingVerdict_hunt] at fails ⊢
  obtain ⟨verdict, state⟩ := State.port_closePlan_fail (s := s.hunt) judged fails
  rw [State.port_closed]
  obtain ⟨tx, own⟩ := concludePort_of_settled s.hunt (s.hunt.closePlan generation) p (pt := (s.hunt.closePlan generation).port p)
    (by rw [verdict]; exact (s.hunt.closingVerdict_fields generation p).1)
  rw [own]
  exact ⟨verdict, state⟩

/-- A PLAN_END at which no judged port fails. -/
theorem State.port_closed_pass (pass : ∀ p : Fin 32,
      (s.port p).firstAt ((s.plan.close generation).cache.get p) ∨ s.againAt generation p →
        (s.closingVerdict generation p).cls ≠ .fail) (p : Fin 32) :
    ((s.port p).firstAt ((s.plan.close generation).cache.get p) ∨ s.againAt generation p →
        ((s.closed tag generation).port p).verdict = s.closingVerdict generation p)
      ∧ (s.againAt generation p → ((s.closed tag generation).port p).state = (s.port p).state)
      ∧ (¬ ((s.port p).firstAt ((s.plan.close generation).cache.get p) ∨ s.againAt generation p) →
          ((s.closed tag generation).port p).verdict = (s.port p).verdict) := by
  obtain ⟨state, judged, unjudged⟩ := State.port_closePlan_pass (s := s.hunt) (generation := generation)
    (fun q judged => by rw [State.closingVerdict_hunt]; exact pass q judged) p
  have kept : (s.hunt.port p).state.bearing = true → ((s.hunt.closePlan generation).port p).state.bearing = true := fun bears => by
    rw [state bears]
    exact bears
  have own := concludePort_sameButTx kept
  rw [← State.port_closed s tag generation p] at own
  obtain ⟨stays, verdict⟩ := own.fields
  refine ⟨fun is => ?_, fun again => ?_, fun not => ?_⟩
  · rw [verdict, ← State.closingVerdict_hunt]
    exact judged is
  · rw [stays]
    exact state again.1
  · rw [verdict]
    exact unjudged not

end

end Sys2Proof.Machine

/-! SUPPORT. What a captured or replaced peer does to the verdict-bearing ports (R155, R165; log entry 44). -/

namespace Sys2Proof.Machine

/-! ## The capturing port -/

section
variable {w : State} {p : Fin 32} {f : SidebandFrame} {different : Bool}

/-- A CURRENT record taken to the PBE in SIDEBAND keeps its identity while it stays CURRENT, and starts no burst. -/
theorem State.examineFrame_identity (at_ : (w.port p).state = .sideband) (current : (w.port p).neighbor.status = .current) :
    ((w.examineFrame p f different).port p).state ≠ .verify .ranging
      ∧ (((w.examineFrame p f different).port p).neighbor.status = .current →
          ((w.examineFrame p f different).port p).neighbor.identity = (w.port p).neighbor.identity) := by
  have goes (g : Port → Port) (is : w.examineFrame p f different = w.modPort p g)
      (state : (g (w.port p)).state ≠ .verify .ranging) (kept : (g (w.port p)).neighbor = (w.port p).neighbor) :
      ((w.examineFrame p f different).port p).state ≠ .verify .ranging
      ∧ (((w.examineFrame p f different).port p).neighbor.status = .current →
          ((w.examineFrame p f different).port p).neighbor.identity = (w.port p).neighbor.identity) := by
    rw [is, State.port_modPort_self, kept]
    exact ⟨state, fun _ => rfl⟩
  have marked : (w.modPort p (Port.raiseMark f)).port p = (w.port p).raiseMark f := State.port_modPort_self ..
  by_cases zero : SidebandFrame.stageTaken f = 0
  · exact goes _ (State.examineFrame_stays at_ zero) (by rw [Port.raiseMark, at_]; nofun) rfl
  have examined := State.examineFrame_completes (f := f) (different := different) at_ current (by omega)
  by_cases held : ((w.modPort p (Port.raiseMark f)).port p).heldAt (w.modPort p (Port.raiseMark f)).params .sideband = true
  · rw [State.completeSideband_held held, State.modPort_modPort] at examined
    exact goes _ examined (by nofun) rfl
  by_cases unused : w.plan.state = .closed ∧ (w.expected p).kind = .unused
  · rw [State.completeSideband_unused held unused, State.modPort_modPort] at examined
    exact goes _ examined (by nofun) rfl
  by_cases all : ((w.modPort p (Port.raiseMark f)).port p).fenceMask = 15
  · rw [examined, State.completeSideband_fenced held unused all, State.fail, State.port_withdrawPort, State.port_modPort_self]
    refine ⟨fun ranging => ?_, fun fresh => ?_⟩
    · rcases Port.state_fail _ _ _ _ _ _ _ with state | state <;> exact nomatch state.symm.trans ranging
    · obtain ⟨-, -, stale, -⟩ := Port.left_fail _
      exact absurd fresh stale
  · rw [State.completeSideband_lock held unused all, State.modPort_modPort] at examined
    exact goes _ examined (by nofun) rfl

end

/-! ## The ports that a captured peer is judged at -/

section
variable {s u : State} {p q : Fin 32} {sender : PeerId}

/-- DUPLICATE_PEER is among the codes of a port whose CURRENT peer another port holds too (R155). -/
theorem State.duplicate_compute (h : (s.duplicatePartner p).isSome = true) : .duplicatePeer ∈ (s.compute p).codes := by
  have mem (held : Held) : Code.duplicatePeer ∈ s.codes p held :=
    (s.mem_codes_iff p held _).mpr ⟨by cases (s.expected p).kind <;> rfl, h⟩
  unfold State.compute
  dsimp only
  split <;> exact mem _

/-- A verdict-bearing port as the pass of a captured peer fails it. -/
def State.doubled (s : State) (q : Fin 32) (v : Verdict) : Port :=
  Port.fail (s.expected q).base s.params q .verdictFail (s.port q).state.stageCode none { s.port q with verdict := v }

/-- Under a CLOSED plan a trigger with the captured peer in place fails every verdict-bearing port that names it. -/
theorem State.trigger_duplicate (only : s.Only u) (closed : s.plan.state = .closed) (bears : (s.port q).state.bearing = true)
    (apart : p ≠ q) (port : u.port q = s.port q) (names : s.currentPeer q = some sender) (entered : u.currentPeer p = some sender)
    {selected : Fin 32 → Bool} (selects : selected q = true) :
    (u.trigger selected).port q = s.doubled q (u.compute q) ∧ (u.compute q).cls = .fail
      ∧ .duplicatePeer ∈ (u.compute q).codes ∧ (u.compute q).pending = false
      ∧ ∀ r ∈ (u.trigger selected).monitor.queue, lanePort r.lane ≠ q := by
  have closedU : u.plan.state = .closed := only.plan ▸ closed
  have peer : u.currentPeer q = some sender := by rw [State.currentPeer, port]; exact names
  have double : (u.duplicatePartner q).isSome = true := (State.duplicatePartner_isSome peer).mpr ⟨p, apart, entered⟩
  have fails := State.cls_compute_of_duplicate double
  have judged : u.judgedFirst selected q = true := by
    rw [State.judgedFirst, port, bears, selects]
    exact Bool.or_true _
  refine ⟨?_, fails, State.duplicate_compute double, State.pending_compute u q, State.withdrawn_trigger_fail closedU judged fails⟩
  rw [State.port_trigger_fail closedU judged fails, port, State.expected, only.plan, only.params]
  rfl

/-- A port so failed, once its event ends. -/
theorem State.failed_doubled {x : State} {v : Verdict} (port : x.port q = s.doubled q v) (settled : v.pending = false)
    (gone : ∀ r ∈ x.monitor.queue, lanePort r.lane ≠ q) (limits done : List Notice) :
    s.failed (s.finish x limits done) q .verdictFail (s.port q).state.stageCode none
      ∧ ((s.finish x limits done).port q).verdict = v := by
  have verdict : (x.port q).verdict = v := by rw [port]; exact Port.verdict_fail _
  obtain ⟨tx, own⟩ := concludePort_of_settled s x q (pt := x.port q) (by rw [verdict]; exact settled)
  rw [← State.port_finish s x limits done] at own
  refine ⟨State.failed_of_port (b := { s.port q with verdict := v }) ⟨Iff.rfl, rfl, rfl, rfl, rfl⟩ ?_
    ((State.Withdraws.finish ..).none_of gone), ?_⟩
  · rw [own, port]
    exact ⟨_, tx, rfl⟩
  · rw [own]
    exact verdict

theorem State.judgeable_doubled {v : Verdict} (port : u.port q = s.doubled q v) : u.judgeable q = false := by
  rcases Port.state_fail (s.expected q).base s.params q .verdictFail (s.port q).state.stageCode none
    { s.port q with verdict := v } with state | state
  all_goals exact State.judgeable_of_state ((congrArg Port.state port).trans state) rfl nofun

/-- A verdict-bearing port with its pending flag set. -/
def Port.pended (pt : Port) : Port := { pt with verdict := { pt.verdict with pending := true } }

/-- While the plan is not CLOSED a trigger that selects a verdict-bearing port sets its pending flag (R165). -/
theorem State.port_trigger_pending (open_ : u.plan.state ≠ .closed) (bears : (u.port q).state.bearing = true)
    {selected : Fin 32 → Bool} (selects : selected q = true) : (u.trigger selected).port q = (u.port q).pended := by
  rw [State.trigger, if_neg open_, State.port_mapPorts, bears, selects]
  rfl

end

end Sys2Proof.Machine

/-! SUPPORT. Frames that capture or replace a peer in SIDEBAND (R71, R73, R155, R165), and the triggers together. -/

namespace Sys2Proof.Machine

section
variable {s : State} {p q : Fin 32} {f : SidebandFrame} {sender : PeerId} {c : Instr} {lag : Fin 126}

/-- A frame that brings an identity into CURRENT, up to the verdicts of its event: either these find the record CURRENT, or the
report's own pass was made before the PBE took the record out of CURRENT (log entry 44). -/
theorem State.exec_entering (mem : c ∈ [Instr.beaconReceived p f, .probeReceived p f, .echoReceived p f lag]) (settled : s.settled)
    (at_ : (s.port p).state = .sideband) (collects : (s.port p).rx ≠ none) (other : s.currentPeer p ≠ some sender)
    (chassis : f.senderChassis ≠ 0) (named : sender.chassis = f.senderChassis) (port : sender.port.val = f.senderPort.toNat) :
    ∃ u, exec c s = .next (s.finish (u.verdicts s fun _ => true) [] []) ∧ s.Only u
      ∧ (u.currentPeer p = some sender ∧ (∀ q : Fin 32, q ≠ p → u.port q = s.port q)
        ∨ ((s.capturing p f sender).trigger fun _ => true).Withdraws u
          ∧ ∀ q : Fin 32, q ≠ p → u.port q = ((s.capturing p f sender).trigger fun _ => true).port q) := by
  obtain ⟨more, adds, run⟩ := State.exec_frame mem (by rw [at_]; rfl) collects chassis named port
  have caps := State.port_capturing (s := s) (p := p) (f := f) (sender := sender)
  have different : ¬ (s.port p).neighbor.holds sender := fun holds => other ((if_pos holds.1).trans holds.2)
  have record := Port.status_recordOf f sender (s.port p)
  have onlyW : s.Only (s.capturing p f sender) := .modPort ..
  have added (v : State) (ranging : (v.port p).state ≠ .verify .ranging) : v.Only (more v) ∧ v.Withdraws (more v)
      ∧ (∀ q : Fin 32, q ≠ p → (more v).port q = v.port q) ∧ (more v).currentPeer p = v.currentPeer p := by
    obtain ⟨b, echoes, more⟩ := adds.elsewhere v ranging
    rw [more]
    refine ⟨.modPort .., .of_eq rfl, fun q away => State.port_modPort_other _ _ away, ?_⟩
    rw [State.currentPeer, State.currentPeer, State.port_modPort_self]
    rfl
  rcases State.takeFrame_sideband (f := f) settled at_ with ⟨same, -⟩ | ⟨-, enters, d, frame⟩
  · exact absurd same different
  rw [enters, frame] at run
  rcases (s.capturing p f sender).examineEntry_cases p f d with ⟨current, entry⟩ | ⟨-, entry⟩
  · obtain ⟨ranging, identity⟩ := State.examineFrame_identity (f := f) (different := d) (w := s.capturing p f sender) (p := p)
      (by rw [caps]; exact at_) (by rw [caps]; exact record.1)
    obtain ⟨only, -, others, peer⟩ := added ((s.capturing p f sender).examineFrame p f d) ranging
    rw [entry] at run
    refine ⟨_, run, (onlyW.trans (.examineFrame ..)).trans only, .inl ⟨?_, fun q away => (others q away).trans ?_⟩⟩
    · rw [peer, State.currentPeer, if_pos current, identity current, caps]
      exact record.2
    · exact ((State.AtPort.examineFrame (s.capturing p f sender) p f d).others q away).trans (State.port_modPort_other _ _ away)
  · have kept := State.port_trigger_apart (State.judgeable_capturing (f := f) (sender := sender) at_) fun _ => true
    obtain ⟨ranging, -⟩ := State.examineFrame_identity (f := f) (different := d)
      (w := (s.capturing p f sender).trigger fun _ => true) (p := p) (by rw [kept, caps]; exact at_)
      (by rw [kept, caps]; exact record.1)
    obtain ⟨only, withdraws, others, -⟩ := added (((s.capturing p f sender).trigger fun _ => true).examineFrame p f d) ranging
    have examined := State.Receives.examineFrame (p := p) ((s.capturing p f sender).trigger fun _ => true) f d
    rw [entry] at run
    exact ⟨_, run, ((onlyW.trans (.trigger ..)).trans examined.only).trans only, .inr ⟨examined.withdraws.trans withdraws,
      fun q away => (others q away).trans ((State.AtPort.examineFrame _ p f d).others q away)⟩⟩

/-- What such a frame does to a verdict-bearing port. -/
theorem State.entering_bearing {u : State} (at_ : (s.port p).state = .sideband) (only : s.Only u)
    (made : u.currentPeer p = some sender ∧ (∀ q : Fin 32, q ≠ p → u.port q = s.port q)
      ∨ ((s.capturing p f sender).trigger fun _ => true).Withdraws u
        ∧ ∀ q : Fin 32, q ≠ p → u.port q = ((s.capturing p f sender).trigger fun _ => true).port q)
    (bears : (s.port q).state.bearing = true) :
    (s.plan.state ≠ .closed →
        Port.sameButTx (s.port q).pended ((s.finish (u.verdicts s fun _ => true) [] []).port q))
      ∧ (s.plan.state = .closed → s.currentPeer q = some sender →
        s.failed (s.finish (u.verdicts s fun _ => true) [] []) q .verdictFail (s.port q).state.stageCode none
          ∧ ((s.finish (u.verdicts s fun _ => true) [] []).port q).verdict.cls = .fail
          ∧ .duplicatePeer ∈ ((s.finish (u.verdicts s fun _ => true) [] []).port q).verdict.codes) := by
  have away : q ≠ p := fun here => by rw [here, at_] at bears; cases bears
  have selects : (fun q => reportMade s u || (fun _ => true) q) q = true := Bool.or_true _
  have portW : (s.capturing p f sender).port q = s.port q := State.port_modPort_other _ _ away
  have onlyW : s.Only (s.capturing p f sender) := .modPort ..
  refine ⟨fun open_ => ?pending, fun closed names => ?failed⟩
  case pending =>
    have pended : u.port q = s.port q ∨ u.port q = (s.port q).pended := by
      rcases made with ⟨-, others⟩ | ⟨-, others⟩
      · exact .inl (others q away)
      · refine .inr ((others q away).trans ?_)
        refine (State.port_trigger_pending (u := s.capturing p f sender) open_ (by rw [portW]; exact bears) rfl).trans ?_
        rw [portW]
    have bearsU : (u.port q).state.bearing = true := by rcases pended with is | is <;> rw [is] <;> exact bears
    have judged : (u.verdicts s fun _ => true).port q = (s.port q).pended := by
      refine (State.port_trigger_pending (only.plan ▸ open_) bearsU selects).trans ?_
      rcases pended with is | is
      · rw [is]
      · rw [is]
        rfl
    obtain ⟨tx, own⟩ := concludePort_bearing s (after := u.verdicts s fun _ => true) (p := q) (pt := (s.port q).pended) bears
    rw [State.port_finish, judged, own]
  case failed =>
    obtain ⟨v, port, fails, mem, settled, gone⟩ : ∃ v, (u.verdicts s fun _ => true).port q = s.doubled q v ∧ v.cls = .fail
        ∧ .duplicatePeer ∈ v.codes ∧ v.pending = false
        ∧ ∀ r ∈ (u.verdicts s fun _ => true).monitor.queue, lanePort r.lane ≠ q := by
      rcases made with ⟨entered, others⟩ | ⟨withdraws, others⟩
      · exact ⟨_, State.trigger_duplicate only closed bears away.symm (others q away) names entered selects⟩
      · have entered : (s.capturing p f sender).currentPeer p = some sender := by
          have record := Port.status_recordOf f sender (s.port p)
          rw [State.currentPeer, State.port_capturing]
          exact (if_pos record.1).trans record.2
        obtain ⟨port, fails, mem, settled, gone⟩ := State.trigger_duplicate onlyW closed bears away.symm portW names entered
          (selected := fun _ => true) rfl
        refine ⟨_, ?_, fails, mem, settled, (State.Withdraws.verdicts ..).none_of (withdraws.none_of gone)⟩
        have portU := (others q away).trans port
        exact (State.port_verdicts_apart (State.judgeable_doubled portU) ..).trans portU
    obtain ⟨failed, verdict⟩ := State.failed_doubled port settled gone [] []
    exact ⟨failed, verdict ▸ fails, verdict ▸ mem⟩

end

/-- Settles O60: a burst's end (`State.burstJudged`) and a plan close (`State.port_closed_fail`, `State.port_closed_pass`) judge what
they make due; a captured peer judges every verdict-bearing port with the record in place (`State.entering_bearing`). -/
theorem verdictsAreMadeAtTheirTriggers : Obligations.VerdictsAreMadeAtTheirTriggers := by
  refine ⟨?burst, ?close, ?capture⟩
  case burst =>
    intro s p k settled closed ranging runs outstanding running all u v
    exact ⟨_, State.exec_probeTimeout_last ranging runs outstanding running all,
      State.burstJudged settled closed ranging rfl rfl rfl⟩
  case close =>
    intro s tag generation ready loading nonzero pl u first again v
    refine ⟨_, State.exec_planEnd ready loading nonzero, fun p judged => ?_, fun pass => ⟨fun p judged => ?_, fun p is => ?_,
      fun p notFirst notAgain => ?_⟩⟩
    · obtain ⟨settled, epoch⟩ := s.closingVerdict_fields generation p
      exact ⟨settled, epoch, fun fails => State.port_closed_fail judged fails⟩
    · exact (State.port_closed_pass pass p).1 judged
    · exact (State.port_closed_pass pass p).2.1 is
    · exact (State.port_closed_pass pass p).2.2 fun judged => judged.elim notFirst notAgain
  case capture =>
    intro s p f lag sender c mem settled at_ collects other chassis named port
    obtain ⟨u, run, only, made⟩ := State.exec_entering mem settled at_ collects other chassis named port
    refine ⟨_, run, fun loading q bears => ?_, fun closed q bears names => ?_⟩
    · exact (State.entering_bearing at_ only made bears).1 (by rw [loading]; nofun)
    · exact (State.entering_bearing at_ only made bears).2 closed names

end Sys2Proof.Machine
